-- ==== Sys2Proof/Word.lean ====
section
/-! DEFINITION. The word types of the part (bytes, samples, frames), the numbers of its channels, and vectors
built from a function. -/

namespace Sys2Proof

/-- A byte of a control frame, of a link frame or of clip memory (R189, R202). -/
abbrev Byte := BitVec 8

/-- A sample: 16-bit two's complement, -32768..32767 (Introduction, Timebase). -/
abbrev Sample := BitVec 16

/-- The 16 samples of one mix period, position 0 first. -/
abbrev Frame := Vector Sample 16

/-- Pods 1 to 24: pod number n is the value n - 1. -/
abbrev Pod := Fin 24

/-- Trunks T1 to T4 (channels and outputs 25 to 28): T1 is 0. -/
abbrev Trunk := Fin 4

/-- Prompt players P1 and P2 (channels 29 and 30): P1 is 0. -/
abbrev Player := Fin 2

/-- Record buses REC-A and REC-B (outputs 29 and 30): REC-A is 0. -/
abbrev RecordBus := Fin 2

/-- Input channels 1 to 30: channel n is the value n - 1. -/
abbrev Channel := Fin 30

/-- Outputs 1 to 30: output n is the value n - 1. -/
abbrev Output := Fin 30

/-- Clips 1 to 32: clip id n is the value n - 1 (R145). -/
abbrev ClipId := Fin 32

/-- Memory pages 0 to 511 (R144). -/
abbrev PageNumber := Fin 512

/-- The vector whose element i is `f i`. -/
def Vec.tab {α : Type} {n : Nat} (f : Fin n → α) : Vector α n :=
  ⟨⟨List.ofFn f⟩, by simp⟩

@[simp] theorem Vec.getElem_tab {α : Type} {n : Nat} (f : Fin n → α) (i : Nat) (h : i < n) :
    (Vec.tab f)[i] = f ⟨i, h⟩ := by
  simp [Vec.tab]

/-- `v` with `x` at place `i`. -/
def Vec.put {α : Type} {n : Nat} (v : Vector α n) (i : Fin n) (x : α) : Vector α n :=
  v.set i.1 x i.2

@[simp] theorem Vec.getElem_put_self {α : Type} {n : Nat} (v : Vector α n) (i : Fin n) (x : α) :
    (Vec.put v i x)[i.1] = x := by
  simp [Vec.put]

theorem Vec.getElem_put {α : Type} {n : Nat} (v : Vector α n) (i : Fin n) (x : α) (j : Nat) (h : j < n) :
    (Vec.put v i x)[j] = if i.1 = j then x else v[j] := by
  simp [Vec.put, Vector.getElem_set]

@[simp] theorem Vec.getElem_put_ne {α : Type} {n : Nat} (v : Vector α n) (i : Fin n) (x : α) (j : Nat)
    (h : j < n) (hne : i.1 ≠ j) : (Vec.put v i x)[j] = v[j] := by
  simp [Vec.getElem_put, hne]

/-- All 24 pods in ascending number. -/
def allPods : List Pod := List.finRange 24

theorem mem_allPods (p : Pod) : p ∈ allPods := List.mem_finRange p

/-- 16 samples of 0. -/
def silentFrame : Frame := Vec.tab fun _ => 0

end Sys2Proof
end

