-- ==== Sys2Proof/Syntax.lean ====
section
/-! DEFINITION. The commands of the part: one constructor of Instr per row of spec/opcode_table.json, with the row's
operands. Request fields stand as the bits the host sends (R201), so that a value outside its range can be sent. -/

namespace Sys2Proof

/-- The frame record of a well-formed mic frame (R28). -/
structure MicFrame where
  sequence : BitVec 4
  /-- TALK level, true if pressed. -/
  talk : Bool
  /-- ALL level, true if pressed. -/
  all : Bool
  samples : Frame
  deriving DecidableEq, Repr

/-- One segment of a CUE as the host sends it, 10 bytes (R203). -/
structure SegmentFields where
  clip : Byte
  start : BitVec 24
  playLength : BitVec 24
  loopBlock : Byte
  gain : Byte
  nextAction : Byte
  deriving DecidableEq, Repr

/-- One piece of work of a mix period boundary whose order against the others the spec leaves open (R73, R169, R173,
R197): the take of a link, the mute controller's two passes over the key levels, the automixer's four steps, one
player's work, the level controller's counting, the session controller's arrival. -/
inductive Work where
  | take (p : Pod)
  | keys
  | automixer
  | player (n : Player)
  | levelControl
  | session
  deriving DecidableEq, Repr

/-- The commands. -/
inductive Instr where
  /-- R1. `order` says which work is taken first where the spec lets either be first (log entry 3); `trunks` holds the
  16 samples that each trunk port received during the period just ended (R4). -/
  | mixPeriodBoundary (order : List Work) (trunks : Vector Frame 4)
  /-- R27: a frame candidate ends. `stopBitsOk` says that every byte of it had a correct stop bit. -/
  | micFrameArrival (pod : Pod) (candidate : List Byte) (stopBitsOk : Bool)
  /-- R30: the arrival of a well-formed frame that completes the lock. -/
  | lockCount (pod : Pod) (frame : MicFrame)
  /-- R32: the take that brings the settle counter to the settle frames. -/
  | settleDone (pod : Pod)
  /-- R31: the boundary that brings the silence run to the unlock count. -/
  | silence (pod : Pod)
  /-- R33, R34: the empty take that brings the coast run to the unlock count. -/
  | unlock (pod : Pod)
  /-- R36: the arrival that brings the restart run to 4. -/
  | restart (pod : Pod) (frame : MicFrame)
  /-- R65: the judgement that brings the count to the open count and collects the slot request. -/
  | openCountReached (pod : Pod)
  /-- R66, R67: the judgement that brings the hold count to the hold frames, and the expiry. -/
  | holdExpiry (pod : Pod)
  /-- R68: the judgement that brings the below-count to the hold frames, and the time-out. -/
  | waitTimeout (pod : Pod)
  /-- R52: the update that brings the rise counter to 64. -/
  | noiseFloorRise (channel : Channel)
  /-- R116: the interval position reaches the interval length. -/
  | intervalEnd
  /-- R166: the sample taken at `position` brings the played count to the play length. -/
  | segmentEnd (player : Player) (position : Fin 16)
  /-- R179. -/
  | masterRampArrival
  /-- R167. -/
  | playerRampArrival (player : Player)
  /-- R191: a complete frame with the N bytes `body` and the check byte `check`, whose sum is not 0. -/
  | badCheckFrame (body : List Byte) (check : Byte)
  /-- R190: a byte received with a framing error; `byte` is the value sampled. -/
  | framingError (byte : Byte)
  /-- R190: a length byte outside 2..242. -/
  | badFrameLength (byte : Byte)
  /-- R192. -/
  | gapTimerExpiry
  /-- R196. -/
  | messageSent
  /-- R193, R194: a correct request of an undefined type. -/
  | unknownRequest (type tag : Byte) (payload : List Byte)
  /-- R185: the supply rises; `pinHeld` says that the RESET pin is held asserted meanwhile. -/
  | powerOn (pinHeld : Bool)
  /-- R185: the RESET pin is asserted. -/
  | resetPin
  /-- R186: the last byte of the RESET answer has left the line. -/
  | softReset
  /-- R187. -/
  | resetEnd
  /-- R186. -/
  | reset (tag : Byte)
  /-- R177. -/
  | start (tag : Byte)
  /-- R178. -/
  | stop (tag : Byte)
  /-- R181. -/
  | setRoster (tag : Byte) (pods chairs trunks : List Byte)
  /-- R183. -/
  | getRoster (tag : Byte)
  /-- R184. -/
  | getStatus (tag : Byte)
  /-- R198. -/
  | setReports (tag mask : Byte)
  /-- R46. -/
  | setLinkParams (tag lockCount : Byte) (settleFrames : BitVec 16) (unlockCount window : Byte)
  /-- R47. -/
  | getLinks (tag first count clear : Byte)
  /-- R58. -/
  | getLevels (tag first count : Byte)
  /-- R60. -/
  | getOutputLevels (tag first count : Byte)
  /-- R81. -/
  | setAutomix (tag limit margin gateFloor openCount : Byte) (holdFrames : BitVec 16)
      (attack release offAttenuation lastMicHold : Byte)
  /-- R76. -/
  | setGate (tag channel mode priority : Byte)
  /-- R83. -/
  | getGates (tag : Byte)
  /-- R102. -/
  | setMute (tag channel host : Byte)
  /-- R103. -/
  | clearReasons (tag channel reasons : Byte)
  /-- R88. -/
  | setPrivacy (tag value : Byte)
  /-- R96. -/
  | setChairMute (tag value : Byte)
  /-- R104. -/
  | setKeyMode (tag channel mode : Byte)
  /-- R105. -/
  | setKeyGuard (tag guard : Byte)
  /-- R105. -/
  | setMuteRamp (tag length : Byte)
  /-- R110. -/
  | getMutes (tag : Byte)
  /-- R111. -/
  | getRequests (tag : Byte)
  /-- R126. -/
  | setAlc (tag enable target interval shift slew jumpLimit autoJump postCount toggleFilter : Byte)
  /-- R124. -/
  | holdAlc (tag channel action : Byte)
  /-- R131. -/
  | getAlc (tag : Byte)
  /-- R132. -/
  | setZone (tag pod zone : Byte)
  /-- R136. -/
  | setDuck (tag depth : Byte)
  /-- R137. -/
  | setFader (tag channel fader : Byte)
  /-- R138. -/
  | setVolume (tag pod volume : Byte)
  /-- R139. -/
  | setSendGain (tag channel gain : Byte)
  /-- R140. -/
  | setRecord (tag bus flags gain : Byte)
  /-- R142. -/
  | getFeeds (tag : Byte)
  /-- R147. -/
  | clipBegin (tag clip : Byte) (length : BitVec 24)
  /-- R148. -/
  | clipData (tag clip : Byte) (offset : BitVec 24) (samples : List Sample)
  /-- R150. -/
  | clipEnd (tag clip : Byte)
  /-- R151. -/
  | clipDelete (tag clip : Byte)
  /-- R155. -/
  | getClips (tag first count : Byte)
  /-- R160. -/
  | cue (tag player routing options : Byte) (segments : List SegmentFields)
  /-- R162. -/
  | go (tag player : Byte)
  /-- R163. -/
  | pause (tag player : Byte)
  /-- R164. -/
  | resume (tag player : Byte)
  /-- R168. -/
  | abort (tag player : Byte)
  /-- R174. -/
  | getPlayer (tag player : Byte)
  /-- R190, and R191 to R193 where the byte completes a frame. -/
  | controlByteReceived (byte : Byte)
  deriving DecidableEq, Repr

end Sys2Proof
end

