-- ==== Sys2Proof/Decode.lean ====
section
/-! DEFINITION. The layouts of bytes: request frames (R201, R203) and mic frames (R202), each read and each written;
and the host's decodeTableWord, which answers none because no row of the table gives bits. -/

namespace Sys2Proof

/-- The command that a word spells by the table's bits. No row of spec/opcode_table.json gives bits (every row's
fields are empty), so no word spells a command (log entry 2). -/
def decodeTableWord (_nbits _w : Nat) : Option Instr := none

/-! ### Fields of several bytes: most significant byte first (R201) -/

/-- The two bytes of a 16-bit field. -/
def bytes16 (x : BitVec 16) : List Byte := [x.extractLsb' 8 8, x.extractLsb' 0 8]

/-- The three bytes of a 24-bit field. -/
def bytes24 (x : BitVec 24) : List Byte := [x.extractLsb' 16 8, x.extractLsb' 8 8, x.extractLsb' 0 8]

/-- The 16-bit field of two bytes. -/
def word16 (hi lo : Byte) : BitVec 16 := hi ++ lo

/-- The 24-bit field of three bytes. -/
def word24 (hi mid lo : Byte) : BitVec 24 := (hi ++ mid) ++ lo

/-- One byte, unsigned (R201). -/
def u8 (n : Nat) : Byte := BitVec.ofNat 8 n

/-- One byte, two's complement (R201). -/
def i8 (z : Int) : Byte := BitVec.ofInt 8 z

/-- Two bytes, unsigned (R201). -/
def u16 (n : Nat) : List Byte := bytes16 (BitVec.ofNat 16 n)

/-- Two bytes, two's complement (R201). -/
def i16 (z : Int) : List Byte := bytes16 (BitVec.ofInt 16 z)

/-- Three bytes, unsigned: clip lengths, offsets, counts of samples (R201). -/
def u24 (n : Nat) : List Byte := bytes24 (BitVec.ofNat 24 n)

/-- On/off and flags: 0 off, 1 on (R201). -/
def bit8 (b : Bool) : Byte := if b then 1 else 0

/-- A list: a 1-byte count of entries, then the entries (R201). -/
def counted (l : List Byte) : List Byte := u8 l.length :: l

/-- Samples of two bytes each, most significant byte first. -/
def bytesOfSamples (l : List Sample) : List Byte := l.flatMap bytes16

/-- The samples of a run of bytes, none if their number is odd. -/
def samplesOfBytes : List Byte → Option (List Sample)
  | [] => some []
  | [_] => none
  | hi :: lo :: rest => (samplesOfBytes rest).map (word16 hi lo :: ·)

/-- The sum modulo 256 of a run of bytes (R191, R202). -/
def sumBytes (l : List Byte) : Byte := l.foldl (· + ·) 0

/-! ### Mic frames (R202) -/

/-- The frame record of a well-formed candidate: 36 bytes, the two sync bytes, and bytes 2 to 35 summing to 0 modulo
256 (R27, R28, R202). -/
def decodeMicFrame (bytes : List Byte) : Option MicFrame :=
  match bytes with
  | s0 :: s1 :: rest =>
    match rest with
    | head :: body =>
      if rest.length = 34 ∧ s0 = 0x3C ∧ s1 = 0xA9 ∧ sumBytes rest = 0 then
        (samplesOfBytes (body.take 32)).map fun l =>
          { sequence := head.extractLsb' 4 4, talk := head.getLsbD 0, all := head.getLsbD 1,
            samples := Vec.tab fun i => l.getD i.1 0 }
      else none
    | [] => none
  | _ => none

/-- The 36 bytes of a mic frame (R202). -/
def encodeMicFrame (f : MicFrame) : List Byte :=
  let head : Byte := f.sequence ++ (0 : BitVec 2) ++ BitVec.ofBool f.all ++ BitVec.ofBool f.talk
  let body := head :: bytesOfSamples f.samples.toList
  0x3C :: 0xA9 :: body ++ [0 - sumBytes body]

/-! ### Request frames (R203) -/

/-- The request types of section 11.6 (R203). -/
def requestTypes : List Byte :=
  [0x01, 0x02, 0x03, 0x04, 0x05, 0x06, 0x07, 0x10, 0x11, 0x14, 0x15, 0x18, 0x19, 0x1A, 0x20, 0x21, 0x22, 0x23, 0x24,
   0x25, 0x26, 0x27, 0x28] ++
  [0x30, 0x31, 0x32, 0x38, 0x39, 0x3A, 0x3B, 0x3C, 0x3D, 0x3E, 0x40, 0x41, 0x42, 0x43, 0x44, 0x48, 0x49, 0x4A, 0x4B,
   0x4C, 0x4D]

/-- A list field at the front of a payload: the entries its count byte gives, and the rest (R201). -/
def splitCounted : List Byte → Option (List Byte × List Byte)
  | [] => none
  | n :: rest => if n.toNat ≤ rest.length then some (rest.take n.toNat, rest.drop n.toNat) else none

/-- The segments of a CUE payload, 10 bytes each; none if the bytes are not a multiple of 10 (R203). -/
def segmentsOfBytes : List Byte → Option (List SegmentFields)
  | [] => some []
  | c :: s2 :: s1 :: s0 :: p2 :: p1 :: p0 :: lb :: g :: na :: rest =>
    (segmentsOfBytes rest).map
      ({ clip := c, start := word24 s2 s1 s0, playLength := word24 p2 p1 p0, loopBlock := lb, gain := g,
         nextAction := na } :: ·)
  | _ => none

/-- The 10 bytes of a segment (R203). -/
def bytesOfSegment (g : SegmentFields) : List Byte :=
  g.clip :: bytes24 g.start ++ bytes24 g.playLength ++ [g.loopBlock, g.gain, g.nextAction]

/-- The three lists of a SET_ROSTER payload, whose length must be the one their counts give (R203). -/
def rosterOfBytes (payload : List Byte) : Option (List Byte × List Byte × List Byte) :=
  match splitCounted payload with
  | none => none
  | some (pods, r1) =>
    match splitCounted r1 with
    | none => none
    | some (chairs, r2) =>
      match splitCounted r2 with
      | some (trunks, []) => some (pods, chairs, trunks)
      | _ => none

/-- What the bytes of a correct frame say (R193): a type that does not exist, a payload length that does not fit the
type, or a request. -/
inductive Decoded where
  | unknownType
  | badLength
  | request (i : Instr)
  deriving DecidableEq, Repr

/-- A request read from a payload, or BAD_LENGTH. -/
def Decoded.ofOption : Option Instr → Decoded
  | some i => .request i
  | none => .badLength

/-- The request that a payload of no fields spells. -/
def noFields (i : Instr) : List Byte → Option Instr
  | [] => some i
  | _ => none

/-- The request that a payload of one 1-byte field spells. -/
def oneField (f : Byte → Instr) : List Byte → Option Instr
  | [a] => some (f a)
  | _ => none

/-- The request that a payload of two 1-byte fields spells. -/
def twoFields (f : Byte → Byte → Instr) : List Byte → Option Instr
  | [a, b] => some (f a b)
  | _ => none

/-- The request that a payload of three 1-byte fields spells. -/
def threeFields (f : Byte → Byte → Byte → Instr) : List Byte → Option Instr
  | [a, b, c] => some (f a b c)
  | _ => none

/-- The payload of SET_LINK_PARAMS (R203). -/
def decodeSetLinkParams (tag : Byte) : List Byte → Option Instr
  | [lock, s1, s0, unlock, w] => some (.setLinkParams tag lock (word16 s1 s0) unlock w)
  | _ => none

/-- The payload of SET_AUTOMIX (R203). -/
def decodeSetAutomix (tag : Byte) : List Byte → Option Instr
  | [lim, mar, fl, oc, h1, h0, at', rel, off, last] => some (.setAutomix tag lim mar fl oc (word16 h1 h0) at' rel off last)
  | _ => none

/-- The payload of SET_ALC (R203). -/
def decodeSetAlc (tag : Byte) : List Byte → Option Instr
  | [en, t, i, k, sl, jl, aj, p, tf] => some (.setAlc tag en t i k sl jl aj p tf)
  | _ => none

/-- The payload of CLIP_BEGIN (R203). -/
def decodeClipBegin (tag : Byte) : List Byte → Option Instr
  | [id, l2, l1, l0] => some (.clipBegin tag id (word24 l2 l1 l0))
  | _ => none

/-- The payload of CLIP_DATA: 4 bytes, then at least one sample and no odd byte (R203). -/
def decodeClipData (tag : Byte) : List Byte → Option Instr
  | id :: o2 :: o1 :: o0 :: hi :: rest =>
    (samplesOfBytes (hi :: rest)).map fun l => .clipData tag id (word24 o2 o1 o0) l
  | _ => none

/-- The payload of CUE: 3 bytes, then segments (R203). -/
def decodeCue (tag : Byte) : List Byte → Option Instr
  | pl :: routing :: options :: rest => (segmentsOfBytes rest).map fun l => .cue tag pl routing options l
  | _ => none

/-- The payload of SET_ROSTER (R203). -/
def decodeSetRoster (tag : Byte) (payload : List Byte) : Option Instr :=
  (rosterOfBytes payload).map fun (pods, chairs, trunks) => .setRoster tag pods chairs trunks

/-- The request of a correct frame with type `type`, tag `tag` and payload `payload` (R193, R203). -/
def decodeRequest (type tag : Byte) (payload : List Byte) : Decoded :=
  match type.toNat with
  | 0x01 => .ofOption (noFields (.reset tag) payload)
  | 0x02 => .ofOption (noFields (.start tag) payload)
  | 0x03 => .ofOption (noFields (.stop tag) payload)
  | 0x04 => .ofOption (decodeSetRoster tag payload)
  | 0x05 => .ofOption (noFields (.getRoster tag) payload)
  | 0x06 => .ofOption (noFields (.getStatus tag) payload)
  | 0x07 => .ofOption (oneField (.setReports tag) payload)
  | 0x10 => .ofOption (decodeSetLinkParams tag payload)
  | 0x11 => .ofOption (threeFields (.getLinks tag) payload)
  | 0x14 => .ofOption (twoFields (.getLevels tag) payload)
  | 0x15 => .ofOption (twoFields (.getOutputLevels tag) payload)
  | 0x18 => .ofOption (decodeSetAutomix tag payload)
  | 0x19 => .ofOption (threeFields (.setGate tag) payload)
  | 0x1A => .ofOption (noFields (.getGates tag) payload)
  | 0x20 => .ofOption (twoFields (.setMute tag) payload)
  | 0x21 => .ofOption (twoFields (.clearReasons tag) payload)
  | 0x22 => .ofOption (oneField (.setPrivacy tag) payload)
  | 0x23 => .ofOption (oneField (.setChairMute tag) payload)
  | 0x24 => .ofOption (twoFields (.setKeyMode tag) payload)
  | 0x25 => .ofOption (oneField (.setKeyGuard tag) payload)
  | 0x26 => .ofOption (oneField (.setMuteRamp tag) payload)
  | 0x27 => .ofOption (noFields (.getMutes tag) payload)
  | 0x28 => .ofOption (noFields (.getRequests tag) payload)
  | 0x30 => .ofOption (decodeSetAlc tag payload)
  | 0x31 => .ofOption (twoFields (.holdAlc tag) payload)
  | 0x32 => .ofOption (noFields (.getAlc tag) payload)
  | 0x38 => .ofOption (twoFields (.setZone tag) payload)
  | 0x39 => .ofOption (oneField (.setDuck tag) payload)
  | 0x3A => .ofOption (twoFields (.setFader tag) payload)
  | 0x3B => .ofOption (twoFields (.setVolume tag) payload)
  | 0x3C => .ofOption (twoFields (.setSendGain tag) payload)
  | 0x3D => .ofOption (threeFields (.setRecord tag) payload)
  | 0x3E => .ofOption (noFields (.getFeeds tag) payload)
  | 0x40 => .ofOption (decodeClipBegin tag payload)
  | 0x41 => .ofOption (decodeClipData tag payload)
  | 0x42 => .ofOption (oneField (.clipEnd tag) payload)
  | 0x43 => .ofOption (oneField (.clipDelete tag) payload)
  | 0x44 => .ofOption (twoFields (.getClips tag) payload)
  | 0x48 => .ofOption (decodeCue tag payload)
  | 0x49 => .ofOption (oneField (.go tag) payload)
  | 0x4A => .ofOption (oneField (.pause tag) payload)
  | 0x4B => .ofOption (oneField (.resume tag) payload)
  | 0x4C => .ofOption (oneField (.abort tag) payload)
  | 0x4D => .ofOption (oneField (.getPlayer tag) payload)
  | _ => .unknownType

/-- Type, tag and payload of a request. -/
structure RequestFrame where
  type : Byte
  tag : Byte
  payload : List Byte
  deriving DecidableEq, Repr

/-- The bytes of a request command, none for a command that is no request of section 11.6 (R203). -/
def encodeRequest : Instr → Option RequestFrame
  | .reset tag => some ⟨0x01, tag, []⟩
  | .start tag => some ⟨0x02, tag, []⟩
  | .stop tag => some ⟨0x03, tag, []⟩
  | .setRoster tag pods chairs trunks => some ⟨0x04, tag, counted pods ++ counted chairs ++ counted trunks⟩
  | .getRoster tag => some ⟨0x05, tag, []⟩
  | .getStatus tag => some ⟨0x06, tag, []⟩
  | .setReports tag mask => some ⟨0x07, tag, [mask]⟩
  | .setLinkParams tag l s u w => some ⟨0x10, tag, l :: bytes16 s ++ [u, w]⟩
  | .getLinks tag a b c => some ⟨0x11, tag, [a, b, c]⟩
  | .getLevels tag a b => some ⟨0x14, tag, [a, b]⟩
  | .getOutputLevels tag a b => some ⟨0x15, tag, [a, b]⟩
  | .setAutomix tag lim mar fl oc h at' rel off last =>
    some ⟨0x18, tag, lim :: mar :: fl :: oc :: bytes16 h ++ [at', rel, off, last]⟩
  | .setGate tag a b c => some ⟨0x19, tag, [a, b, c]⟩
  | .getGates tag => some ⟨0x1A, tag, []⟩
  | .setMute tag a b => some ⟨0x20, tag, [a, b]⟩
  | .clearReasons tag a b => some ⟨0x21, tag, [a, b]⟩
  | .setPrivacy tag a => some ⟨0x22, tag, [a]⟩
  | .setChairMute tag a => some ⟨0x23, tag, [a]⟩
  | .setKeyMode tag a b => some ⟨0x24, tag, [a, b]⟩
  | .setKeyGuard tag a => some ⟨0x25, tag, [a]⟩
  | .setMuteRamp tag a => some ⟨0x26, tag, [a]⟩
  | .getMutes tag => some ⟨0x27, tag, []⟩
  | .getRequests tag => some ⟨0x28, tag, []⟩
  | .setAlc tag en t i k sl jl aj p tf => some ⟨0x30, tag, [en, t, i, k, sl, jl, aj, p, tf]⟩
  | .holdAlc tag a b => some ⟨0x31, tag, [a, b]⟩
  | .getAlc tag => some ⟨0x32, tag, []⟩
  | .setZone tag a b => some ⟨0x38, tag, [a, b]⟩
  | .setDuck tag a => some ⟨0x39, tag, [a]⟩
  | .setFader tag a b => some ⟨0x3A, tag, [a, b]⟩
  | .setVolume tag a b => some ⟨0x3B, tag, [a, b]⟩
  | .setSendGain tag a b => some ⟨0x3C, tag, [a, b]⟩
  | .setRecord tag a b c => some ⟨0x3D, tag, [a, b, c]⟩
  | .getFeeds tag => some ⟨0x3E, tag, []⟩
  | .clipBegin tag id len => some ⟨0x40, tag, id :: bytes24 len⟩
  | .clipData tag id off l => some ⟨0x41, tag, id :: bytes24 off ++ bytesOfSamples l⟩
  | .clipEnd tag a => some ⟨0x42, tag, [a]⟩
  | .clipDelete tag a => some ⟨0x43, tag, [a]⟩
  | .getClips tag a b => some ⟨0x44, tag, [a, b]⟩
  | .cue tag pl r o l => some ⟨0x48, tag, pl :: r :: o :: l.flatMap bytesOfSegment⟩
  | .go tag a => some ⟨0x49, tag, [a]⟩
  | .pause tag a => some ⟨0x4A, tag, [a]⟩
  | .resume tag a => some ⟨0x4B, tag, [a]⟩
  | .abort tag a => some ⟨0x4C, tag, [a]⟩
  | .getPlayer tag a => some ⟨0x4D, tag, [a]⟩
  | .mixPeriodBoundary _ _ | .micFrameArrival _ _ _ | .lockCount _ _ | .settleDone _ | .silence _ | .unlock _
  | .restart _ _ | .openCountReached _ | .holdExpiry _ | .waitTimeout _ | .noiseFloorRise _ | .intervalEnd
  | .segmentEnd _ _ | .masterRampArrival | .playerRampArrival _ | .badCheckFrame _ _ | .framingError _
  | .badFrameLength _ | .gapTimerExpiry | .messageSent | .unknownRequest _ _ _ | .powerOn _ | .resetPin | .softReset
  | .resetEnd | .controlByteReceived _ => none

/-- The length byte of a request frame: N counts type, tag and payload (R201). -/
def RequestFrame.lengthByte (f : RequestFrame) : Byte := u8 (f.payload.length + 2)

/-- The N bytes after the length byte. -/
def RequestFrame.body (f : RequestFrame) : List Byte := f.type :: f.tag :: f.payload

/-- The check byte: the sum of the length byte through the check byte is 0 modulo 256 (R201). -/
def RequestFrame.check (f : RequestFrame) : Byte := 0 - sumBytes (f.lengthByte :: f.body)

/-- All the bytes of a frame on the line. R201 gives frames of both directions this one layout. -/
def RequestFrame.bytes (f : RequestFrame) : List Byte := 0xC3 :: f.lengthByte :: f.body ++ [f.check]

end Sys2Proof
end

