-- ==== Sys2Proof/Machine/State.lean ====
section
/-! DEFINITION. The state of the part: plain data, block by block, with the value after reset of every element. -/

namespace Sys2Proof.Machine

/-- Why a step stops with a fault. No constructor: the spec gives every command of the table an effect, so no meaning
of this model ends in a fault (the spec's own faults, such as the FAULT mute reason, are state). Safe: there is
nothing the model stops on. -/
inductive Fault where
  deriving DecidableEq, Repr

/-- Why a step is refused. -/
inductive Refusal where
  /-- Raised by exec's arm of a command that has no meaning yet. Safe: the step says nothing. No arm raises it. -/
  | notModelled (mnemonic : String)
  deriving DecidableEq, Repr

/-! ### Ramps (Chapter 1) -/

/-- The last setting made on a ramp, for the comparisons of R22 and R24. -/
inductive LastSetting where
  | none
  | target (value length : Nat)
  | jump (value : Nat)
  deriving DecidableEq, Repr

/-- A ramp (R21). -/
structure Ramp where
  /-- 0..32768. -/
  value : Nat
  /-- The target in force, 0..32768. -/
  target : Nat
  /-- Unset until the first target comes in force (R26). -/
  step : Option Nat
  arrivalPending : Bool
  /-- A target with its length, set and not yet in force. -/
  pendingTarget : Option (Nat × Nat)
  /-- A jump set and not yet in force. -/
  pendingJump : Option Nat
  lastSetting : LastSetting
  /-- The value after the move of position 15 of the last period ended (R142, R174, R180, R184). -/
  ended : Nat
  deriving DecidableEq, Repr

/-- A ramp at rest at `v` after a reset (R26). -/
def Ramp.atRest (v : Nat) : Ramp :=
  { value := v, target := v, step := none, arrivalPending := false, pendingTarget := none, pendingJump := none,
    lastSetting := .none, ended := v }

/-- Every ramp of the part (section 1.8). -/
structure Ramps where
  gate : Vector Ramp 24
  localMute : Vector Ramp 24
  privacy : Vector Ramp 24
  duck : Vector Ramp 24
  trunkMute : Vector Ramp 4
  player : Vector Ramp 2
  master : Ramp
  deriving DecidableEq, Repr

/-- R26. -/
def Ramps.reset : Ramps :=
  { gate := Vec.tab fun _ => .atRest 0, localMute := Vec.tab fun _ => .atRest 0,
    privacy := Vec.tab fun _ => .atRest 32768, duck := Vec.tab fun _ => .atRest 32768,
    trunkMute := Vec.tab fun _ => .atRest 32768, player := Vec.tab fun _ => .atRest 0, master := .atRest 0 }

/-! ### Pod links (Chapter 2) -/

/-- Section 2.2. -/
inductive LinkState where
  | off | absent | acquiring | settling | locked | coasting
  deriving DecidableEq, Repr

/-- The working state of one link (section 2.2). -/
structure Link where
  state : LinkState
  expected : BitVec 4
  goodCount : Nat
  silenceRun : Nat
  arrivalSeen : Bool
  settleCounter : Nat
  coastRun : Nat
  restartRun : Nat
  lastRestart : BitVec 4
  /-- Oldest first, 0 to 4 frames (R38). -/
  fifo : List MicFrame
  lastTaken : MicFrame
  firstTake : Bool
  badFrames : Nat
  slips : Nat
  feedSequence : BitVec 4
  deriving DecidableEq, Repr

/-- 16 samples of 0 with both keys released. -/
def MicFrame.blank : MicFrame := { sequence := 0, talk := false, all := false, samples := silentFrame }

/-- R48. -/
def Link.reset : Link :=
  { state := .off, expected := 0, goodCount := 0, silenceRun := 0, arrivalSeen := false, settleCounter := 0,
    coastRun := 0, restartRun := 0, lastRestart := 0, fifo := [], lastTaken := MicFrame.blank, firstTake := false,
    badFrames := 0, slips := 0, feedSequence := 0 }

/-- The link parameters, common to all links (R46). -/
structure LinkParams where
  lockCount : Nat
  settleFrames : Nat
  unlockCount : Nat
  window : Nat
  deriving DecidableEq, Repr

/-- R48. -/
def LinkParams.reset : LinkParams := { lockCount := 16, settleFrames := 200, unlockCount := 50, window := 2 }

/-- The indicator codes (R107, R202). -/
inductive Led where
  | off | red | redBlink | amber | green | greenBlink
  deriving DecidableEq, Repr

/-- A feed frame (R44, R45, R202). -/
structure FeedFrame where
  sequence : BitVec 4
  led : Led
  samples : Frame
  deriving DecidableEq, Repr

/-! ### Level detector (Chapter 3) -/

/-- The values of one input channel. -/
structure Detector where
  /-- The frame level L in force; none until the first boundary after a reset (R61). -/
  frameLevel : Option Int
  /-- S -/
  smoothed : Int
  /-- N -/
  noiseFloor : Int
  riseCounter : Nat
  peak : Nat
  deriving DecidableEq, Repr

/-- R61. -/
def Detector.reset : Detector := { frameLevel := none, smoothed := -120, noiseFloor := 0, riseCounter := 0, peak := 0 }

/-- The meter of one output (R57). -/
structure OutputMeter where
  peak : Nat
  clip : Bool
  deriving DecidableEq, Repr

/-! ### Automixer (Chapter 4) -/

inductive GateMode where
  | auto | bypass
  deriving DecidableEq, Repr

inductive GateState where
  | closed | pending | waiting | opened | hold | bypass
  deriving DecidableEq, Repr

/-- The gate record (R62). -/
structure Gate where
  mode : GateMode
  priority : Nat
  state : GateState
  count : Nat
  deriving DecidableEq, Repr

/-- The automixer parameters other than the limit (R81). -/
structure AutomixParams where
  margin : Int
  gateFloor : Int
  openCount : Nat
  holdFrames : Nat
  attack : Nat
  release : Nat
  offAttenuation : Int
  lastMicHold : Bool
  deriving DecidableEq, Repr

structure Automixer where
  gates : Vector Gate 24
  /-- Oldest first (R72). -/
  waitQueue : List Pod
  limit : Nat
  pendingLimit : Option Nat
  params : AutomixParams
  /-- The values taken by SET_AUTOMIX since the last boundary (R64). -/
  pendingParams : Option AutomixParams
  /-- The slot requests collected for step 4 (R64, R65); none outside a boundary's work unless OPEN_COUNT_REACHED
  collected one (log entry 8). -/
  collected : List Pod
  deriving DecidableEq, Repr

/-- R85. -/
def Automixer.reset : Automixer :=
  { gates := Vec.tab fun _ => { mode := .auto, priority := 0, state := .closed, count := 0 }, waitQueue := [],
    limit := 4, pendingLimit := none,
    params := { margin := 20, gateFloor := -90, openCount := 3, holdFrames := 200, attack := 2, release := 50,
                offAttenuation := -30, lastMicHold := true },
    pendingParams := none, collected := [] }

/-! ### Mute controller (Chapter 5) -/

/-- The reason set of a pod channel (R86). -/
structure Reasons where
  key : Bool
  host : Bool
  chair : Bool
  fault : Bool
  deriving DecidableEq, Repr

inductive KeyMode where
  | toggle | pushToTalk | pushToMute
  deriving DecidableEq, Repr

/-- A key record (R91). -/
structure KeyRecord where
  pressed : Bool
  guardAge : Nat
  deriving DecidableEq, Repr

structure Mutes where
  reasons : Vector Reasons 24
  trunkHost : Vector Bool 4
  privacy : Bool
  chairMute : Bool
  /-- Oldest first (R100). -/
  talkList : List Pod
  keyMode : Vector KeyMode 24
  talkKey : Vector KeyRecord 24
  allKey : Vector KeyRecord 24
  keyGuard : Nat
  rampLength : Nat
  /-- The LED codes given at the last boundary (R110). -/
  led : Vector Led 24
  deriving DecidableEq, Repr

/-- R112. -/
def Mutes.reset : Mutes :=
  { reasons := Vec.tab fun _ => { key := false, host := false, chair := false, fault := true },
    trunkHost := Vec.tab fun _ => false, privacy := false, chairMute := false, talkList := [],
    keyMode := Vec.tab fun _ => .toggle, talkKey := Vec.tab fun _ => { pressed := false, guardAge := 100 },
    allKey := Vec.tab fun _ => { pressed := false, guardAge := 100 }, keyGuard := 30, rampLength := 8,
    led := Vec.tab fun _ => .off }

/-! ### Level controller (Chapter 6) -/

inductive Sign where
  | up | down
  deriving DecidableEq, Repr

/-- The ALC record of a pod channel (R113). -/
structure AlcRecord where
  gain : Int
  held : Bool
  qualifying : Nat
  levelSum : Int
  agreementRun : Nat
  lastSign : Option Sign
  /-- The directions of the last two steps applied, older first. -/
  history : List Sign
  deriving DecidableEq, Repr

structure AlcParams where
  enable : Bool
  target : Int
  interval : Nat
  shift : Nat
  slew : Nat
  jumpLimit : Nat
  autoJump : Bool
  postCount : Nat
  toggleFilter : Bool
  deriving DecidableEq, Repr

structure Alc where
  records : Vector AlcRecord 24
  position : Nat
  params : AlcParams
  deriving DecidableEq, Repr

/-- R129. -/
def AlcRecord.reset : AlcRecord :=
  { gain := 0, held := false, qualifying := 0, levelSum := 0, agreementRun := 0, lastSign := none, history := [] }

/-- R129, R126. -/
def Alc.reset : Alc :=
  { records := Vec.tab fun _ => AlcRecord.reset, position := 0,
    params := { enable := true, target := -40, interval := 16, shift := 1, slew := 2, jumpLimit := 30,
                autoJump := true, postCount := 3, toggleFilter := true } }

/-! ### Feed router (Chapter 7) -/

/-- What a record bus carries and its gain (R140). -/
structure RecordSetting where
  room : Bool
  far : Bool
  prompt : Bool
  gain : Int
  deriving DecidableEq, Repr

/-- The settings of the router that the mix engine reads (R2). -/
structure Feeds where
  zone : Vector Nat 24
  podFader : Vector Int 24
  volume : Vector Int 24
  trunkFader : Vector Int 4
  sendGain : Vector Int 4
  record : Vector RecordSetting 2
  deriving DecidableEq, Repr

structure Router where
  feeds : Feeds
  duckDepth : Int
  duckActive : Vector Bool 24
  deriving DecidableEq, Repr

/-- R143. -/
def Feeds.reset : Feeds :=
  { zone := Vec.tab fun _ => 0, podFader := Vec.tab fun _ => 0, volume := Vec.tab fun _ => 0,
    trunkFader := Vec.tab fun _ => 0, sendGain := Vec.tab fun _ => 0,
    record := Vec.tab fun b => { room := true, far := decide (b = 0), prompt := decide (b = 0), gain := 0 } }

/-- R143. -/
def Router.reset : Router := { feeds := Feeds.reset, duckDepth := -12, duckActive := Vec.tab fun _ => false }

/-! ### Clip store (Chapter 8) -/

inductive ClipState where
  | empty | loading | ready | damaged
  deriving DecidableEq, Repr

/-- A clip record (R145). -/
structure Clip where
  state : ClipState
  declared : Nat
  loaded : Nat
  /-- In the order of its samples. -/
  pages : List PageNumber
  references : Nat
  /-- A position in the page list. -/
  faultPage : Option Nat
  deriving DecidableEq, Repr

/-- R156. -/
def Clip.blank : Clip :=
  { state := .empty, declared := 0, loaded := 0, pages := [], references := 0, faultPage := none }

structure ClipStore where
  /-- The bytes of clip memory, in the canonical form of Memory.wf (Ops.lean): an unlisted byte reads 0. -/
  memory : List Host.Cell
  /-- The stored check of each page (R144, R149). -/
  checks : Vector (BitVec 16) 512
  /-- The failed mark of each page. -/
  failed : Vector Bool 512
  /-- The free set, in ascending order (R144). -/
  free : List PageNumber
  clips : Vector Clip 32
  /-- The LOADING clip, if any. -/
  loading : Option ClipId
  deriving DecidableEq, Repr

/-- R156; the sample slots, also of pages written before a pin reset, and the stored checks, for which the spec gives no
value, are 0 (log entry 7). -/
def ClipStore.reset : ClipStore :=
  { memory := [], checks := Vec.tab fun _ => 0, failed := Vec.tab fun _ => false, free := List.finRange 512,
    clips := Vec.tab fun _ => Clip.blank, loading := none }

/-! ### Prompt players (Chapter 9) -/

inductive LoopBlock where
  | none | b256 | b512 | b1024 | b2048
  deriving DecidableEq, Repr

inductive NextAction where
  | next | wait | stop
  deriving DecidableEq, Repr

/-- A segment of a cue list (R159). -/
structure Segment where
  clip : ClipId
  start : Nat
  playLength : Nat
  loopBlock : LoopBlock
  gain : Int
  nextAction : NextAction
  deriving DecidableEq, Repr

inductive PlayerState where
  | idle | cued | playing | paused | aborting
  deriving DecidableEq, Repr

/-- The reasons of PLAYER_DONE (R173); the last four are the abort reasons (R158). -/
inductive DoneReason where
  | completed | aborted | speech | fault | stopped
  deriving DecidableEq, Repr

/-- The bus sums a player joins (R12). -/
structure Routing where
  pod : Bool
  trunk : Bool
  record : Bool
  deriving DecidableEq, Repr

/-- A player record (R158). -/
structure PlayerRecord where
  state : PlayerState
  cue : List Segment
  current : Nat
  played : Nat
  nextOffset : Nat
  advancing : Bool
  routing : Routing
  haltOnError : Bool
  stopOnSpeech : Bool
  abortReason : Option DoneReason
  /-- The page (its position in the clip's page list) that the playback position is in, and whether its page read
  passed; none before the first sample of a segment and after a wrap (R153, R165). -/
  page : Option (Nat × Bool)
  deriving DecidableEq, Repr

/-- R175. -/
def PlayerRecord.reset : PlayerRecord :=
  { state := .idle, cue := [], current := 0, played := 0, nextOffset := 0, advancing := false,
    routing := { pod := false, trunk := false, record := false }, haltOnError := false, stopOnSpeech := false,
    abortReason := none, page := none }

/-- What a player hands the mix engine at one sample position (R5). -/
structure PlayerSlot where
  sample : Sample
  gain : Int
  deriving DecidableEq, Repr

/-- No sample (R5). -/
def PlayerSlot.none : PlayerSlot := { sample := 0, gain := 0 }

/-! ### Session controller (Chapter 10) -/

inductive MixerState where
  | stopped | starting | running | stopping
  deriving DecidableEq, Repr

/-- The roster (R181). -/
structure Roster where
  pods : Vector Bool 24
  chairs : Vector Bool 24
  trunks : Vector Bool 4
  deriving DecidableEq, Repr

/-- R188. -/
def Roster.reset : Roster :=
  { pods := Vec.tab fun _ => false, chairs := Vec.tab fun _ => false, trunks := Vec.tab fun _ => false }

inductive StartReason where
  | power | pin | soft
  deriving DecidableEq, Repr

/-- Where the part stands with regard to resets (R185, R186). -/
inductive Phase where
  /-- No reset is being carried out or awaited. -/
  | running
  /-- A RESET request has been taken and its answer has not yet been sent (R186). -/
  | awaitingSoft
  /-- A SOFT reset is being carried out. -/
  | inSoftReset
  /-- A power-on or pin reset holds the part. -/
  | inHardReset
  deriving DecidableEq, Repr

structure Session where
  mixer : MixerState
  roster : Roster
  lastReason : StartReason
  phase : Phase
  pinLatch : Bool
  deriving DecidableEq, Repr

/-! ### Control link (Chapter 11) -/

inductive ReceiverState where
  | hunt | length | body | check
  deriving DecidableEq, Repr

/-- The control frame receiver (R190). -/
structure Receiver where
  state : ReceiverState
  length : Nat
  /-- The body bytes stored so far, in order. -/
  body : List Byte
  sum : Byte
  /-- Whether the gap timer runs (R192). -/
  gapTimer : Bool
  deriving DecidableEq, Repr

/-- HUNT, with every byte of a frame in progress gone (R190, R200); the length and the running sum are 0 there (log entry
26). -/
def Receiver.hunting : Receiver := { state := .hunt, length := 0, body := [], sum := 0, gapTimer := false }

/-- A message of the outbound queue: an answer or a report (R196). -/
structure Message where
  isReport : Bool
  type : Byte
  tag : Byte
  payload : List Byte
  deriving DecidableEq, Repr

structure Control where
  receiver : Receiver
  /-- Oldest first; the first message is the one being transmitted (R196). -/
  queue : List Message
  lost : Bool
  /-- The category mask, one bit per category (R198, R201). -/
  mask : Byte
  deriving DecidableEq, Repr

/-- R200; the mask is the value R201 gives. -/
def Control.reset : Control := { receiver := Receiver.hunting, queue := [], lost := false, mask := 0x73 }

/-! ### The mix period in progress (R1, R2) -/

/-- The input samples of the period in progress (R1, R3, R4, R5). -/
structure Inputs where
  pods : Vector Frame 24
  trunks : Vector Frame 4
  players : Vector (Vector PlayerSlot 16) 2
  deriving DecidableEq, Repr

/-- No samples (log entry 6). -/
def Inputs.reset : Inputs :=
  { pods := Vec.tab fun _ => silentFrame, trunks := Vec.tab fun _ => silentFrame,
    players := Vec.tab fun _ => Vec.tab fun _ => PlayerSlot.none }

/-- The values in force for the period in progress (R2). Ramp targets in force stand in the ramps. -/
structure InForce where
  roster : Roster
  feeds : Feeds
  alcGain : Vector Int 24
  routing : Vector Routing 2
  deriving DecidableEq, Repr

/-! ### The whole machine -/

structure State where
  ramps : Ramps
  inputs : Inputs
  /-- None until the first boundary after a reset opens a period (R1). -/
  inForce : Option InForce
  /-- The output frames handed out at the last boundary (R20). -/
  outputs : Vector Frame 30
  links : Vector Link 24
  linkParams : LinkParams
  /-- The feed frame each link sent at the last boundary (R44). -/
  feedFrames : Vector (Option FeedFrame) 24
  detectors : Vector Detector 30
  outputMeters : Vector OutputMeter 30
  automixer : Automixer
  mutes : Mutes
  alc : Alc
  router : Router
  store : ClipStore
  players : Vector PlayerRecord 2
  session : Session
  control : Control
  /-- The commands that wait, first in first out: the model's own field. -/
  pending : List Instr
  deriving DecidableEq, Repr

/-- Every block at its values after reset (R26, R48, R61, R85, R112, R129, R143, R175, R188, R200), with the clip
store `store`, the session controller's reset state and the queue of commands as given. -/
def State.blocksReset (store : ClipStore) (lastReason : StartReason) (phase : Phase) (pinLatch : Bool)
    (pending : List Instr) : State :=
  { ramps := Ramps.reset, inputs := Inputs.reset, inForce := none, outputs := Vec.tab fun _ => silentFrame,
    links := Vec.tab fun _ => Link.reset, linkParams := LinkParams.reset, feedFrames := Vec.tab fun _ => none,
    detectors := Vec.tab fun _ => Detector.reset, outputMeters := Vec.tab fun _ => { peak := 0, clip := false },
    automixer := Automixer.reset, mutes := Mutes.reset, alc := Alc.reset, router := Router.reset, store := store,
    players := Vec.tab fun _ => PlayerRecord.reset,
    session := { mixer := .stopped, roster := Roster.reset, lastReason := lastReason, phase := phase,
                 pinLatch := pinLatch },
    control := Control.reset, pending := pending }

/-- The START_UP report of a power-on: flags 0, reason 0 POWER, 0 clips kept, 512 free pages (R187, R204). -/
def powerOnReport : Message :=
  { isReport := true, type := 0xE0, tag := 0, payload := [0x00, 0x00, 0x00, 0x02, 0x00] }

/-- The machine right after a power-on reset has ended: every block at its reset values and START_UP the one message
queued (R187; log entry 1). -/
def State.reset : State :=
  { State.blocksReset ClipStore.reset .power .running false [] with
    control := { Control.reset with queue := [powerOnReport] } }

end Sys2Proof.Machine
end

