-- ==== Sys2Proof/Machine/Flags.lean ====
section
/-! DEFINITION. How the part encodes statuses, enumerations, flags and sets in the bytes it sends (R194, R201, R202,
R204): an enumeration without numbers of its own counts from 0 in the order of its defining table. -/

namespace Sys2Proof.Machine

/-- The statuses of R194. -/
inductive Status where
  | ok | clamped | unknownType | badLength | badValue | wrongState | busy | inUse | noSpace | notFound
  deriving DecidableEq, Repr

/-- R194. -/
def Status.code : Status → Byte
  | .ok => 0 | .clamped => 1 | .unknownType => 2 | .badLength => 3 | .badValue => 4 | .wrongState => 5 | .busy => 6
  | .inUse => 7 | .noSpace => 8 | .notFound => 9

/-- The table of section 2.2. -/
def LinkState.code : LinkState → Byte
  | .off => 0 | .absent => 1 | .acquiring => 2 | .settling => 3 | .locked => 4 | .coasting => 5

/-- The causes of LINK_EVENT (R43). -/
inductive LinkCause where
  | roster | firstFrame | lockCount | settleDone | underrun | restart | silence | unlock
  deriving DecidableEq, Repr

/-- The table of R43. -/
def LinkCause.code : LinkCause → Byte
  | .roster => 0 | .firstFrame => 1 | .lockCount => 2 | .settleDone => 3 | .underrun => 4 | .restart => 5
  | .silence => 6 | .unlock => 7

/-- R202. -/
def Led.code : Led → Byte
  | .off => 0 | .red => 1 | .redBlink => 2 | .amber => 3 | .green => 4 | .greenBlink => 5

/-- R62. -/
def GateMode.code : GateMode → Byte
  | .auto => 0 | .bypass => 1

/-- R62. -/
def GateState.code : GateState → Byte
  | .closed => 0 | .pending => 1 | .waiting => 2 | .opened => 3 | .hold => 4 | .bypass => 5

/-- The causes of GATE_EVENT (R84). -/
inductive GateCause where
  | grant | wait | released | timeout | preempted | evicted | muted | mode | roster
  deriving DecidableEq, Repr

/-- The table of R84. -/
def GateCause.code : GateCause → Byte
  | .grant => 0 | .wait => 1 | .released => 2 | .timeout => 3 | .preempted => 4 | .evicted => 5 | .muted => 6
  | .mode => 7 | .roster => 8

/-- The bits of a reason set: KEY, HOST, CHAIR, FAULT, lowest first (R201); the bits beyond the members of this and of every
other set sent are 0 (log entry 27). -/
def Reasons.byte (r : Reasons) : Byte :=
  bit8 r.key + (bit8 r.host <<< 1) + (bit8 r.chair <<< 2) + (bit8 r.fault <<< 3)

/-- The reason set of a trunk channel, which can hold HOST alone (R86). -/
def trunkReasonsByte (host : Bool) : Byte := bit8 host <<< 1

/-- R104. -/
def KeyMode.code : KeyMode → Byte
  | .toggle => 0 | .pushToTalk => 1 | .pushToMute => 2

/-- The actions of TALK_REQUEST (R109). -/
inductive TalkAction where
  | raised | withdrawn | refused | admitted | dropped | listCleared
  deriving DecidableEq, Repr

/-- R204. -/
def TalkAction.code : TalkAction → Byte
  | .raised => 0 | .withdrawn => 1 | .refused => 2 | .admitted => 3 | .dropped => 4 | .listCleared => 5

/-- The last recommendation sign: none, up, down, in the order of R113 (log entry 11). -/
def signCode : Option Sign → Byte
  | none => 0 | some .up => 1 | some .down => 2

/-- 0 for up, 1 for down (R131). -/
def Sign.bit : Sign → Byte
  | .up => 0 | .down => 1

/-- The applied history of GET_ALC: bits 1 and 0 the count, bit 3 the later sign, bit 2 the older one (R131). -/
def historyByte : List Sign → Byte
  | [] => 0
  | [later] => 1 + (later.bit <<< 3)
  | older :: later :: _ => 2 + (older.bit <<< 2) + (later.bit <<< 3)

/-- Record flags ROOM, FAR, PROMPT (R201). -/
def RecordSetting.flagsByte (r : RecordSetting) : Byte :=
  bit8 r.room + (bit8 r.far <<< 1) + (bit8 r.prompt <<< 2)

/-- R145. -/
def ClipState.code : ClipState → Byte
  | .empty => 0 | .loading => 1 | .ready => 2 | .damaged => 3

/-- R158. -/
def PlayerState.code : PlayerState → Byte
  | .idle => 0 | .cued => 1 | .playing => 2 | .paused => 3 | .aborting => 4

/-- R203. -/
def LoopBlock.code : LoopBlock → Byte
  | .none => 0 | .b256 => 1 | .b512 => 2 | .b1024 => 3 | .b2048 => 4

/-- The size of the block, none without a loop block (R159). -/
def LoopBlock.size : LoopBlock → Option Nat
  | .none => Option.none | .b256 => some 256 | .b512 => some 512 | .b1024 => some 1024 | .b2048 => some 2048

/-- R159. -/
def NextAction.code : NextAction → Byte
  | .next => 0 | .wait => 1 | .stop => 2

/-- R204. -/
def DoneReason.code : DoneReason → Byte
  | .completed => 0 | .aborted => 1 | .speech => 2 | .fault => 3 | .stopped => 4

/-- Routing POD, TRUNK, RECORD (R201). -/
def Routing.byte (r : Routing) : Byte := bit8 r.pod + (bit8 r.trunk <<< 1) + (bit8 r.record <<< 2)

/-- Player options halt-on-error, stop-on-speech (R201). -/
def optionsByte (haltOnError stopOnSpeech : Bool) : Byte := bit8 haltOnError + (bit8 stopOnSpeech <<< 1)

/-- R176. -/
def MixerState.code : MixerState → Byte
  | .stopped => 0 | .starting => 1 | .running => 2 | .stopping => 3

/-- R204. -/
def StartReason.code : StartReason → Byte
  | .power => 0 | .pin => 1 | .soft => 2

/-- The causes of MIXER_STATE (R180). -/
inductive MixerCause where
  | start | stop | arrival
  deriving DecidableEq, Repr

/-- R204. -/
def MixerCause.code : MixerCause → Byte
  | .start => 0 | .stop => 1 | .arrival => 2

/-- The causes of CONTROL_ERROR (R199). -/
inductive ControlCause where
  | check | gap | framing | overrun
  deriving DecidableEq, Repr

/-- R204. -/
def ControlCause.code : ControlCause → Byte
  | .check => 0 | .gap => 1 | .framing => 2 | .overrun => 3

/-- The report categories (R198). -/
inductive Category where
  | link | key | gate | alc | player | clip | mixer
  deriving DecidableEq, Repr

/-- The bit of a category in the mask (R201). -/
def Category.bit : Category → Nat
  | .link => 0 | .key => 1 | .gate => 2 | .alc => 3 | .player => 4 | .clip => 5 | .mixer => 6

/-- An optional value of one byte: 0xFF if absent (R201). -/
def optional8 : Option Byte → Byte
  | some b => b | none => 0xFF

/-- An optional value of two bytes: 0xFFFF if absent (R201). -/
def optional16 : Option Nat → List Byte
  | some n => u16 n | none => [0xFF, 0xFF]

end Sys2Proof.Machine
end

