-- ==== Sys2Proof/Machine/Operands.lean ====
section
/-! DEFINITION. How the part reads the fields of a request (R195, R201): numbers that name something, on/off values,
enumerations and sets are refused when outside their range; amounts are clamped to the nearer end of theirs. -/

namespace Sys2Proof.Machine

/-! ### Numbers that name something -/

/-- The pod of a number 1..24. -/
def podOf (b : Byte) : Option Pod :=
  if h : 1 ≤ b.toNat ∧ b.toNat ≤ 24 then some ⟨b.toNat - 1, by omega⟩ else none

/-- The trunk of a channel number 25..28. -/
def trunkOf (b : Byte) : Option Trunk :=
  if h : 25 ≤ b.toNat ∧ b.toNat ≤ 28 then some ⟨b.toNat - 25, by omega⟩ else none

/-- The record bus of a number 29 or 30. -/
def busOf (b : Byte) : Option RecordBus :=
  if h : 29 ≤ b.toNat ∧ b.toNat ≤ 30 then some ⟨b.toNat - 29, by omega⟩ else none

/-- The player of a number 1 or 2. -/
def playerOf (b : Byte) : Option Player :=
  if h : 1 ≤ b.toNat ∧ b.toNat ≤ 2 then some ⟨b.toNat - 1, by omega⟩ else none

/-- The clip of an id 1..32. -/
def clipOf (b : Byte) : Option ClipId :=
  if h : 1 ≤ b.toNat ∧ b.toNat ≤ 32 then some ⟨b.toNat - 1, by omega⟩ else none

/-- The byte of a pod's number. -/
def podByte (p : Pod) : Byte := u8 (p.1 + 1)

/-- The byte of a trunk's channel number. -/
def trunkByte (k : Trunk) : Byte := u8 (k.1 + 25)

/-- The byte of a player's number. -/
def playerByte (n : Player) : Byte := u8 (n.1 + 1)

/-- The byte of a clip's id. -/
def clipByte (c : ClipId) : Byte := u8 (c.1 + 1)

/-- The input channel of a pod, of a trunk and of a player (Introduction, Channel and output numbering). -/
def podChannel (p : Pod) : Channel := ⟨p.1, by omega⟩

/-- See podChannel. -/
def trunkChannel (k : Trunk) : Channel := ⟨k.1 + 24, by omega⟩

/-- See podChannel. -/
def playerChannel (n : Player) : Channel := ⟨n.1 + 28, by omega⟩

/-! ### On/off values, enumerations and sets -/

/-- 0 off, 1 on; any other value is refused. -/
def onOff (b : Byte) : Option Bool :=
  if b = 0 then some false else if b = 1 then some true else none

/-- R76. -/
def gateModeOf (b : Byte) : Option GateMode :=
  if b = 0 then some .auto else if b = 1 then some .bypass else none

/-- R104. -/
def keyModeOf (b : Byte) : Option KeyMode :=
  if b = 0 then some .toggle else if b = 1 then some .pushToTalk else if b = 2 then some .pushToMute else none

/-- HOLD_ALC's action: 0 HOLD, 1 RELEASE (R203). True for HOLD. -/
def holdActionOf (b : Byte) : Option Bool :=
  if b = 0 then some true else if b = 1 then some false else none

/-- The interval of SET_ALC (R126). -/
def intervalOf (b : Byte) : Option Nat :=
  if b = 1 ∨ b = 16 ∨ b = 64 then some b.toNat else none

/-- R203. -/
def loopBlockOf (b : Byte) : Option LoopBlock :=
  if b = 0 then some .none else if b = 1 then some .b256 else if b = 2 then some .b512
  else if b = 3 then some .b1024 else if b = 4 then some .b2048 else none

/-- R159. -/
def nextActionOf (b : Byte) : Option NextAction :=
  if b = 0 then some .next else if b = 1 then some .wait else if b = 2 then some .stop else none

/-- A set of `n` members: refused if a bit beyond them is set (R201). -/
def setOf (n : Nat) (b : Byte) : Bool := decide (b.toNat < 2 ^ n)

/-- Routing POD, TRUNK, RECORD. -/
def routingOf (b : Byte) : Option Routing :=
  if setOf 3 b then some { pod := b.getLsbD 0, trunk := b.getLsbD 1, record := b.getLsbD 2 } else none

/-- Record flags ROOM, FAR, PROMPT, with a gain. -/
def recordSettingOf (b : Byte) (gain : Int) : Option RecordSetting :=
  if setOf 3 b then some { room := b.getLsbD 0, far := b.getLsbD 1, prompt := b.getLsbD 2, gain := gain } else none

/-! ### Amounts -/

/-- The value of `lo..hi` nearest to `x`. -/
def clampInt (lo hi x : Int) : Int := max lo (min hi x)

/-- The value of `lo..hi` nearest to `n`. -/
def clampNat (lo hi n : Nat) : Nat := max lo (min hi n)

/-- OK, or CLAMPED if a value was clamped (R195). -/
def okOr (clamped : Bool) : Status := if clamped then .clamped else .ok

/-- The entries of a table from `first` on, `count` of them, cut at the table's end (R47, R58, R60, R155). -/
def cutRange {n : Nat} (first count : Nat) : List (Fin n) :=
  (List.finRange n).filter fun i => decide (first ≤ i.1 + 1 ∧ i.1 + 1 < first + count)

end Sys2Proof.Machine
end

