-- ==== Sys2Proof/Machine/Ops.lean ====
section
/-! DEFINITION. The operations that several blocks share: exact arithmetic and the gain tables, ramps, clip memory, the
outbound queue and the taking of a request, the gate and mute operations that links, keys and requests call on. -/

namespace Sys2Proof.Machine

/-! ### Arithmetic (Introduction, Conventions; R6) -/

/-- Round-shift by `n`: 2^(n-1) is added, then the floor of the quotient by 2^n is taken. -/
def roundShift (n : Nat) (v : Int) : Int := (v + 2 ^ (n - 1)) / 2 ^ n

/-- The least integer not below a / b. -/
def ceilDiv (a b : Nat) : Nat := (a + b - 1) / b

/-- The greatest r below 2^18 with r^40 ≤ y, found bit by bit from the top. -/
def root40 (y : Nat) : Nat :=
  [17, 16, 15, 14, 13, 12, 11, 10, 9, 8, 7, 6, 5, 4, 3, 2, 1, 0].foldl
    (fun r b => if (r + 2 ^ b) ^ 40 ≤ y then r + 2 ^ b else r) 0

/-- round(scale × 10^(k/40)), exactly: floor(2 × scale × 10^(k/40)) is the 40th root of (2 × scale)^40 × 10^k, and the
nearest integer to x is floor((floor(2x) + 1) / 2). -/
def scaledPower (scale : Nat) (k : Int) : Nat :=
  (root40 (if 0 ≤ k then (2 * scale) ^ 40 * 10 ^ k.toNat else (2 * scale) ^ 40 / 10 ^ (-k).toNat) + 1) / 2

/-- The Lin12 table; a gain in steps is clamped to -120..+48 before the table is read. -/
def lin12 (k : Int) : Nat := scaledPower 4096 (clampInt (-120) 48 k)

/-- The Lin15 table, which exists for k from -120 to 0. -/
def lin15 (k : Int) : Nat := scaledPower 32768 (clampInt (-120) 0 k)

/-- Full scale of a ramp. -/
def fullScale : Nat := 32768

/-! ### Ramps (section 1.8) -/

/-- R22: the step of a target set with `length` frames. -/
def rampStep (length : Nat) : Nat := ceilDiv fullScale (length * 16)

/-- R22: the owner sets a target. A setting with the same target and length as the last one set changes nothing. -/
def Ramp.setTarget (target length : Nat) (r : Ramp) : Ramp :=
  if r.lastSetting = .target target length then r
  else { r with pendingTarget := some (target, length), lastSetting := .target target length }

/-- R24: the owner makes the ramp jump. The jump replaces a target or jump that is pending. -/
def Ramp.jump (v : Nat) (r : Ramp) : Ramp :=
  { r with pendingJump := some v, pendingTarget := none, lastSetting := .jump v }

/-- R24: a pending jump comes in force. -/
def Ramp.takeJump (r : Ramp) : Ramp :=
  match r.pendingJump with
  | none => r
  | some v => { r with value := v, target := v, arrivalPending := false, pendingJump := none }

/-- R22: a pending target comes in force. -/
def Ramp.takeTarget (r : Ramp) : Ramp :=
  match r.pendingTarget with
  | none => r
  | some (t, len) =>
    { r with target := t, step := some (rampStep len), arrivalPending := true, pendingTarget := none }

/-- R22, R24: at position 0 of a period, the jump first and then the target. -/
def Ramp.comeInForce (r : Ramp) : Ramp := r.takeJump.takeTarget

/-- R23: one move. -/
def Ramp.move (r : Ramp) : Ramp :=
  if r.value < r.target then { r with value := min r.target (r.value + r.step.getD 0) }
  else { r with value := max r.target (r.value - r.step.getD 0) }

/-- R25: whether the owner receives the arrival for the period just ended. -/
def Ramp.arrives (r : Ramp) : Bool :=
  r.arrivalPending && r.pendingTarget.isNone && r.pendingJump.isNone && r.value == r.target

/-- R25: the flag clears at an arrival. -/
def Ramp.clearArrival (r : Ramp) : Ramp := if r.arrives then { r with arrivalPending := false } else r

/-- The value after position 15 becomes the value of the last period ended. -/
def Ramp.endPeriod (r : Ramp) : Ramp := { r with ended := r.value }

/-- The same operation on every ramp of the part. -/
def Ramps.map (f : Ramp → Ramp) (r : Ramps) : Ramps :=
  { gate := Vec.tab fun p => f r.gate[p], localMute := Vec.tab fun p => f r.localMute[p],
    privacy := Vec.tab fun p => f r.privacy[p], duck := Vec.tab fun p => f r.duck[p],
    trunkMute := Vec.tab fun k => f r.trunkMute[k], player := Vec.tab fun n => f r.player[n], master := f r.master }

def State.onGateRamp (p : Pod) (f : Ramp → Ramp) (s : State) : State :=
  { s with ramps := { s.ramps with gate := Vec.put s.ramps.gate p (f s.ramps.gate[p]) } }

def State.onLocalMuteRamp (p : Pod) (f : Ramp → Ramp) (s : State) : State :=
  { s with ramps := { s.ramps with localMute := Vec.put s.ramps.localMute p (f s.ramps.localMute[p]) } }

/-- The mute controller sets the 24 privacy ramps together (R88). -/
def State.onPrivacyRamps (f : Ramp → Ramp) (s : State) : State :=
  { s with ramps := { s.ramps with privacy := Vec.tab fun p => f s.ramps.privacy[p] } }

def State.onDuckRamp (p : Pod) (f : Ramp → Ramp) (s : State) : State :=
  { s with ramps := { s.ramps with duck := Vec.put s.ramps.duck p (f s.ramps.duck[p]) } }

def State.onTrunkMuteRamp (k : Trunk) (f : Ramp → Ramp) (s : State) : State :=
  { s with ramps := { s.ramps with trunkMute := Vec.put s.ramps.trunkMute k (f s.ramps.trunkMute[k]) } }

def State.onPlayerRamp (n : Player) (f : Ramp → Ramp) (s : State) : State :=
  { s with ramps := { s.ramps with player := Vec.put s.ramps.player n (f s.ramps.player[n]) } }

def State.onMasterRamp (f : Ramp → Ramp) (s : State) : State :=
  { s with ramps := { s.ramps with master := f s.ramps.master } }

/-! ### Clip memory (R144) -/

/-- The number of bytes of clip memory: 512 pages of 256 samples of 2 bytes. -/
def memorySize : Nat := 262144

/-- The byte at an address; an unlisted byte reads 0 (log entry 7). -/
def Memory.read : List Host.Cell → Nat → Byte
  | [], _ => 0
  | (b, v) :: rest, a => if a = b then v else Memory.read rest a

/-- Writing 0, which an unlisted byte reads as, lists nothing. -/
def Memory.cons (a : Nat) (v : Byte) (rest : List Host.Cell) : List Host.Cell :=
  if v = 0 then rest else (a, v) :: rest

/-- A byte written. -/
def Memory.write : List Host.Cell → Nat → Byte → List Host.Cell
  | [], a, v => Memory.cons a v []
  | (b, w) :: rest, a, v =>
    if a < b then Memory.cons a v ((b, w) :: rest)
    else if a = b then Memory.cons a v rest
    else (b, w) :: Memory.write rest a v

/-- The bytes of addresses lo to hi - 1 become 0. -/
def Memory.clear (m : List Host.Cell) (lo hi : Nat) : List Host.Cell :=
  m.filter fun c => !(decide (lo ≤ c.1) && decide (c.1 < hi))

/-- The canonical form from address `lo` on: addresses strictly rising, none beyond the memory's end, no byte of 0
listed. -/
def Memory.wfFrom : Nat → List Host.Cell → Bool
  | _, [] => true
  | lo, (a, v) :: rest => decide (lo ≤ a) && decide (a < memorySize) && decide (v ≠ 0) && Memory.wfFrom (a + 1) rest

/-- The canonical form of clip memory. -/
def Memory.wf (m : List Host.Cell) : Bool := Memory.wfFrom 0 m

/-- The address of the first byte of a sample slot (log entry 7). -/
def slotAddress (page : PageNumber) (offset : Fin 256) : Nat := 2 * (256 * page.1 + offset.1)

/-- The sample in a slot. -/
def Memory.sample (m : List Host.Cell) (page : PageNumber) (offset : Fin 256) : Sample :=
  Memory.read m (slotAddress page offset) ++ Memory.read m (slotAddress page offset + 1)

/-- A sample written to a slot. -/
def Memory.writeSample (m : List Host.Cell) (page : PageNumber) (offset : Fin 256) (x : Sample) : List Host.Cell :=
  Memory.write (Memory.write m (slotAddress page offset) (x.extractLsb' 8 8)) (slotAddress page offset + 1)
    (x.extractLsb' 0 8)

/-- Every sample slot of a page becomes 0 (R146). -/
def Memory.clearPage (m : List Host.Cell) (page : PageNumber) : List Host.Cell :=
  Memory.clear m (512 * page.1) (512 * page.1 + 512)

/-! ### The outbound queue (R196 to R201) -/

/-- R201: the bytes of the frame that carries a message: the start byte, the length, type, tag and payload, and the check
that makes the sum from the length byte on 0 modulo 256. -/
def Message.bytes (m : Message) : List Byte := RequestFrame.bytes { type := m.type, tag := m.tag, payload := m.payload }

/-- R196, R200: the frame on the transmit line, that of the first message queued; none while the line is idle. -/
def State.transmitted (s : State) : List Byte := (s.control.queue.head?.map Message.bytes).getD []

/-- The answers in a queue. -/
def answerCount (q : List Message) : Nat := (q.filter fun m => !m.isReport).length

/-- The reports in a queue. -/
def reportCount (q : List Message) : Nat := (q.filter fun m => m.isReport).length

/-- R196: a report that its category lets pass is queued if fewer than 32 reports are queued, with the lost flag as
its flags byte, whose other bits are 0 (log entry 27), and the lost flag clears; otherwise it is discarded and the lost
flag is set. -/
def Control.enqueueReport (type : Byte) (fields : List Byte) (c : Control) : Control :=
  if reportCount c.queue < 32 then
    { c with queue := c.queue ++ [{ isReport := true, type := type, tag := 0, payload := bit8 c.lost :: fields }],
             lost := false }
  else { c with lost := true }

/-- A report of no category (R198). -/
def State.postAlways (type : Byte) (fields : List Byte) (s : State) : State :=
  { s with control := s.control.enqueueReport type fields }

/-- R198: a report whose category is off is dropped at the moment of posting. -/
def State.post (cat : Category) (type : Byte) (fields : List Byte) (s : State) : State :=
  if s.control.mask.getLsbD cat.bit then s.postAlways type fields else s

/-- R199. -/
def State.controlError (cause : ControlCause) (received : Nat) (type tag : Byte) (s : State) : State :=
  s.postAlways 0xE1 [cause.code, u8 received, type, tag]

/-- R194: the type of the answer to a request. -/
def answerType (type : Byte) : Byte := if type.toNat < 0x80 then type + 0x80 else 0xFF

/-- R193, R194: an answer is queued. -/
def State.queueAnswer (type tag : Byte) (status : Status) (fields : List Byte) (s : State) : State :=
  { s with control :=
    { s.control with queue := s.control.queue ++
      [{ isReport := false, type := answerType type, tag := tag, payload := status.code :: fields }] } }

/-- What the block that owns a request decides: the status and result fields of the answer, and the effect, which
comes after the answer has been queued. -/
structure Verdict where
  status : Status
  fields : List Byte
  effect : State → State

/-- R195: a refused request changes nothing. -/
def Verdict.refuse (status : Status) : Verdict := { status := status, fields := [], effect := id }

/-- A request that is answered and changes nothing. -/
def Verdict.answer (status : Status) (fields : List Byte) : Verdict :=
  { status := status, fields := fields, effect := id }

/-- The receiver returns to HUNT (R190). -/
def State.hunt (s : State) : State := { s with control := { s.control with receiver := Receiver.hunting } }

/-- R193: a correct request with a payload of `length` bytes is taken. The receiver is back in HUNT; with 8 answers
queued the request is not executed and CONTROL_ERROR OVERRUN is posted; otherwise the answer is queued, and then the
request takes effect. While a reset is being carried out or awaited no request is taken (R186). -/
def takeRequest (type tag : Byte) (length : Nat) (judge : State → Verdict) (s : State) : State :=
  if s.session.phase = .running then
    if 8 ≤ answerCount s.hunt.control.queue then s.hunt.controlError .overrun (length + 4) type tag
    else
      let v := judge s.hunt
      v.effect (s.hunt.queueAnswer type tag v.status v.fields)
  else s

/-- A command that finds the part held in reset does nothing (log entry 17). -/
def unlessInReset (f : State → State) (s : State) : State :=
  match s.session.phase with
  | .running | .awaitingSoft => f s
  | .inSoftReset | .inHardReset => s

/-! ### Gates (R73, R78, R84) -/

def State.setGateState (p : Pod) (st : GateState) (count : Nat) (s : State) : State :=
  { s with automixer := { s.automixer with
    gates := Vec.put s.automixer.gates p { s.automixer.gates[p] with state := st, count := count } } }

def State.setPriority (p : Pod) (priority : Nat) (s : State) : State :=
  { s with automixer := { s.automixer with
    gates := Vec.put s.automixer.gates p { s.automixer.gates[p] with priority := priority } } }

/-- The channel leaves the wait queue, and a request collected from it is dropped. -/
def State.dequeueGate (p : Pod) (s : State) : State :=
  { s with automixer := { s.automixer with
    waitQueue := s.automixer.waitQueue.filter (· != p), collected := s.automixer.collected.filter (· != p) } }

/-- R84. -/
def State.gateEvent (p : Pod) (before after : GateState) (cause : GateCause) (s : State) : State :=
  s.post .gate 0xE5 [podByte p, before.code, after.code, cause.code]

/-- Whether a gate ramp stands open for a state (the table of R62). -/
def GateState.live : GateState → Bool
  | .opened | .hold | .bypass => true
  | .closed | .pending | .waiting => false

/-- R78: the target that the channel's state calls for, with the lengths and the off-attenuation in force as it is set (log
entry 25); a channel that carries FAULT is set none (R74). -/
def State.retargetGate (p : Pod) (s : State) : State :=
  if s.mutes.reasons[p].fault then s
  else if s.automixer.gates[p].state.live then s.onGateRamp p (·.setTarget fullScale s.automixer.params.attack)
  else s.onGateRamp p (·.setTarget (lin15 s.automixer.params.offAttenuation) s.automixer.params.release)

/-- The channel goes to CLOSED with its count at 0, leaves the wait queue, and posts the change. -/
def State.releaseGate (p : Pod) (cause : GateCause) (s : State) : State :=
  ((s.setGateState p .closed 0).dequeueGate p).gateEvent p s.automixer.gates[p].state .closed cause

/-- R73: a channel that has gained a local reason. CLOSED and BYPASS stay as they are. -/
def State.closeForMute (p : Pod) (s : State) : State :=
  match s.automixer.gates[p].state with
  | .closed | .bypass => s
  | .pending | .waiting | .opened | .hold => (s.releaseGate p .muted).retargetGate p

/-! ### Mute reasons (R87, R89, R90) -/

/-- Whether a pod channel with this set is locally muted (R86). -/
def Reasons.muted (r : Reasons) : Bool := r.key || r.host || r.chair || r.fault

/-- R87, R73: the reason set of a pod becomes `r`. When it changes between empty and non-empty the local mute ramp is
retargeted, and a channel that becomes muted has its gate closed. -/
def State.setReasons (p : Pod) (r : Reasons) (s : State) : State :=
  let before := s.mutes.reasons[p].muted
  let s1 := { s with mutes := { s.mutes with reasons := Vec.put s.mutes.reasons p r } }
  if before = r.muted then s1
  else if r.muted then (s1.onLocalMuteRamp p (·.setTarget 0 s.mutes.rampLength)).closeForMute p
  else s1.onLocalMuteRamp p (·.setTarget fullScale s.mutes.rampLength)

def State.setKey (p : Pod) (present : Bool) (s : State) : State :=
  s.setReasons p { s.mutes.reasons[p] with key := present }

def State.setHost (p : Pod) (present : Bool) (s : State) : State :=
  s.setReasons p { s.mutes.reasons[p] with host := present }

def State.setChair (p : Pod) (present : Bool) (s : State) : State :=
  s.setReasons p { s.mutes.reasons[p] with chair := present }

/-- R74, R89: a channel gains FAULT. Its gate is closed and its gate ramp made to jump to 0. -/
def State.gainFault (p : Pod) (s : State) : State :=
  (s.setReasons p { s.mutes.reasons[p] with fault := true }).onGateRamp p (·.jump 0)

/-- R74, R89: a channel loses FAULT, and its gate ramp is set the target its state calls for. -/
def State.loseFault (p : Pod) (s : State) : State :=
  (s.setReasons p { s.mutes.reasons[p] with fault := false }).retargetGate p

/-- What the key mode makes of KEY from an accepted TALK level; none where it leaves KEY as it was (R94, R95, R104). -/
def KeyMode.keyFor (mode : KeyMode) (pressed : Bool) : Option Bool :=
  match mode with
  | .toggle => none
  | .pushToTalk => some (!pressed)
  | .pushToMute => some pressed

/-- KEY as the mode gives it for an accepted TALK level. -/
def State.keyFollows (p : Pod) (pressed : Bool) (s : State) : State :=
  match s.mutes.keyMode[p].keyFor pressed with
  | none => s
  | some present => s.setKey p present

/-- R95: the accepted levels of both keys revert to released, the guard ages as they are, and KEY follows the mode. -/
def State.revertKeys (p : Pod) (s : State) : State :=
  ({ s with mutes := { s.mutes with
      talkKey := Vec.put s.mutes.talkKey p { s.mutes.talkKey[p] with pressed := false }
      allKey := Vec.put s.mutes.allKey p { s.mutes.allKey[p] with pressed := false } } }).keyFollows p false

/-! ### The talk-request list (R100, R101, R109) -/

/-- R109. The channel byte is 0 for LIST_CLEARED. -/
def State.talkReport (action : TalkAction) (channel : Byte) (s : State) : State :=
  s.post .key 0xE4 [action.code, channel, u8 s.mutes.talkList.length]

def State.setTalkList (l : List Pod) (s : State) : State := { s with mutes := { s.mutes with talkList := l } }

/-- An entry leaves the list, if it is there, with the action reported (R101). -/
def State.leaveTalkList (p : Pod) (action : TalkAction) (s : State) : State :=
  if p ∈ s.mutes.talkList then
    (s.setTalkList (s.mutes.talkList.filter (· != p))).talkReport action (podByte p)
  else s

/-! ### Link changes handed on (R42, R43) -/

/-- A change of link state with its cause. -/
structure LinkChange where
  before : LinkState
  after : LinkState
  cause : LinkCause
  deriving DecidableEq, Repr

/-- Whether a pod in this link state is without FAULT (R42). -/
def LinkState.trusted : LinkState → Bool
  | .locked | .coasting => true
  | .off | .absent | .acquiring | .settling => false

/-- Whether a link in this state hands on key levels: SETTLING, LOCKED and COASTING (R95). -/
def LinkState.takes : LinkState → Bool
  | .settling | .locked | .coasting => true
  | .off | .absent | .acquiring => false

/-- R43. -/
def State.linkEvent (p : Pod) (c : LinkChange) (s : State) : State :=
  s.post .link 0xE2 [podByte p, c.before.code, c.after.code, c.cause.code]

/-- R42, R74, R89: FAULT follows the link's change of state. -/
def State.faultFollows (p : Pod) (c : LinkChange) (s : State) : State :=
  if c.before.trusted && !c.after.trusted then s.gainFault p
  else if !c.before.trusted && c.after.trusted then s.loseFault p
  else s

/-- R95, R101: key levels revert when the link stops taking frames, and a request to speak is dropped when the link
goes to ABSENT or OFF. -/
def State.keysFollow (p : Pod) (c : LinkChange) (s : State) : State :=
  let s1 := if c.before.takes && !c.after.takes then s.revertKeys p else s
  if c.after = .absent ∨ c.after = .off then s1.leaveTalkList p .dropped else s1

/-- A change of link state handed on: the report of the link, the gate with FAULT, the keys and the list (log entry 9). -/
def State.handOn (p : Pod) (s : State) (c : LinkChange) : State :=
  ((s.linkEvent p c).faultFollows p c).keysFollow p c

/-- A link moves to `l`, and its changes of state are handed on in order. -/
def State.moveLink (p : Pod) (l : Link) (changes : List LinkChange) (s : State) : State :=
  changes.foldl (State.handOn p) { s with links := Vec.put s.links p l }

end Sys2Proof.Machine
end

