-- ==== Sys2Proof/Machine/LevelControl.lean ====
section
/-! DEFINITION. The level controller (Chapter 6): counting frames, the evaluation at an interval's end, hold and
disable; INTERVAL_END, SET_ALC, HOLD_ALC and GET_ALC. -/

namespace Sys2Proof.Machine

/-! ### Counting (R115) -/

/-- R115: whether a frame qualifies: the gate live without HOLD, and no local reason, as the period ends. -/
def qualifies (gate : GateState) (reasons : Reasons) : Bool :=
  (decide (gate = .opened) || decide (gate = .bypass)) && !reasons.muted

/-- R115: a qualifying frame of level `level` counted. -/
def AlcRecord.countFrame (level : Int) (r : AlcRecord) : AlcRecord :=
  { r with qualifying := r.qualifying + 1, levelSum := r.levelSum + level }

/-- R115: the judgement of one channel's frame; `before` is the state as the period ends. -/
def AlcRecord.judgeFrame (before : State) (p : Pod) (r : AlcRecord) : AlcRecord :=
  match (before.detectors[podChannel p]).frameLevel with
  | none => r
  | some level =>
    if !r.held && qualifies (before.automixer.gates[p]).state (before.mutes.reasons[p]) then r.countFrame level
    else r

/-! ### Evaluation (R117 to R123) -/

/-- R117: the least qualifying count, ceil(I / 2). -/
def leastCount (interval : Nat) : Nat := ceilDiv interval 2

/-- R117: Lavg, the floor of the mean. -/
def AlcRecord.meanLevel (r : AlcRecord) : Int := r.levelSum / r.qualifying

/-- R117: d. -/
def desiredGain (target mean : Int) : Int := clampInt (-24) 36 (target - mean)

/-- R120: the step from a difference: shifted with truncation toward zero, at least 1 in magnitude, and slewed. -/
def alcStep (shift slew : Nat) (diff : Int) : Int :=
  let shifted := diff.tdiv (2 ^ shift)
  let least := if shifted = 0 then (if 0 < diff then 1 else -1) else shifted
  clampInt (-slew) slew least

/-- The direction of a step (R120). -/
def stepSign (step : Int) : Sign := if 0 < step then .up else .down

/-- R121: the agreement run after a step in direction `d`. -/
def AlcRecord.nextRun (d : Sign) (r : AlcRecord) : Nat := if r.lastSign = some d then r.agreementRun + 1 else 1

/-- R122: whether the toggle filter stops a step in direction `d`. -/
def toggleStops (history : List Sign) (d : Sign) : Bool :=
  match history with
  | [older, later] => decide (older ≠ later) && decide (d ≠ later)
  | _ => false

/-- R123: a direction added as the later sign. -/
def pushSign (history : List Sign) (d : Sign) : List Sign :=
  match history with
  | [] => [d]
  | [a] => [a, d]
  | _ :: b :: _ => [b, d]

/-- R120 to R123: an evaluation that does not jump. -/
def AlcRecord.stepBy (params : AlcParams) (diff : Int) (r : AlcRecord) : AlcRecord :=
  let step := alcStep params.shift params.slew diff
  let d := stepSign step
  let run := r.nextRun d
  let counted := { r with agreementRun := run, lastSign := some d }
  if run < params.postCount then counted
  else if params.toggleFilter && toggleStops r.history d then { counted with agreementRun := 0 }
  else { counted with gain := clampInt (-24) 36 (r.gain + step), agreementRun := 0, history := pushSign r.history d }

/-- R119: a jump to the desired gain. -/
def AlcRecord.jumpTo (d : Int) (r : AlcRecord) : AlcRecord :=
  { r with gain := d, agreementRun := 0, lastSign := none, history := [] }

/-- R117 to R119: the outcome of an evaluation. -/
inductive AlcOutcome where
  | noRecommendation
  | agrees
  | jump (d : Int)
  | step (diff : Int)
  deriving DecidableEq, Repr

/-- R117 to R119. -/
def AlcRecord.outcome (params : AlcParams) (r : AlcRecord) : AlcOutcome :=
  if r.qualifying < leastCount params.interval then .noRecommendation
  else
    let d := desiredGain params.target r.meanLevel
    let diff := d - r.gain
    if diff = 0 then .agrees
    else if params.autoJump && decide (params.jumpLimit < diff.natAbs) then .jump d
    else .step diff

/-- R117 to R123: the record after an evaluation. -/
def AlcRecord.evaluate (params : AlcParams) (r : AlcRecord) : AlcRecord :=
  match r.outcome params with
  | .noRecommendation => r
  | .agrees => { r with agreementRun := 0, lastSign := none }
  | .jump d => r.jumpTo d
  | .step diff => r.stepBy params diff

/-- R116: a held channel is not evaluated; every count and sum becomes 0. -/
def AlcRecord.endInterval (params : AlcParams) (r : AlcRecord) : AlcRecord :=
  { (if r.held then r else r.evaluate params) with qualifying := 0, levelSum := 0 }

/-- R130: an ALC_JUMP for a channel that jumps at this interval's end. -/
def State.reportJump (p : Pod) (r : AlcRecord) (s : State) : State :=
  if r.held then s
  else
    match r.outcome s.alc.params with
    | .jump d => s.post .alc 0xE6 [podByte p, i8 r.gain, i8 d, i8 r.meanLevel, u8 r.qualifying]
    | .noRecommendation | .agrees | .step _ => s

def State.setAlcRecords (f : Pod → AlcRecord → AlcRecord) (s : State) : State :=
  { s with alc := { s.alc with records := Vec.tab fun p => f p (s.alc.records[p]) } }

def State.setAlcPosition (n : Nat) (s : State) : State := { s with alc := { s.alc with position := n } }

/-- R116, R130: the interval ends for every channel, with the reports in order of channel number. -/
def State.endInterval (s : State) : State :=
  let reported := allPods.foldl (fun t p => t.reportJump p (s.alc.records[p])) s
  (reported.setAlcRecords fun _ r => r.endInterval s.alc.params).setAlcPosition 0

/-- R116: the interval position after an increase, and the interval's end where it is reached. -/
def State.advanceInterval (s : State) : State :=
  if s.alc.params.interval ≤ s.alc.position + 1 then s.endInterval else s.setAlcPosition (s.alc.position + 1)

/-- R115, R116: the level controller's work at a boundary; `before` is the state as the period ends. -/
def State.levelControl (s before : State) : State :=
  if s.alc.params.enable then (s.setAlcRecords fun p r => r.judgeFrame before p).advanceInterval else s

/-- INTERVAL_END (R116): the end of the interval, where the next boundary would reach it; otherwise the event does not
occur (log entry 8). -/
def execIntervalEnd (s : State) : Host.Outcome State Fault Refusal :=
  .next (unlessInReset
    (fun s => if s.alc.params.enable && decide (s.alc.params.interval ≤ s.alc.position + 1) then s.endInterval else s) s)

/-! ### SET_ALC (R125 to R127) -/

/-- The values as sent, where the values to refuse stand in their ranges. -/
def alcAsked (enable : Bool) (target : Byte) (interval : Nat) (shift slew jumpLimit : Byte) (autoJump : Bool)
    (postCount : Byte) (toggle : Bool) : AlcParams :=
  { enable := enable, target := target.toInt, interval := interval, shift := shift.toNat, slew := slew.toNat,
    jumpLimit := jumpLimit.toNat, autoJump := autoJump, postCount := postCount.toNat, toggleFilter := toggle }

/-- R126: each amount clamped to its range. -/
def AlcParams.clamp (q : AlcParams) : AlcParams :=
  { q with target := clampInt (-60) 0 q.target, shift := clampNat 0 3 q.shift, slew := clampNat 1 24 q.slew,
           jumpLimit := clampNat 4 60 q.jumpLimit, postCount := clampNat 1 6 q.postCount }

/-- The nine values as bytes (R126, R131). -/
def AlcParams.bytes (q : AlcParams) : List Byte :=
  [bit8 q.enable, i8 q.target, u8 q.interval, u8 q.shift, u8 q.slew, u8 q.jumpLimit, bit8 q.autoJump, u8 q.postCount,
   bit8 q.toggleFilter]

/-- R125: what a disable makes of a record; the held flag is kept. -/
def AlcRecord.disabled (r : AlcRecord) : AlcRecord := { AlcRecord.reset with held := r.held }

/-- The accumulation of an interval cleared (R125, R127). -/
def AlcRecord.restart (r : AlcRecord) : AlcRecord := { r with qualifying := 0, levelSum := 0 }

/-- R125, R127: the values taken apply. -/
def State.takeAlcParams (q : AlcParams) (s : State) : State :=
  let t := { s with alc := { s.alc with params := q } }
  if s.alc.params.enable && !q.enable then (t.setAlcRecords fun _ r => r.disabled).setAlcPosition 0
  else if (!s.alc.params.enable && q.enable) || decide (s.alc.params.interval ≠ q.interval) then
    (t.setAlcRecords fun _ r => r.restart).setAlcPosition 0
  else t

/-- R126. -/
def judgeSetAlc (enable target interval shift slew jumpLimit autoJump postCount toggle : Byte) (_ : State) : Verdict :=
  match onOff enable, onOff autoJump, onOff toggle, intervalOf interval with
  | some en, some aj, some tf, some i =>
    let asked := alcAsked en target i shift slew jumpLimit aj postCount tf
    { status := okOr (decide (asked.clamp ≠ asked)), fields := asked.clamp.bytes,
      effect := State.takeAlcParams asked.clamp }
  | _, _, _, _ => .refuse .badValue

def serveSetAlc (tag enable target interval shift slew jumpLimit autoJump postCount toggle : Byte) (s : State) : State :=
  takeRequest 0x30 tag 9 (judgeSetAlc enable target interval shift slew jumpLimit autoJump postCount toggle) s

/-- SET_ALC (R126). -/
def execSetAlc (tag enable target interval shift slew jumpLimit autoJump postCount toggle : Byte) (s : State) :
    Host.Outcome State Fault Refusal :=
  .next (serveSetAlc tag enable target interval shift slew jumpLimit autoJump postCount toggle s)

/-! ### HOLD_ALC (R124) -/

/-- R124: HOLD on a channel not held. The gain is kept, everything else of the record is cleared. -/
def AlcRecord.hold (r : AlcRecord) : AlcRecord := { AlcRecord.reset with gain := r.gain, held := true }

/-- R124: the record after HOLD (true) or RELEASE (false). -/
def AlcRecord.setHeld (held : Bool) (r : AlcRecord) : AlcRecord :=
  if r.held = held then r else if held then r.hold else { r with held := false }

/-- R124. -/
def State.holdAlc (p : Pod) (held : Bool) (s : State) : State :=
  { s with alc := { s.alc with records := Vec.put s.alc.records p ((s.alc.records[p]).setHeld held) } }

/-- R124. -/
def judgeHoldAlc (channel action : Byte) (s : State) : Verdict :=
  match podOf channel, holdActionOf action with
  | some p, some held =>
    { status := .ok, fields := [bit8 held, i8 (s.alc.records[p]).gain], effect := State.holdAlc p held }
  | _, _ => .refuse .badValue

def serveHoldAlc (tag channel action : Byte) (s : State) : State :=
  takeRequest 0x31 tag 2 (judgeHoldAlc channel action) s

/-- HOLD_ALC (R124). -/
def execHoldAlc (tag channel action : Byte) (s : State) : Host.Outcome State Fault Refusal :=
  .next (serveHoldAlc tag channel action s)

/-! ### GET_ALC (R131) -/

/-- The 8 bytes of a channel in GET_ALC. -/
def AlcRecord.entry (r : AlcRecord) : List Byte :=
  [i8 r.gain, bit8 r.held, u8 r.qualifying] ++ i16 r.levelSum ++
    [u8 r.agreementRun, signCode r.lastSign, historyByte r.history]

/-- R131. -/
def judgeGetAlc (s : State) : Verdict :=
  .answer .ok
    (s.alc.params.bytes ++ u8 s.alc.position :: allPods.flatMap fun p => (s.alc.records[p]).entry)

def serveGetAlc (tag : Byte) (s : State) : State := takeRequest 0x32 tag 0 judgeGetAlc s

/-- GET_ALC (R131). -/
def execGetAlc (tag : Byte) (s : State) : Host.Outcome State Fault Refusal := .next (serveGetAlc tag s)

end Sys2Proof.Machine
end

