-- ==== Sys2Proof/Machine/Engine.lean ====
section
/-! DEFINITION. The mix engine (Chapter 1): contributions, bus sums, composition, scaling, saturation, and the moving of
the ramps over the 16 positions of a period. -/

namespace Sys2Proof.Machine

/-- The exact sum of `f` over all indices. -/
def sumOver {n : Nat} (f : Fin n → Int) : Int := (List.ofFn f).sum

/-- `x` if the flag is set, else 0. -/
def gated (flag : Bool) (x : Int) : Int := if flag then x else 0

/-! ### Contributions (section 1.4) -/

/-- R7: the pod gain G from the fader and the ALC gain in force. -/
def podGain (v : InForce) (p : Pod) : Nat := lin12 (v.feeds.podFader[p] + v.alcGain[p])

/-- R7: the scaled sample q. -/
def scaledSample (s : Int) (gain : Nat) : Int := roundShift 12 (s * gain)

/-- R8: the local factor rL. -/
def localFactor (g m : Nat) : Nat := g * m / 32768

/-- R8: the send factor rS. -/
def sendFactor (rL p : Nat) : Nat := rL * p / 32768

/-- R9, R10, R11: a value scaled by a ramp or ramp factor. -/
def rampScale (x : Int) (r : Nat) : Int := roundShift 15 (x * r)

/-- R10: u of a trunk. -/
def trunkScaled (x : Int) (fader : Int) : Int := roundShift 12 (x * lin12 fader)

/-- The contributions at one sample position: cL and cS per pod, t per trunk, pc per player. -/
structure Contributions where
  cL : Vector Int 24
  cS : Vector Int 24
  t : Vector Int 4
  pc : Vector Int 2

/-- R7, R8, R9: q at position `i`, from the inputs of the period. -/
def podScaled (v : InForce) (x : Inputs) (i : Fin 16) (p : Pod) : Int :=
  scaledSample x.pods[p][i].toInt (podGain v p)

/-- R7 to R11: the contributions at position `i`, with the ramp values after that position's move. -/
def contributions (v : InForce) (x : Inputs) (r : Ramps) (i : Fin 16) : Contributions :=
  { cL := Vec.tab fun p =>
      rampScale (podScaled v x i p) (localFactor r.gate[p].value r.localMute[p].value)
    cS := Vec.tab fun p =>
      rampScale (podScaled v x i p)
        (sendFactor (localFactor r.gate[p].value r.localMute[p].value) r.privacy[p].value)
    t := Vec.tab fun k =>
      gated v.roster.trunks[k] (rampScale (trunkScaled x.trunks[k][i].toInt v.feeds.trunkFader[k]) r.trunkMute[k].value)
    pc := Vec.tab fun n =>
      rampScale (roundShift 12 (x.players[n][i].sample.toInt * lin12 x.players[n][i].gain)) r.player[n].value }

/-! ### Bus sums (section 1.5) -/

structure BusSums where
  rl : Int
  rs : Int
  t : Int
  ppod : Int
  ptrk : Int
  prec : Int
  deriving DecidableEq, Repr

/-- R12. -/
def busSums (v : InForce) (c : Contributions) : BusSums :=
  { rl := sumOver fun p : Pod => gated v.roster.pods[p] c.cL[p]
    rs := sumOver fun p : Pod => gated v.roster.pods[p] c.cS[p]
    t := sumOver fun k : Trunk => gated v.roster.trunks[k] c.t[k]
    ppod := sumOver fun n : Player => gated v.routing[n].pod c.pc[n]
    ptrk := sumOver fun n : Player => gated v.routing[n].trunk c.pc[n]
    prec := sumOver fun n : Player => gated v.routing[n].record c.pc[n] }

/-! ### Composition (section 1.6) -/

/-- R133: whether pod i is in the exclusion set X(j), from the roster and zone table. -/
def excluded (roster : Roster) (zone : Vector Nat 24) (j i : Pod) : Bool :=
  decide (i = j) || (roster.pods[j] && roster.pods[i] && decide (zone[j] ≠ 0) && decide (zone[i] = zone[j]))

/-- R14: E(j), the sum of cL over the pods of X(j) that are in the roster. -/
def exclusionSum (v : InForce) (c : Contributions) (j : Pod) : Int :=
  sumOver fun i : Pod => gated (v.roster.pods[i] && excluded v.roster v.feeds.zone j i) c.cL[i]

/-- R14: A(j). -/
def podFeedValue (v : InForce) (c : Contributions) (b : BusSums) (j : Pod) : Int :=
  gated v.roster.pods[j] (b.rl - exclusionSum v c j + b.t + b.ppod)

/-- R15: B(k). -/
def trunkSendValue (v : InForce) (c : Contributions) (b : BusSums) (k : Trunk) : Int :=
  gated v.roster.trunks[k] (b.rs + b.t - c.t[k] + b.ptrk)

/-- R16: C(r). -/
def recordValue (v : InForce) (b : BusSums) (r : RecordBus) : Int :=
  gated v.feeds.record[r].room b.rs + gated v.feeds.record[r].far b.t + gated v.feeds.record[r].prompt b.prec

/-! ### Scaling and saturation (section 1.7) -/

/-- R17: y3. -/
def scaledPodFeed (v : InForce) (r : Ramps) (a : Int) (j : Pod) : Int :=
  rampScale (rampScale (roundShift 12 (a * lin12 v.feeds.volume[j])) r.duck[j].value) r.master.value

/-- R18: z2 and w2. -/
def scaledSend (r : Ramps) (x : Int) (gain : Int) : Int :=
  rampScale (roundShift 12 (x * lin12 gain)) r.master.value

/-- R19. -/
def saturates (x : Int) : Bool := decide (x < -32768) || decide (32767 < x)

/-- R19: the 16-bit sample of a last scaled value. -/
def saturate (x : Int) : Sample := BitVec.ofInt 16 (clampInt (-32768) 32767 x)

/-- The last scaled value of each of the 30 outputs at position `i`. -/
def scaledOutputs (v : InForce) (x : Inputs) (r : Ramps) (i : Fin 16) : Vector Int 30 :=
  let c := contributions v x r i
  let b := busSums v c
  Vec.tab fun o =>
    if h : o.1 < 24 then scaledPodFeed v r (podFeedValue v c b ⟨o.1, h⟩) ⟨o.1, h⟩
    else if h : o.1 < 28 then
      scaledSend r (trunkSendValue v c b ⟨o.1 - 24, by omega⟩)
        (v.feeds.sendGain[(⟨o.1 - 24, by omega⟩ : Trunk)])
    else
      scaledSend r (recordValue v b ⟨o.1 - 28, by omega⟩) (v.feeds.record[(⟨o.1 - 28, by omega⟩ : RecordBus)]).gain

/-! ### A whole period -/

/-- The positions from `i` on: each ramp makes its move, then the outputs are formed (R1, R23). The answer is the ramps
after the last position and the outputs of each position in order. -/
def runPositions (v : InForce) (x : Inputs) : List (Fin 16) → Ramps → Ramps × List (Vector Int 30)
  | [], r => (r, [])
  | i :: rest, r =>
    let moved := r.map Ramp.move
    let out := scaledOutputs v x moved i
    let (last, outs) := runPositions v x rest moved
    (last, out :: outs)

/-- The positions of a period in order. -/
def positions : List (Fin 16) := List.finRange 16

/-- The value of an output at a position, from the outputs of each position. -/
def outputAt (outs : List (Vector Int 30)) (o : Output) (i : Fin 16) : Int := (outs.getD i.1 (Vec.tab fun _ => 0))[o]

/-- R19: the output frame of `o`. -/
def outputFrame (outs : List (Vector Int 30)) (o : Output) : Frame := Vec.tab fun i => saturate (outputAt outs o i)

/-- R57: whether the engine saturated any sample of the frame of `o`. -/
def outputClipped (outs : List (Vector Int 30)) (o : Output) : Bool := outs.any fun v => saturates v[o]

/-- The magnitude of a sample; that of -32768 is 32768 (R56). -/
def magnitude (x : Sample) : Nat := x.toInt.natAbs

/-- The largest magnitude of 16 samples (R56). -/
def framePeak (f : Frame) : Nat := f.toList.foldl (fun m x => max m (magnitude x)) 0

/-- R57: an output's meter updated from the frame handed out. -/
def OutputMeter.update (frame : Frame) (clipped : Bool) (m : OutputMeter) : OutputMeter :=
  { peak := max m.peak (framePeak frame), clip := m.clip || clipped }

/-- R1, R20, R57: the output frames are handed out, and the output meters updated from them. -/
def State.handOut (outs : List (Vector Int 30)) (s : State) : State :=
  { s with
    outputs := Vec.tab fun o => outputFrame outs o
    outputMeters := Vec.tab fun o => (s.outputMeters[o]).update (outputFrame outs o) (outputClipped outs o) }

/-- The bits of a sample as a data output sends them, most significant bit first (R20). -/
def sampleBits (x : Sample) : List Bool := (List.range 16).map fun k => x.getMsbD k

/-- R20: the bits on the data output of a record bus during the period in progress: the 16 samples handed out at the
boundary that opened it, position 0 first. -/
def State.recordLine (s : State) (b : RecordBus) : List Bool :=
  s.outputs[(⟨b.1 + 28, by omega⟩ : Output)].toList.flatMap sampleBits

/-- R1: the period in progress ends. At the first boundary after a reset no period has ended, and zeros are handed out. -/
def State.closePeriod (s : State) : State :=
  match s.inForce with
  | none => s.handOut []
  | some v =>
    let (r, outs) := runPositions v s.inputs positions s.ramps
    { s with ramps := r.map Ramp.endPeriod }.handOut outs

/-- R2: the values last set come in force, and pending targets and jumps with them: a new period is opened. A routing
cleared at this boundary is out of force with it (log entry 19). -/
def State.openPeriod (s : State) : State :=
  { s with
    ramps := s.ramps.map Ramp.comeInForce
    inForce := some
      { roster := s.session.roster, feeds := s.router.feeds, alcGain := Vec.tab fun p => (s.alc.records[p]).gain,
        routing := Vec.tab fun n => (s.players[n]).routing } }

end Sys2Proof.Machine
end

