-- ==== Sys2Proof/Machine/Levels.lean ====
section
/-! DEFINITION. The level detector (Chapter 3): frame level, smoothed level, noise floor and meters; NOISE_FLOOR_RISE,
GET_LEVELS and GET_OUTPUT_LEVELS. -/

namespace Sys2Proof.Machine

/-- R50: the exact sum of the squares of the 16 samples. -/
def frameEnergy (f : Frame) : Nat := (f.toList.map fun x => magnitude x ^ 2).sum

/-- R50: E ≥ 2^34 × 10^(-j/20), compared exactly: both sides to the 20th power. -/
def reaches (energy j : Nat) : Bool := decide (2 ^ 680 ≤ energy ^ 20 * 10 ^ j)

/-- R50: the frame level of an energy: the greatest k in -120..0 with E ≥ 2^34 × 10^(k/20), else -120. -/
def levelOf (energy : Nat) : Int :=
  match (List.range 121).find? (reaches energy) with
  | some j => -(j : Int)
  | none => -120

/-- R50: L. -/
def levelOfFrame (f : Frame) : Int := levelOf (frameEnergy f)

/-- R51: the new smoothed level from the frame level. -/
def smooth (level smoothed : Int) : Int :=
  if smoothed < level then smoothed + (level - smoothed + 1) / 2
  else if level < smoothed then smoothed - (smoothed - level + 15) / 16
  else smoothed

/-- R52: the noise floor and rise counter, after S has been updated. -/
def Detector.updateFloor (d : Detector) : Detector :=
  if d.smoothed < d.noiseFloor then { d with noiseFloor := d.smoothed, riseCounter := 0 }
  else if 64 ≤ d.riseCounter + 1 then { d with noiseFloor := min (d.noiseFloor + 1) d.smoothed, riseCounter := 0 }
  else { d with riseCounter := d.riseCounter + 1 }

/-- R50 to R52, R56: one channel measured at a boundary. -/
def Detector.measure (f : Frame) (d : Detector) : Detector :=
  Detector.updateFloor
    { d with frameLevel := some (levelOfFrame f), smoothed := smooth (levelOfFrame f) d.smoothed,
             peak := max d.peak (framePeak f) }

/-- R49: the 16 samples measured on a channel. -/
def Inputs.measured (x : Inputs) (c : Channel) : Frame :=
  if h : c.1 < 24 then x.pods[(⟨c.1, h⟩ : Pod)]
  else if h : c.1 < 28 then x.trunks[(⟨c.1 - 24, by omega⟩ : Trunk)]
  else Vec.tab fun i => (x.players[(⟨c.1 - 28, by omega⟩ : Player)])[i].sample

/-- R49: every channel is measured at every boundary. -/
def State.measureAll (s : State) : State :=
  { s with detectors := Vec.tab fun c => (s.detectors[c]).measure (s.inputs.measured c) }

/-- NOISE_FLOOR_RISE (R52): the update that brings the channel's rise counter to 64; where it would not, the event does
not occur (log entry 8). -/
def execNoiseFloorRise (c : Channel) (s : State) : Host.Outcome State Fault Refusal :=
  .next (unlessInReset
    (fun s =>
      let d := s.detectors[c]
      if d.noiseFloor ≤ d.smoothed ∧ 64 ≤ d.riseCounter + 1 then
        { s with detectors := Vec.put s.detectors c d.updateFloor }
      else s) s)

/-! ### GET_LEVELS and GET_OUTPUT_LEVELS -/

/-- The entry of a channel in GET_LEVELS (R58). -/
def Detector.entry (d : Detector) : List Byte := i8 d.smoothed :: i8 d.noiseFloor :: u16 d.peak

/-- R58: the peaks of the channels listed become 0. -/
def State.clearPeaks (listed : List Channel) (s : State) : State :=
  { s with detectors := Vec.tab fun c =>
      if c ∈ listed then { s.detectors[c] with peak := 0 } else s.detectors[c] }

/-- R58. A CLAMPED answer has no byte of its own for the count taken: its count byte is the number of entries that follow
(log entry 10). -/
def judgeGetLevels (first count : Byte) (s : State) : Verdict :=
  if 1 ≤ first.toNat ∧ first.toNat ≤ 30 then
    let n := clampNat 1 30 count.toNat
    let listed : List Channel := cutRange first.toNat n
    { status := okOr (decide (n ≠ count.toNat)),
      fields := u8 listed.length :: listed.flatMap fun c => (s.detectors[c]).entry,
      effect := State.clearPeaks listed }
  else .refuse .badValue

def serveGetLevels (tag first count : Byte) (s : State) : State :=
  takeRequest 0x14 tag 2 (judgeGetLevels first count) s

/-- GET_LEVELS (R58). -/
def execGetLevels (tag first count : Byte) (s : State) : Host.Outcome State Fault Refusal :=
  .next (serveGetLevels tag first count s)

/-- The entry of an output in GET_OUTPUT_LEVELS (R60). -/
def OutputMeter.entry (m : OutputMeter) : List Byte := u16 m.peak ++ [bit8 m.clip]

/-- R60: the meters of the outputs listed are cleared. -/
def State.clearOutputMeters (listed : List Output) (s : State) : State :=
  { s with outputMeters := Vec.tab fun o =>
      if o ∈ listed then { peak := 0, clip := false } else s.outputMeters[o] }

/-- R60. The count byte is that of judgeGetLevels (log entry 10). -/
def judgeGetOutputLevels (first count : Byte) (s : State) : Verdict :=
  if 1 ≤ first.toNat ∧ first.toNat ≤ 30 then
    let n := clampNat 1 30 count.toNat
    let listed : List Output := cutRange first.toNat n
    { status := okOr (decide (n ≠ count.toNat)),
      fields := u8 listed.length :: listed.flatMap fun o => (s.outputMeters[o]).entry,
      effect := State.clearOutputMeters listed }
  else .refuse .badValue

def serveGetOutputLevels (tag first count : Byte) (s : State) : State :=
  takeRequest 0x15 tag 2 (judgeGetOutputLevels first count) s

/-- GET_OUTPUT_LEVELS (R60). -/
def execGetOutputLevels (tag first count : Byte) (s : State) : Host.Outcome State Fault Refusal :=
  .next (serveGetOutputLevels tag first count s)

end Sys2Proof.Machine
end

