-- ==== Sys2Proof/Machine/Gating.lean ====
section
/-! DEFINITION. The automixer (Chapter 4): the four steps of a boundary, slots, the wait queue, preemption;
OPEN_COUNT_REACHED, HOLD_EXPIRY, WAIT_TIMEOUT, SET_AUTOMIX, SET_GATE and GET_GATES. -/

namespace Sys2Proof.Machine

/-! ### Holders and orders -/

def State.gate (s : State) (p : Pod) : Gate := s.automixer.gates[p]

/-- R62: a channel in OPEN or HOLD. -/
def GateState.holds : GateState → Bool
  | .opened | .hold => true
  | .closed | .pending | .waiting | .bypass => false

/-- The holders, in ascending pod number. -/
def State.holders (s : State) : List Pod := allPods.filter fun p => (s.gate p).state.holds

/-- S as the level detector last formed it: in force for the period that the boundary ends (R54, R63). -/
def State.smoothedOf (s : State) (p : Pod) : Int := (s.detectors[podChannel p]).smoothed

/-- R71: holder `a` comes before holder `b` in victim order: lower priority, then HOLD before OPEN, then lower S, then
the higher pod number. -/
def State.victimBefore (s : State) (a b : Pod) : Bool :=
  let ga := s.gate a
  let gb := s.gate b
  if ga.priority ≠ gb.priority then decide (ga.priority < gb.priority)
  else if ga.state ≠ gb.state then decide (ga.state = .hold)
  else if s.smoothedOf a ≠ s.smoothedOf b then decide (s.smoothedOf a < s.smoothedOf b)
  else decide (b.1 ≤ a.1)

/-- R70: request `a` is taken before request `b`: higher priority, then higher S, then the lower pod number. -/
def State.requestBefore (s : State) (a b : Pod) : Bool :=
  if (s.gate a).priority ≠ (s.gate b).priority then decide ((s.gate b).priority < (s.gate a).priority)
  else if s.smoothedOf a ≠ s.smoothedOf b then decide (s.smoothedOf b < s.smoothedOf a)
  else decide (a.1 ≤ b.1)

/-- Pods in an order. -/
def sortPods (before : Pod → Pod → Bool) (l : List Pod) : List Pod := l.insertionSort fun a b => before a b = true

/-- R71: the first holder in victim order. -/
def State.victim (s : State) : Option Pod := (sortPods s.victimBefore s.holders).head?

/-! ### Step 1 (R63, R65 to R68) -/

/-- R63. -/
def State.above (s : State) (p : Pod) : Bool :=
  let d := s.detectors[podChannel p]
  decide (d.noiseFloor + s.automixer.params.margin ≤ d.smoothed) && decide (s.automixer.params.gateFloor ≤ d.smoothed)

/-- R63: read at the moment of the automixer's work, so a channel that lost its last reason earlier at the same boundary
is judged there (log entry 20). -/
def State.eligible (s : State) (p : Pod) : Bool := !(s.mutes.reasons[p]).muted

/-- What the judgement of a channel leaves to be taken later in the boundary. -/
inductive GateMark where
  | none | request | timeout | expired
  deriving DecidableEq, Repr

/-- R66: the hold count of a channel in HOLD that is not above. -/
def nextHoldCount (holdFrames count : Nat) : Nat := if count < holdFrames then count + 1 else count

/-- R65 to R68: the judgement of a gate by the rule of its state. -/
def Gate.judge (params : AutomixParams) (above eligible : Bool) (g : Gate) : Gate × GateMark :=
  match g.state with
  | .closed =>
    if above && eligible then
      ({ g with state := .pending, count := 1 }, if params.openCount ≤ 1 then .request else .none)
    else (g, .none)
  | .pending =>
    if above then
      ({ g with count := g.count + 1 }, if params.openCount ≤ g.count + 1 then .request else .none)
    else ({ g with state := .closed, count := 0 }, .none)
  | .waiting =>
    if above then ({ g with count := 0 }, .none)
    else ({ g with count := g.count + 1 }, if params.holdFrames ≤ g.count + 1 then .timeout else .none)
  | .opened =>
    if above then (g, .none)
    else ({ g with state := .hold, count := 1 }, if params.holdFrames ≤ 1 then .expired else .none)
  | .hold =>
    if above then ({ g with state := .opened, count := 0 }, .none)
    else
      ({ g with count := nextHoldCount params.holdFrames g.count },
        if params.holdFrames ≤ nextHoldCount params.holdFrames g.count then .expired else .none)
  | .bypass => (g, .none)

/-- R64: a channel in mode BYPASS is not judged. -/
def State.judgeGate (s : State) (p : Pod) : Gate × GateMark :=
  match (s.gate p).mode with
  | .auto => (s.gate p).judge s.automixer.params (s.above p) (s.eligible p)
  | .bypass => (s.gate p, .none)

/-- The channels of `l` with a mark. -/
def State.marked (s : State) (m : GateMark) (l : List Pod) : List Pod := l.filter fun p => (s.judgeGate p).2 == m

/-- A slot request is collected for step 4, once (R65). -/
def State.collect (l : List Pod) (s : State) : State :=
  { s with automixer := { s.automixer with
    collected := s.automixer.collected ++ l.filter fun p => !(s.automixer.collected.contains p) } }

/-- R67: whether the last-mic hold keeps an expired holder. -/
def State.lastMicKeeps (s : State) (p : Pod) : Bool :=
  s.automixer.params.lastMicHold && s.holders == [p] && s.automixer.waitQueue.isEmpty

/-- R67: one hold expiry. -/
def State.expire (s : State) (p : Pod) : State := if s.lastMicKeeps p then s else s.releaseGate p .released

/-- R68: one wait timeout. -/
def State.timeOut (s : State) (p : Pod) : State := s.releaseGate p .timeout

/-- R64, R79: the values taken by SET_AUTOMIX since the previous boundary come in force. -/
def State.takeAutomixParams (s : State) : State :=
  match s.automixer.pendingParams with
  | none => s
  | some q => { s with automixer := { s.automixer with params := q, pendingParams := none } }

/-- Every judged channel moves by the rule of its state, and requests are collected. -/
def State.judgeGates (s : State) : State :=
  { s with automixer := { s.automixer with gates := Vec.tab fun p => (s.judgeGate p).1 } }.collect
    (s.marked .request allPods)

/-- Step 1: the judgements, then the wait timeouts in queue order, then the hold expiries in victim order. -/
def State.step1 (s : State) : State :=
  let timeouts := s.marked .timeout s.automixer.waitQueue
  let expired := s.marked .expired allPods
  let judged := timeouts.foldl State.timeOut s.judgeGates
  (sortPods judged.victimBefore expired).foldl State.expire judged

/-! ### Step 2 (R69) -/

/-- Holders are evicted in victim order while they exceed the limit in force; at most `fuel` of them. -/
def State.evict : Nat → State → State
  | 0, s => s
  | fuel + 1, s =>
    if s.holders.length ≤ s.automixer.limit then s
    else match s.victim with
      | none => s
      | some v => State.evict fuel (s.releaseGate v .evicted)

/-- A pending limit comes in force. -/
def State.takeLimit (s : State) : State :=
  match s.automixer.pendingLimit with
  | none => s
  | some l => { s with automixer := { s.automixer with limit := l, pendingLimit := none } }

def State.step2 (s : State) : State := State.evict 24 s.takeLimit

/-! ### Step 3 (R72) -/

/-- A channel gains a slot (R70, R72). -/
def State.openGate (p : Pod) (s : State) : State :=
  ((s.setGateState p .opened 0).dequeueGate p).gateEvent p (s.gate p).state .opened .grant

/-- The highest priority present in a queue. -/
def State.topPriority (s : State) (q : List Pod) : Nat := q.foldl (fun m p => max m (s.gate p).priority) 0

/-- R72: among the entries of the highest priority present, the one nearest the front. -/
def State.grantee (s : State) : Option Pod :=
  s.automixer.waitQueue.find? fun p => (s.gate p).priority == s.topPriority s.automixer.waitQueue

/-- Slots are granted while one is free and a channel waits; the answer holds the channels granted. -/
def State.grant : Nat → State → State × List Pod
  | 0, s => (s, [])
  | fuel + 1, s =>
    if s.automixer.limit ≤ s.holders.length then (s, [])
    else match s.grantee with
      | none => (s, [])
      | some p =>
        let r := State.grant fuel (s.openGate p)
        (r.1, p :: r.2)

def State.step3 (s : State) : State × List Pod := State.grant 24 s

/-! ### Step 4 (R70) -/

/-- R70: the requester waits. -/
def State.enterWait (p : Pod) (s : State) : State :=
  ({ s.setGateState p .waiting 0 with automixer :=
      { (s.setGateState p .waiting 0).automixer with waitQueue := s.automixer.waitQueue ++ [p] } }).gateEvent p
    (s.gate p).state .waiting .wait

/-- R70: one request; true if it gained a slot. -/
def State.request (p : Pod) (s : State) : State × Bool :=
  if s.holders.length < s.automixer.limit then (s.openGate p, true)
  else match s.victim with
    | none => (s.enterWait p, false)
    | some v =>
      if (s.gate v).priority < (s.gate p).priority then ((s.releaseGate v .preempted).openGate p, true)
      else (s.enterWait p, false)

/-- The requests one at a time; the answer holds the channels that gained a slot. -/
def State.requests : List Pod → State → State × List Pod
  | [], s => (s, [])
  | p :: rest, s =>
    let one := s.request p
    let r := State.requests rest one.1
    (r.1, if one.2 then p :: r.2 else r.2)

/-- Step 4: the requests collected from channels still PENDING, in the order of R70. -/
def State.step4 (s : State) : State × List Pod :=
  let due := sortPods s.requestBefore (s.automixer.collected.filter fun p => decide ((s.gate p).state = .pending))
  State.requests due { s with automixer := { s.automixer with collected := [] } }

/-! ### The boundary -/

/-- R78: the target of a channel whose state is no longer the one it had in `before`. -/
def State.retargetChanged (p : Pod) (s before : State) : State :=
  if (before.gate p).state ≠ (s.gate p).state then s.retargetGate p else s

/-- R64, R79: after the four steps, the gate ramp targets of the channels whose state changed, and, where the
off-attenuation changed, of every channel that rests at it. -/
def State.retargetAfter (s before : State) : State :=
  allPods.foldl
    (fun t p =>
      if (before.gate p).state ≠ (s.gate p).state ∨
          (before.automixer.params.offAttenuation ≠ s.automixer.params.offAttenuation ∧ ¬ (s.gate p).state.live) then
        t.retargetGate p
      else t) s

/-- R64: the automixer's work at a boundary, and the slot grants it hands the players (R80). -/
def State.automix (s : State) : State × List Pod :=
  let s3 := s.takeAutomixParams.step1.step2.step3
  let s4 := s3.1.step4
  (s4.1.retargetAfter s, s3.2 ++ s4.2)

/-! ### The events of a boundary as commands (log entry 8) -/

/-- The judgement of one channel, where it leaves the mark given, with what the mark calls for, and the target of a
channel whose state has changed. -/
def State.judgedWith (m : GateMark) (after : State → State) (p : Pod) (s : State) : State :=
  if (s.judgeGate p).2 = m then
    (after { s with automixer :=
      { s.automixer with gates := Vec.put s.automixer.gates p (s.judgeGate p).1 } }).retargetChanged p s
  else s

/-- OPEN_COUNT_REACHED (R65). -/
def execOpenCountReached (p : Pod) (s : State) : Host.Outcome State Fault Refusal :=
  .next (unlessInReset
    (fun s => s.judgedWith .request (fun t => t.collect [p]) p) s)

/-- HOLD_EXPIRY (R66, R67). -/
def execHoldExpiry (p : Pod) (s : State) : Host.Outcome State Fault Refusal :=
  .next (unlessInReset
    (fun s => s.judgedWith .expired (fun t => t.expire p) p) s)

/-- WAIT_TIMEOUT (R68). -/
def execWaitTimeout (p : Pod) (s : State) : Host.Outcome State Fault Refusal :=
  .next (unlessInReset
    (fun s => s.judgedWith .timeout (fun t => t.timeOut p) p) s)

/-! ### SET_AUTOMIX (R81) -/

/-- The nine values of SET_AUTOMIX. -/
structure AutomixValues where
  limit : Nat
  params : AutomixParams
  deriving DecidableEq, Repr

/-- The values as sent. -/
def automixAsked (limit margin gateFloor openCount : Byte) (holdFrames : BitVec 16) (attack release offAtt : Byte)
    (lastMicHold : Bool) : AutomixValues :=
  { limit := limit.toNat
    params := { margin := margin.toNat, gateFloor := gateFloor.toInt, openCount := openCount.toNat,
                holdFrames := holdFrames.toNat, attack := attack.toNat, release := release.toNat,
                offAttenuation := offAtt.toInt, lastMicHold := lastMicHold } }

/-- R81: each value clamped to its range. -/
def AutomixValues.clamp (v : AutomixValues) : AutomixValues :=
  { limit := clampNat 1 8 v.limit
    params := { margin := clampInt 4 60 v.params.margin, gateFloor := clampInt (-120) 0 v.params.gateFloor,
                openCount := clampNat 1 16 v.params.openCount, holdFrames := clampNat 1 2000 v.params.holdFrames,
                attack := clampNat 1 16 v.params.attack, release := clampNat 1 250 v.params.release,
                offAttenuation := clampInt (-120) 0 v.params.offAttenuation, lastMicHold := v.params.lastMicHold } }

/-- The result fields of SET_AUTOMIX. -/
def AutomixValues.bytes (v : AutomixValues) : List Byte :=
  [u8 v.limit, i8 v.params.margin, i8 v.params.gateFloor, u8 v.params.openCount] ++ u16 v.params.holdFrames ++
    [u8 v.params.attack, u8 v.params.release, i8 v.params.offAttenuation, bit8 v.params.lastMicHold]

/-- R64, R69: the values wait for the next boundary. -/
def State.takeAutomixValues (v : AutomixValues) (s : State) : State :=
  { s with automixer := { s.automixer with pendingLimit := some v.limit, pendingParams := some v.params } }

/-- R81. -/
def judgeSetAutomix (limit margin gateFloor openCount : Byte) (holdFrames : BitVec 16)
    (attack release offAtt lastMicHold : Byte) (_ : State) : Verdict :=
  match onOff lastMicHold with
  | none => .refuse .badValue
  | some hold =>
    let asked := automixAsked limit margin gateFloor openCount holdFrames attack release offAtt hold
    { status := okOr (decide (asked.clamp ≠ asked)), fields := asked.clamp.bytes,
      effect := State.takeAutomixValues asked.clamp }

def serveSetAutomix (tag limit margin gateFloor openCount : Byte) (holdFrames : BitVec 16)
    (attack release offAtt lastMicHold : Byte) (s : State) : State :=
  takeRequest 0x18 tag 10
    (judgeSetAutomix limit margin gateFloor openCount holdFrames attack release offAtt lastMicHold) s

/-- SET_AUTOMIX (R81). -/
def execSetAutomix (tag limit margin gateFloor openCount : Byte) (holdFrames : BitVec 16)
    (attack release offAtt lastMicHold : Byte) (s : State) : Host.Outcome State Fault Refusal :=
  .next (serveSetAutomix tag limit margin gateFloor openCount holdFrames attack release offAtt lastMicHold s)

/-! ### SET_GATE (R76) -/

def State.setGateMode (p : Pod) (mode : GateMode) (s : State) : State :=
  { s with automixer := { s.automixer with
    gates := Vec.put s.automixer.gates p { s.automixer.gates[p] with mode := mode } } }

/-- A channel goes to a state from another by SET_GATE; without a change of state nothing is posted. -/
def State.gateModeState (p : Pod) (st : GateState) (s : State) : State :=
  if (s.gate p).state = st then s
  else ((s.setGateState p st 0).dequeueGate p).gateEvent p (s.gate p).state st .mode

/-- R76: the mode asked is applied. -/
def State.applyGateMode (p : Pod) (mode : GateMode) (s : State) : State :=
  if (s.gate p).mode = mode then s
  else
    match mode with
    | .bypass =>
      if s.session.roster.pods[p] then ((s.setGateMode p .bypass).gateModeState p .bypass).retargetGate p
      else (s.setGateMode p .bypass).retargetGate p
    | .auto => ((s.setGateMode p .auto).gateModeState p .closed).retargetGate p

/-- R76. -/
def judgeSetGate (channel mode priority : Byte) (_ : State) : Verdict :=
  match podOf channel, gateModeOf mode with
  | some p, some m =>
    if priority.toNat ≤ 3 then
      { status := .ok, fields := [m.code, priority],
        effect := fun s => (s.setPriority p priority.toNat).applyGateMode p m }
    else .refuse .badValue
  | _, _ => .refuse .badValue

def serveSetGate (tag channel mode priority : Byte) (s : State) : State :=
  takeRequest 0x19 tag 3 (judgeSetGate channel mode priority) s

/-- SET_GATE (R76). -/
def execSetGate (tag channel mode priority : Byte) (s : State) : Host.Outcome State Fault Refusal :=
  .next (serveSetGate tag channel mode priority s)

/-! ### GET_GATES (R83) -/

/-- The entry of a channel in GET_GATES. -/
def Gate.entry (g : Gate) : List Byte := g.mode.code :: u8 g.priority :: g.state.code :: u16 g.count

/-- R83. The number of entries in the wait queue stands where the rule lists it, and the queue at the end has no count byte of
its own (log entry 24). -/
def judgeGetGates (s : State) : Verdict :=
  .answer .ok
    ([u8 s.automixer.limit, optional8 (s.automixer.pendingLimit.map u8), u8 s.holders.length,
        u8 s.automixer.waitQueue.length] ++
      (allPods.flatMap fun p => (s.gate p).entry) ++ s.automixer.waitQueue.map podByte)

def serveGetGates (tag : Byte) (s : State) : State := takeRequest 0x1A tag 0 judgeGetGates s

/-- GET_GATES (R83). -/
def execGetGates (tag : Byte) (s : State) : Host.Outcome State Fault Refusal := .next (serveGetGates tag s)

end Sys2Proof.Machine
end

