-- ==== Sys2Proof/Machine/Links.lean ====
section
/-! DEFINITION. The pod links (Chapter 2): arrivals, the sequence window, the FIFO, takes, coast samples, link
parameters and status; MIC_FRAME_ARRIVAL, LOCK_COUNT, RESTART, SETTLE_DONE, SILENCE, UNLOCK, SET_LINK_PARAMS and
GET_LINKS. -/

namespace Sys2Proof.Machine

/-! ### Arrivals -/

/-- R38: an append to a FIFO that already holds 4 frames first removes the oldest, which is counted as a slip. -/
def Link.append (f : MicFrame) (l : Link) : Link :=
  if l.fifo.length < 4 then { l with fifo := l.fifo ++ [f] }
  else { l with fifo := l.fifo.drop 1 ++ [f], slips := min 65535 (l.slips + 1) }

/-- R30: the lock is complete at this arrival, whose frame becomes the first entry of the FIFO. -/
def Link.completeLock (params : LinkParams) (f : MicFrame) (l : Link) : Link × List LinkChange :=
  let locked := { l with fifo := [f], restartRun := 0, firstTake := true }
  if params.settleFrames = 0 then
    ({ locked with state := .locked, coastRun := 0 }, [⟨.acquiring, .locked, .lockCount⟩])
  else
    ({ locked with state := .settling, settleCounter := 0 }, [⟨.acquiring, .settling, .lockCount⟩])

/-- R30: the good count is compared with the lock count after it changes. -/
def Link.countLock (params : LinkParams) (f : MicFrame) (l : Link) : Link × List LinkChange :=
  if params.lockCount ≤ l.goodCount then l.completeLock params f else (l, [])

/-- R29: the first well-formed arrival in ABSENT. -/
def Link.firstFrame (params : LinkParams) (f : MicFrame) (l : Link) : Link × List LinkChange :=
  let (l', changes) := Link.countLock params f
    { l with state := .acquiring, goodCount := 1, expected := f.sequence + 1, silenceRun := 0, arrivalSeen := true }
  (l', ⟨.absent, .acquiring, .firstFrame⟩ :: changes)

/-- R30: a well-formed arrival in ACQUIRING. -/
def Link.acquire (params : LinkParams) (f : MicFrame) (l : Link) : Link × List LinkChange :=
  Link.countLock params f
    { l with goodCount := if f.sequence = l.expected then l.goodCount + 1 else 1, expected := f.sequence + 1,
             arrivalSeen := true }

/-- The classes of R36. -/
inductive SequenceClass where
  | inOrder | ahead | late | outOfWindow
  deriving DecidableEq, Repr

/-- R36: the class of sequence `n` against E and the window, modulo 16. -/
def sequenceClass (expected n : BitVec 4) (window : Nat) : SequenceClass :=
  if n = expected then .inOrder
  else if (n - expected).toNat ≤ window then .ahead
  else if (expected - n).toNat ≤ window then .late
  else .outOfWindow

/-- R36: the restart run after an out-of-window frame of sequence `n`. -/
def Link.nextRestartRun (n : BitVec 4) (l : Link) : Nat :=
  if 1 ≤ l.restartRun ∧ n = l.lastRestart + 1 then l.restartRun + 1 else 1

/-- R36: the restart run reaches 4. -/
def Link.restarted (params : LinkParams) (f : MicFrame) (l : Link) : Link × List LinkChange :=
  let (l', changes) := Link.countLock params f
    { l with state := .acquiring, fifo := [], goodCount := 1, expected := f.sequence + 1, silenceRun := 0,
             arrivalSeen := true, settleCounter := 0, coastRun := 0, restartRun := 0, lastRestart := f.sequence }
  (l', ⟨l.state, .acquiring, .restart⟩ :: changes)

/-- R36: an out-of-window frame. -/
def Link.outOfWindow (params : LinkParams) (f : MicFrame) (l : Link) : Link × List LinkChange :=
  if 4 ≤ l.nextRestartRun f.sequence then l.restarted params f
  else ({ l with restartRun := l.nextRestartRun f.sequence, lastRestart := f.sequence }, [])

/-- R36: a well-formed arrival in SETTLING, LOCKED or COASTING. -/
def Link.sequenced (params : LinkParams) (f : MicFrame) (l : Link) : Link × List LinkChange :=
  match sequenceClass l.expected f.sequence params.window with
  | .inOrder | .ahead => ({ l.append f with expected := f.sequence + 1, restartRun := 0 }, [])
  | .late => ({ l with restartRun := 0 }, [])
  | .outOfWindow => l.outOfWindow params f

/-- R27: a well-formed arrival, by the rule of the link's state. -/
def Link.arrive (params : LinkParams) (f : MicFrame) (l : Link) : Link × List LinkChange :=
  match l.state with
  | .off => (l, [])
  | .absent => l.firstFrame params f
  | .acquiring => l.acquire params f
  | .settling | .locked | .coasting => l.sequenced params f

/-- R27: a malformed candidate in a state other than OFF. -/
def Link.malformed (l : Link) : Link :=
  match l.state with
  | .off => l
  | .absent | .acquiring | .settling | .locked | .coasting => { l with badFrames := min 65535 (l.badFrames + 1) }

/-- A well-formed arrival on the link of pod `p`. -/
def State.frameArrives (p : Pod) (f : MicFrame) (s : State) : State :=
  let r := (s.links[p]).arrive s.linkParams f
  s.moveLink p r.1 r.2

/-- R27: the frame record of a candidate whose stop bits were all correct, if it is well-formed. -/
def candidateFrame (candidate : List Byte) (stopBitsOk : Bool) : Option MicFrame :=
  if stopBitsOk then decodeMicFrame candidate else none

/-- R27. -/
def State.candidateArrives (p : Pod) (candidate : List Byte) (stopBitsOk : Bool) (s : State) : State :=
  match candidateFrame candidate stopBitsOk with
  | some f => s.frameArrives p f
  | none => { s with links := Vec.put s.links p (s.links[p]).malformed }

/-- MIC_FRAME_ARRIVAL (R27). -/
def execMicFrameArrival (p : Pod) (candidate : List Byte) (stopBitsOk : Bool) (s : State) :
    Host.Outcome State Fault Refusal :=
  .next (unlessInReset (State.candidateArrives p candidate stopBitsOk) s)

/-- Whether a change of the list has a cause. -/
def hasCause (cause : LinkCause) (changes : List LinkChange) : Bool := changes.any fun c => c.cause == cause

/-- LOCK_COUNT (R30): the arrival of `f`, where it completes the lock; otherwise the event does not occur (log entry 8). -/
def execLockCount (p : Pod) (f : MicFrame) (s : State) : Host.Outcome State Fault Refusal :=
  .next (unlessInReset
    (fun s => if hasCause .lockCount ((s.links[p]).arrive s.linkParams f).2 then s.frameArrives p f else s) s)

/-- RESTART (R36): the arrival of `f`, where it brings the restart run to 4; otherwise the event does not occur. -/
def execRestart (p : Pod) (f : MicFrame) (s : State) : Host.Outcome State Fault Refusal :=
  .next (unlessInReset
    (fun s => if hasCause .restart ((s.links[p]).arrive s.linkParams f).2 then s.frameArrives p f else s) s)

/-! ### The take and the boundary -/

/-- What the take of a boundary hands on (R3, R39, R41). -/
inductive Yield where
  | nothing
  /-- A frame taken from the FIFO; `first` says that it is the first take of a new lock. -/
  | frame (f : MicFrame) (first : Bool)
  | coast (samples : Frame)
  deriving DecidableEq, Repr

/-- R40: the coast samples of the last taken frame for a coast run. -/
def coastFrame (f : Frame) (run : Nat) : Frame :=
  Vec.tab fun i => if run ≤ 4 then (f[i]).sshiftRight run else 0

/-- R39: the oldest frame is removed and becomes the last taken frame. -/
def Link.takeOldest (f : MicFrame) (rest : List MicFrame) (l : Link) : Link :=
  { l with fifo := rest, lastTaken := f, firstTake := false }

/-- R31: the silence run of ACQUIRING after this boundary. -/
def Link.nextSilenceRun (l : Link) : Nat := if l.arrivalSeen then 0 else l.silenceRun + 1

/-- R31: the boundary in ACQUIRING. -/
def Link.acquiringBoundary (params : LinkParams) (l : Link) : Link × List LinkChange :=
  if params.unlockCount ≤ l.nextSilenceRun then
    ({ l with state := .absent, goodCount := 0, silenceRun := 0, arrivalSeen := false },
      [⟨.acquiring, .absent, .silence⟩])
  else ({ l with silenceRun := l.nextSilenceRun, arrivalSeen := false }, [])

/-- R34: the entry to ABSENT from LOCKED or COASTING. -/
def Link.unlocked (l : Link) : Link :=
  { l with state := .absent, fifo := [], expected := 0, goodCount := 0, silenceRun := 0, settleCounter := 0,
           coastRun := 0, restartRun := 0, arrivalSeen := false, firstTake := false }

/-- R33, R34, R40: an empty take in LOCKED or COASTING, which brings the coast run to `run`. -/
def Link.emptyTake (params : LinkParams) (run : Nat) (l : Link) : Link × Yield × List LinkChange :=
  if params.unlockCount ≤ run then (l.unlocked, .nothing, [⟨l.state, .absent, .unlock⟩])
  else ({ l with state := .coasting, coastRun := run }, .coast (coastFrame l.lastTaken.samples run), [])

/-- R32: a take from a non-empty FIFO in SETTLING. -/
def Link.settlingTake (params : LinkParams) (f : MicFrame) (rest : List MicFrame) (l : Link) :
    Link × Yield × List LinkChange :=
  let taken := { l.takeOldest f rest with settleCounter := l.settleCounter + 1 }
  if params.settleFrames ≤ taken.settleCounter then
    ({ taken with state := .locked, coastRun := 0 }, .frame f l.firstTake, [⟨.settling, .locked, .settleDone⟩])
  else (taken, .frame f l.firstTake, [])

/-- R32: a take from an empty FIFO in SETTLING. -/
def Link.underrun (l : Link) : Link :=
  { l with state := .acquiring, goodCount := 0, silenceRun := 0, arrivalSeen := false }

/-- R29, R31 to R34: what the link does at a mix period boundary. -/
def Link.boundary (params : LinkParams) (l : Link) : Link × Yield × List LinkChange :=
  match l.state with
  | .off | .absent => (l, .nothing, [])
  | .acquiring => ((l.acquiringBoundary params).1, .nothing, (l.acquiringBoundary params).2)
  | .settling =>
    match l.fifo with
    | f :: rest => l.settlingTake params f rest
    | [] => (l.underrun, .nothing, [⟨.settling, .acquiring, .underrun⟩])
  | .locked =>
    match l.fifo with
    | f :: rest => (l.takeOldest f rest, .frame f l.firstTake, [])
    | [] => l.emptyTake params 1
  | .coasting =>
    match l.fifo with
    | f :: rest => ({ l.takeOldest f rest with state := .locked, coastRun := 0 }, .frame f l.firstTake, [])
    | [] => l.emptyTake params (l.coastRun + 1)

/-- R3: the samples of a take. -/
def Yield.samples : Yield → Frame
  | .nothing => silentFrame
  | .frame f _ => f.samples
  | .coast x => x

/-- The boundary work of the link of pod `p`: its move and the changes handed on. -/
def State.linkBoundary (p : Pod) (s : State) : State :=
  let r := (s.links[p]).boundary s.linkParams
  s.moveLink p r.1 r.2.2

/-- What the take of pod `p` yields at a boundary. -/
def State.linkYield (p : Pod) (s : State) : Yield := ((s.links[p]).boundary s.linkParams).2.1

/-- The boundary work of a link, where it makes a change with the cause given; otherwise the event does not occur. -/
def State.linkEventOf (p : Pod) (cause : LinkCause) (s : State) : State :=
  if hasCause cause ((s.links[p]).boundary s.linkParams).2.2 then s.linkBoundary p else s

/-- SILENCE (R31). -/
def execSilence (p : Pod) (s : State) : Host.Outcome State Fault Refusal :=
  .next (unlessInReset (State.linkEventOf p .silence) s)

/-- UNLOCK (R33, R34). -/
def execUnlock (p : Pod) (s : State) : Host.Outcome State Fault Refusal :=
  .next (unlessInReset (State.linkEventOf p .unlock) s)

/-! ### Roster changes (R29, R35) -/

/-- R29: a pod enters the roster. -/
def Link.enterRoster (l : Link) : Link := { l with state := .absent, feedSequence := 0 }

/-- R35: a pod leaves the roster. The two counters keep their values; the sequence of the last taken frame is 0 (log
entry 6). -/
def Link.leaveRoster (l : Link) : Link :=
  { l with state := .off, fifo := [], expected := 0, goodCount := 0, silenceRun := 0, settleCounter := 0,
           coastRun := 0, restartRun := 0, arrivalSeen := false, firstTake := false, lastTaken := MicFrame.blank }

/-! ### Feed frames (R44, R45) -/

/-- R45: the feed frame of a link in a state other than OFF, from the pod's output frame and its LED code. -/
def Link.feedFrame (output : Frame) (led : Led) (l : Link) : FeedFrame :=
  if l.state.trusted then { sequence := l.feedSequence, led := led, samples := output }
  else { sequence := l.feedSequence, led := .off, samples := silentFrame }

/-- R202: the 36 bytes of a feed frame: the two sync bytes, the feed sequence above the LED code, the samples and the
check that makes bytes 2 to 35 sum to 0 modulo 256. -/
def FeedFrame.bytes (f : FeedFrame) : List Byte :=
  let body := (f.sequence ++ (f.led.code).extractLsb' 0 4 : Byte) :: bytesOfSamples f.samples.toList
  0x3C :: 0x5A :: body ++ [0 - sumBytes body]

/-- R44, R202: what the part sends a pod at the last boundary, byte by byte; nothing to a link that was OFF. -/
def State.feedBytes (s : State) (p : Pod) : List Byte := (s.feedFrames[p].map FeedFrame.bytes).getD []

/-- R44: every link not OFF sends one feed frame, and its feed sequence goes on. -/
def State.sendFeeds (s : State) : State :=
  { s with
    feedFrames := Vec.tab fun p =>
      if (s.links[p]).state = .off then none
      else some ((s.links[p]).feedFrame (s.outputs[podChannel p]) (s.mutes.led[p]))
    links := Vec.tab fun p =>
      if (s.links[p]).state = .off then s.links[p]
      else { s.links[p] with feedSequence := (s.links[p]).feedSequence + 1 } }

/-! ### SET_LINK_PARAMS and GET_LINKS -/

/-- R46: the four values, each clamped. -/
def linkParamsOf (lock : Byte) (settle : BitVec 16) (unlock window : Byte) : LinkParams :=
  { lockCount := clampNat 1 64 lock.toNat, settleFrames := clampNat 0 1000 settle.toNat,
    unlockCount := clampNat 1 250 unlock.toNat, window := clampNat 0 7 window.toNat }

/-- The four values as sent. -/
def linkParamsAsked (lock : Byte) (settle : BitVec 16) (unlock window : Byte) : LinkParams :=
  { lockCount := lock.toNat, settleFrames := settle.toNat, unlockCount := unlock.toNat, window := window.toNat }

/-- The result fields of SET_LINK_PARAMS. -/
def LinkParams.bytes (p : LinkParams) : List Byte :=
  u8 p.lockCount :: u16 p.settleFrames ++ [u8 p.unlockCount, u8 p.window]

/-- R46. -/
def judgeSetLinkParams (lock : Byte) (settle : BitVec 16) (unlock window : Byte) (_ : State) : Verdict :=
  let taken := linkParamsOf lock settle unlock window
  { status := okOr (decide (taken ≠ linkParamsAsked lock settle unlock window)), fields := taken.bytes,
    effect := fun s => { s with linkParams := taken } }

def serveSetLinkParams (tag lock : Byte) (settle : BitVec 16) (unlock window : Byte) (s : State) : State :=
  takeRequest 0x10 tag 5 (judgeSetLinkParams lock settle unlock window) s

/-- SET_LINK_PARAMS (R46). -/
def execSetLinkParams (tag lock : Byte) (settle : BitVec 16) (unlock window : Byte) (s : State) :
    Host.Outcome State Fault Refusal :=
  .next (serveSetLinkParams tag lock settle unlock window s)

/-- R47: the good count in ACQUIRING, the settle counter in SETTLING, else 0. -/
def Link.progress (l : Link) : Nat :=
  match l.state with
  | .acquiring => l.goodCount
  | .settling => l.settleCounter
  | .off | .absent | .locked | .coasting => 0

/-- R47: the silence run in ACQUIRING, the coast run in LOCKED and COASTING, else 0. -/
def Link.run (l : Link) : Nat :=
  match l.state with
  | .acquiring => l.silenceRun
  | .locked | .coasting => l.coastRun
  | .off | .absent | .settling => 0

/-- The entry of a link in GET_LINKS (R47). -/
def Link.entry (l : Link) : List Byte :=
  l.state.code :: u8 l.fifo.length :: u16 l.progress ++ u8 l.run :: u16 l.badFrames ++ u16 l.slips

/-- R47: the counters of the pods listed become 0. -/
def State.clearLinkCounters (listed : List Pod) (s : State) : State :=
  { s with links := Vec.tab fun p =>
      if p ∈ listed then { s.links[p] with badFrames := 0, slips := 0 } else s.links[p] }

/-- R47. A CLAMPED answer has no byte of its own for the count taken (log entry 10). -/
def judgeGetLinks (first count clear : Byte) (s : State) : Verdict :=
  match podOf first, onOff clear with
  | some _, some c =>
    let n := clampNat 1 24 count.toNat
    let listed : List Pod := cutRange first.toNat n
    { status := okOr (decide (n ≠ count.toNat)),
      fields := u8 listed.length :: listed.flatMap fun p => (s.links[p]).entry,
      effect := if c then State.clearLinkCounters listed else id }
  | _, _ => .refuse .badValue

def serveGetLinks (tag first count clear : Byte) (s : State) : State :=
  takeRequest 0x11 tag 3 (judgeGetLinks first count clear) s

/-- GET_LINKS (R47). -/
def execGetLinks (tag first count clear : Byte) (s : State) : Host.Outcome State Fault Refusal :=
  .next (serveGetLinks tag first count clear s)

end Sys2Proof.Machine
end

