-- ==== Sys2Proof/Machine/Muting.lean ====
section
/-! DEFINITION. The mute controller (Chapter 5): key edges, the chair's all-mute, the talk-request list, indicators;
SETTLE_DONE, SET_MUTE, CLEAR_REASONS, SET_PRIVACY, SET_CHAIR_MUTE, SET_KEY_MODE, SET_KEY_GUARD, SET_MUTE_RAMP,
GET_MUTES and GET_REQUESTS. -/

namespace Sys2Proof.Machine

/-! ### Chair all-mute (R96 to R98) -/

/-- Whether a pod is given CHAIR by the all-mute: in the roster and not a chair pod. -/
def Roster.delegate (r : Roster) (p : Pod) : Bool := r.pods[p] && !r.chairs[p]

/-- R97: the flag turns on. -/
def State.chairMuteOn (s : State) : State :=
  allPods.foldl (fun t p => if t.session.roster.delegate p then t.setChair p true else t)
    { s with mutes := { s.mutes with chairMute := true } }

/-- R98, R101: the talk-request list is emptied; LIST_CLEARED is posted once if it held an entry. -/
def State.clearTalkList (s : State) : State :=
  if s.mutes.talkList = [] then s else (s.setTalkList []).talkReport .listCleared 0

/-- R98: the flag turns off. -/
def State.chairMuteOff (s : State) : State :=
  State.clearTalkList
    (allPods.foldl (fun t p => if (t.mutes.reasons[p]).chair then t.setChair p false else t)
      { s with mutes := { s.mutes with chairMute := false } })

/-- R96: the flag becomes `on`; nothing changes where it is that already. -/
def State.setChairMute (on : Bool) (s : State) : State :=
  if s.mutes.chairMute = on then s else if on then s.chairMuteOn else s.chairMuteOff

/-! ### Key levels (R91 to R94) -/

/-- The key levels that a take hands over (R39). -/
structure KeyLevels where
  talk : Bool
  all : Bool
  first : Bool
  deriving DecidableEq, Repr

/-- R39, R41: a frame hands over its key levels; coast samples and no samples hand over none. -/
def Yield.keys : Yield → Option KeyLevels
  | .frame f first => some { talk := f.talk, all := f.all, first := first }
  | .nothing | .coast _ => none

/-- R91: the guard age increases by 1 and stays at 100. -/
def KeyRecord.older (k : KeyRecord) : KeyRecord := { k with guardAge := min 100 (k.guardAge + 1) }

/-- R91: every key of every pod, at each boundary. -/
def State.ageKeys (s : State) : State :=
  { s with mutes := { s.mutes with
      talkKey := Vec.tab fun p => (s.mutes.talkKey[p]).older
      allKey := Vec.tab fun p => (s.mutes.allKey[p]).older } }

def State.setTalkKey (p : Pod) (k : KeyRecord) (s : State) : State :=
  { s with mutes := { s.mutes with talkKey := Vec.put s.mutes.talkKey p k } }

def State.setAllKey (p : Pod) (k : KeyRecord) (s : State) : State :=
  { s with mutes := { s.mutes with allKey := Vec.put s.mutes.allKey p k } }

/-- R93: whether a taken level that is not a first take is an accepted edge. -/
def KeyRecord.accepts (keyGuard : Nat) (level : Bool) (k : KeyRecord) : Bool :=
  decide (k.pressed ≠ level) && decide (keyGuard ≤ k.guardAge)

/-- R108. -/
def State.keyEvent (p : Pod) (isAll level : Bool) (reasons : Reasons) (chairMute : Bool) (s : State) : State :=
  s.post .key 0xE3 [podByte p, bit8 isAll, bit8 level, reasons.byte, bit8 chairMute]

/-- R108: an accepted edge. The KEY_EVENT is posted first, with the reason set and flag that the edge leaves, and the
effect, with its own reports, follows. -/
def State.acceptEdge (p : Pod) (isAll level : Bool) (effect : State → State) (s : State) : State :=
  effect (s.keyEvent p isAll level ((effect s).mutes.reasons[p]) (effect s).mutes.chairMute)

/-- R100: an accepted TALK press on a channel that carries CHAIR. -/
def State.talkPress (p : Pod) (s : State) : State :=
  if p ∈ s.mutes.talkList then s.leaveTalkList p .withdrawn
  else if s.mutes.talkList.length < 22 then
    (s.setTalkList (s.mutes.talkList ++ [p])).talkReport .raised (podByte p)
  else s.talkReport .refused (podByte p)

/-- R94: what an accepted TALK edge makes of KEY. -/
def State.talkEdgeKey (p : Pod) (pressed : Bool) (s : State) : State :=
  match s.mutes.keyMode[p] with
  | .toggle =>
    if pressed && !(s.mutes.reasons[p]).chair then s.setKey p (!(s.mutes.reasons[p]).key) else s
  | .pushToTalk | .pushToMute => s.keyFollows p pressed

/-- R94: the effect of an accepted TALK edge. -/
def State.talkEdge (p : Pod) (pressed : Bool) (s : State) : State :=
  if pressed && (s.mutes.reasons[p]).chair then (s.talkEdgeKey p pressed).talkPress p else s.talkEdgeKey p pressed

/-- R96: the effect of an accepted ALL edge. -/
def State.allEdge (p : Pod) (pressed : Bool) (s : State) : State :=
  if pressed && s.session.roster.chairs[p] then s.setChairMute (!s.mutes.chairMute) else s

/-- R92, R93: the ALL level of a take. -/
def State.takeAllLevel (p : Pod) (k : KeyLevels) (s : State) : State :=
  if k.first then s.setAllKey p { pressed := k.all, guardAge := 100 }
  else if (s.mutes.allKey[p]).accepts s.mutes.keyGuard k.all then
    (s.setAllKey p { pressed := k.all, guardAge := 0 }).acceptEdge p true k.all (State.allEdge p k.all)
  else s

/-- R92, R93: the TALK level of a take. At a first take KEY follows the level where the mode says so. -/
def State.takeTalkLevel (p : Pod) (k : KeyLevels) (s : State) : State :=
  if k.first then (s.setTalkKey p { pressed := k.talk, guardAge := 100 }).keyFollows p k.talk
  else if (s.mutes.talkKey[p]).accepts s.mutes.keyGuard k.talk then
    (s.setTalkKey p { pressed := k.talk, guardAge := 0 }).acceptEdge p false k.talk (State.talkEdge p k.talk)
  else s

/-- The key levels handed over by the takes of one boundary. -/
abbrev TakenKeys := Vector (Option KeyLevels) 24

/-- R91: one pass over the takes, in ascending pod number. -/
def keyPass (one : Pod → KeyLevels → State → State) (keys : TakenKeys) (s : State) : State :=
  allPods.foldl (fun t p => match keys[p] with
    | some k => one p k t
    | none => t) s

/-- R91: the two passes of a boundary, ALL and then TALK. -/
def State.takeKeys (keys : TakenKeys) (s : State) : State :=
  keyPass State.takeTalkLevel keys (keyPass State.takeAllLevel keys s)

/-- SETTLE_DONE (R32): the take of the link that brings the settle counter to the settle frames, with the key levels it
hands over; where the take would not, the event does not occur (log entry 8). -/
def execSettleDone (p : Pod) (s : State) : Host.Outcome State Fault Refusal :=
  .next (unlessInReset
    (fun s =>
      if hasCause .settleDone ((s.links[p]).boundary s.linkParams).2.2 then
        State.takeKeys (Vec.tab fun q => if q = p then (s.linkYield p).keys else none) (s.linkBoundary p)
      else s) s)

/-! ### Indicators (R107) -/

/-- R107: the LED code of pod `p` at a boundary; `gate` is the gate state in force for the period that the boundary
ends. -/
def State.ledCode (s : State) (gate : GateState) (p : Pod) : Led :=
  if !(s.links[p]).state.trusted then .off
  else if p ∈ s.mutes.talkList then .redBlink
  else if (s.mutes.reasons[p]).muted then .red
  else
    match gate with
    | .waiting => .amber
    | .opened | .hold | .bypass => if s.mutes.privacy then .greenBlink else .green
    | .closed | .pending => .off

/-- R107: every pod's code; `before` holds the gate states in force for the period ended. -/
def State.giveLeds (s before : State) : State :=
  { s with mutes := { s.mutes with led := Vec.tab fun p => s.ledCode (before.gate p).state p } }

/-! ### SET_MUTE (R102) -/

/-- R90: HOST of a trunk. -/
def State.setTrunkHost (k : Trunk) (on : Bool) (s : State) : State :=
  if s.mutes.trunkHost[k] = on then s
  else
    { s with mutes := { s.mutes with trunkHost := Vec.put s.mutes.trunkHost k on } }.onTrunkMuteRamp k
      (·.setTarget (if on then 0 else fullScale) s.mutes.rampLength)

/-- R102. -/
def judgeSetMute (channel host : Byte) (s : State) : Verdict :=
  match onOff host with
  | none => .refuse .badValue
  | some on =>
    match podOf channel, trunkOf channel with
    | some p, _ =>
      { status := .ok, fields := [(Reasons.byte { s.mutes.reasons[p] with host := on })],
        effect := State.setHost p on }
    | none, some k => { status := .ok, fields := [trunkReasonsByte on], effect := State.setTrunkHost k on }
    | none, none => .refuse .badValue

def serveSetMute (tag channel host : Byte) (s : State) : State :=
  takeRequest 0x20 tag 2 (judgeSetMute channel host) s

/-- SET_MUTE (R102). -/
def execSetMute (tag channel host : Byte) (s : State) : Host.Outcome State Fault Refusal :=
  .next (serveSetMute tag channel host s)

/-! ### CLEAR_REASONS (R103) -/

/-- R103: whether a set of reasons can be asked for: not empty, KEY and CHAIR alone. -/
def clearable (b : Byte) : Bool := decide (b = 1 ∨ b = 4 ∨ b = 5)

/-- The reason set with those named removed. -/
def Reasons.without (b : Byte) (r : Reasons) : Reasons :=
  { r with key := r.key && !(b.getLsbD 0), chair := r.chair && !(b.getLsbD 2) }

/-- R103: the reasons named are removed; a channel of the list that loses CHAIR is admitted (R101). -/
def State.clearReasons (p : Pod) (b : Byte) (s : State) : State :=
  let t := s.setReasons p ((s.mutes.reasons[p]).without b)
  if b.getLsbD 2 then t.leaveTalkList p .admitted else t

/-- R103. -/
def judgeClearReasons (channel reasons : Byte) (s : State) : Verdict :=
  match podOf channel with
  | none => .refuse .badValue
  | some p =>
    if !(clearable reasons) then .refuse .badValue
    else if reasons.getLsbD 0 && decide (s.mutes.keyMode[p] ≠ .toggle) then .refuse .wrongState
    else
      { status := .ok, fields := [((s.mutes.reasons[p]).without reasons).byte],
        effect := State.clearReasons p reasons }

def serveClearReasons (tag channel reasons : Byte) (s : State) : State :=
  takeRequest 0x21 tag 2 (judgeClearReasons channel reasons) s

/-- CLEAR_REASONS (R103). -/
def execClearReasons (tag channel reasons : Byte) (s : State) : Host.Outcome State Fault Refusal :=
  .next (serveClearReasons tag channel reasons s)

/-! ### SET_PRIVACY (R88) and SET_CHAIR_MUTE (R96) -/

/-- R88: the flag, and with a change of it the 24 privacy targets. -/
def State.setPrivacy (on : Bool) (s : State) : State :=
  if s.mutes.privacy = on then s
  else
    { s with mutes := { s.mutes with privacy := on } }.onPrivacyRamps
      (·.setTarget (if on then 0 else fullScale) s.mutes.rampLength)

/-- R88. -/
def judgeSetPrivacy (value : Byte) (_ : State) : Verdict :=
  match onOff value with
  | none => .refuse .badValue
  | some on => { status := .ok, fields := [bit8 on], effect := State.setPrivacy on }

def serveSetPrivacy (tag value : Byte) (s : State) : State := takeRequest 0x22 tag 1 (judgeSetPrivacy value) s

/-- SET_PRIVACY (R88). -/
def execSetPrivacy (tag value : Byte) (s : State) : Host.Outcome State Fault Refusal :=
  .next (serveSetPrivacy tag value s)

/-- R96. -/
def judgeSetChairMute (value : Byte) (_ : State) : Verdict :=
  match onOff value with
  | none => .refuse .badValue
  | some on => { status := .ok, fields := [bit8 on], effect := State.setChairMute on }

def serveSetChairMute (tag value : Byte) (s : State) : State := takeRequest 0x23 tag 1 (judgeSetChairMute value) s

/-- SET_CHAIR_MUTE (R96). -/
def execSetChairMute (tag value : Byte) (s : State) : Host.Outcome State Fault Refusal :=
  .next (serveSetChairMute tag value s)

/-! ### SET_KEY_MODE (R104), SET_KEY_GUARD and SET_MUTE_RAMP (R105) -/

/-- R104: the mode is set, and KEY recomputed from the accepted TALK level. -/
def State.setKeyMode (p : Pod) (mode : KeyMode) (s : State) : State :=
  if s.mutes.keyMode[p] = mode then s
  else
    { s with mutes := { s.mutes with keyMode := Vec.put s.mutes.keyMode p mode } }.keyFollows p
      (s.mutes.talkKey[p]).pressed

/-- R104: the answer gives the reason set after the request. -/
def judgeSetKeyMode (channel mode : Byte) (s : State) : Verdict :=
  match podOf channel, keyModeOf mode with
  | some p, some m =>
    { status := .ok, fields := [((s.setKeyMode p m).mutes.reasons[p]).byte], effect := State.setKeyMode p m }
  | _, _ => .refuse .badValue

def serveSetKeyMode (tag channel mode : Byte) (s : State) : State :=
  takeRequest 0x24 tag 2 (judgeSetKeyMode channel mode) s

/-- SET_KEY_MODE (R104). -/
def execSetKeyMode (tag channel mode : Byte) (s : State) : Host.Outcome State Fault Refusal :=
  .next (serveSetKeyMode tag channel mode s)

/-- R105: the answer gives the value taken (log entry 12). -/
def judgeSetKeyGuard (keyGuard : Byte) (_ : State) : Verdict :=
  let taken := clampNat 0 100 keyGuard.toNat
  { status := okOr (decide (taken ≠ keyGuard.toNat)), fields := [u8 taken],
    effect := fun s => { s with mutes := { s.mutes with keyGuard := taken } } }

def serveSetKeyGuard (tag keyGuard : Byte) (s : State) : State := takeRequest 0x25 tag 1 (judgeSetKeyGuard keyGuard) s

/-- SET_KEY_GUARD (R105). -/
def execSetKeyGuard (tag keyGuard : Byte) (s : State) : Host.Outcome State Fault Refusal :=
  .next (serveSetKeyGuard tag keyGuard s)

/-- R105: the answer gives the value taken (log entry 12). -/
def judgeSetMuteRamp (length : Byte) (_ : State) : Verdict :=
  let taken := clampNat 1 64 length.toNat
  { status := okOr (decide (taken ≠ length.toNat)), fields := [u8 taken],
    effect := fun s => { s with mutes := { s.mutes with rampLength := taken } } }

def serveSetMuteRamp (tag length : Byte) (s : State) : State := takeRequest 0x26 tag 1 (judgeSetMuteRamp length) s

/-- SET_MUTE_RAMP (R105). -/
def execSetMuteRamp (tag length : Byte) (s : State) : Host.Outcome State Fault Refusal :=
  .next (serveSetMuteRamp tag length s)

/-! ### GET_MUTES (R110) and GET_REQUESTS (R111) -/

/-- The entry of a pod in GET_MUTES. -/
def Mutes.podEntry (m : Mutes) (p : Pod) : List Byte :=
  [(m.reasons[p]).byte, (m.keyMode[p]).code, bit8 (m.talkKey[p]).pressed, bit8 (m.allKey[p]).pressed, (m.led[p]).code]

/-- R110. -/
def judgeGetMutes (s : State) : Verdict :=
  let m := s.mutes
  .answer .ok
    ([bit8 m.privacy, bit8 m.chairMute, u8 m.keyGuard, u8 m.rampLength] ++ allPods.flatMap m.podEntry ++
      m.trunkHost.toList.map trunkReasonsByte)

def serveGetMutes (tag : Byte) (s : State) : State := takeRequest 0x27 tag 0 judgeGetMutes s

/-- GET_MUTES (R110). -/
def execGetMutes (tag : Byte) (s : State) : Host.Outcome State Fault Refusal := .next (serveGetMutes tag s)

/-- R111. -/
def judgeGetRequests (s : State) : Verdict :=
  .answer .ok (bit8 s.mutes.chairMute :: counted (s.mutes.talkList.map podByte))

def serveGetRequests (tag : Byte) (s : State) : State := takeRequest 0x28 tag 0 judgeGetRequests s

/-- GET_REQUESTS (R111). -/
def execGetRequests (tag : Byte) (s : State) : Host.Outcome State Fault Refusal := .next (serveGetRequests tag s)

end Sys2Proof.Machine
end

