-- ==== Sys2Proof/Machine/Routing.lean ====
section
/-! DEFINITION. The feed router (Chapter 7): ducking, zones, faders, volumes, send gains and record buses; SET_ZONE,
SET_DUCK, SET_FADER, SET_VOLUME, SET_SEND_GAIN, SET_RECORD and GET_FEEDS. -/

namespace Sys2Proof.Machine

/-! ### Ducking (R134, R135) -/

/-- The automixer parameters last taken by SET_AUTOMIX (R135; for SET_DUCK log entry 22). -/
def State.lastTakenParams (s : State) : AutomixParams := s.automixer.pendingParams.getD s.automixer.params

/-- R134: whether the duck of feed j is active, from the gate states of `before` (in force for the period that the
boundary ends) and the roster and zones of `s` (in force for the period it opens). -/
def duckJudged (before s : State) (j : Pod) : Bool :=
  s.session.roster.pods[j] &&
    allPods.any fun i => excluded s.session.roster s.router.feeds.zone j i &&
      (decide ((before.automixer.gates[i]).state = .opened) || decide ((before.automixer.gates[i]).state = .hold))

/-- R135: the flag of a feed, and the duck ramp's target with a change of it. -/
def State.setDuckActive (j : Pod) (active : Bool) (s : State) : State :=
  if s.router.duckActive[j] = active then s
  else
    let t := { s with router := { s.router with duckActive := Vec.put s.router.duckActive j active } }
    if active then t.onDuckRamp j (·.setTarget (lin15 s.router.duckDepth) s.lastTakenParams.attack)
    else t.onDuckRamp j (·.setTarget fullScale s.lastTakenParams.release)

/-- R134: the router's work at a boundary. -/
def State.judgeDucks (s before : State) : State :=
  allPods.foldl (fun t j => t.setDuckActive j (duckJudged before s j)) s

/-! ### SET_ZONE (R132) -/

/-- The router's settings that the mix engine reads. -/
def State.onFeeds (f : Feeds → Feeds) (s : State) : State :=
  { s with router := { s.router with feeds := f s.router.feeds } }

/-- R132. -/
def judgeSetZone (pod zone : Byte) (_ : State) : Verdict :=
  match podOf pod with
  | none => .refuse .badValue
  | some p =>
    if zone.toNat ≤ 8 then
      { status := .ok, fields := [pod, zone],
        effect := State.onFeeds fun f => { f with zone := Vec.put f.zone p zone.toNat } }
    else .refuse .badValue

def serveSetZone (tag pod zone : Byte) (s : State) : State := takeRequest 0x38 tag 2 (judgeSetZone pod zone) s

/-- SET_ZONE (R132). -/
def execSetZone (tag pod zone : Byte) (s : State) : Host.Outcome State Fault Refusal :=
  .next (serveSetZone tag pod zone s)

/-! ### SET_DUCK (R136) -/

/-- R136: the new depth, and with a change of it the targets of the feeds whose duck is active, with the attack length
last taken (log entry 22). -/
def State.setDuckDepth (depth : Int) (s : State) : State :=
  if s.router.duckDepth = depth then s
  else
    allPods.foldl
      (fun t j =>
        if s.router.duckActive[j] then t.onDuckRamp j (·.setTarget (lin15 depth) s.lastTakenParams.attack) else t)
      { s with router := { s.router with duckDepth := depth } }

/-- R136. -/
def judgeSetDuck (depth : Byte) (_ : State) : Verdict :=
  let taken := clampInt (-40) 0 depth.toInt
  { status := okOr (decide (taken ≠ depth.toInt)), fields := [i8 taken], effect := State.setDuckDepth taken }

def serveSetDuck (tag depth : Byte) (s : State) : State := takeRequest 0x39 tag 1 (judgeSetDuck depth) s

/-- SET_DUCK (R136). -/
def execSetDuck (tag depth : Byte) (s : State) : Host.Outcome State Fault Refusal := .next (serveSetDuck tag depth s)

/-! ### SET_FADER (R137), SET_VOLUME (R138), SET_SEND_GAIN (R139) -/

/-- The verdict of a request that clamps one gain: the answer gives the number and the value taken (log entry 12). -/
def gainVerdict (number : Byte) (lo hi : Int) (asked : Byte) (set : Int → Feeds → Feeds) : Verdict :=
  let taken := clampInt lo hi asked.toInt
  { status := okOr (decide (taken ≠ asked.toInt)), fields := [number, i8 taken], effect := State.onFeeds (set taken) }

/-- R137. -/
def judgeSetFader (channel fader : Byte) (_ : State) : Verdict :=
  match podOf channel, trunkOf channel with
  | some p, _ => gainVerdict channel (-120) 24 fader fun g f => { f with podFader := Vec.put f.podFader p g }
  | none, some k => gainVerdict channel (-120) 24 fader fun g f => { f with trunkFader := Vec.put f.trunkFader k g }
  | none, none => .refuse .badValue

def serveSetFader (tag channel fader : Byte) (s : State) : State :=
  takeRequest 0x3A tag 2 (judgeSetFader channel fader) s

/-- SET_FADER (R137). -/
def execSetFader (tag channel fader : Byte) (s : State) : Host.Outcome State Fault Refusal :=
  .next (serveSetFader tag channel fader s)

/-- R138. -/
def judgeSetVolume (pod volume : Byte) (_ : State) : Verdict :=
  match podOf pod with
  | some p => gainVerdict pod (-120) 0 volume fun g f => { f with volume := Vec.put f.volume p g }
  | none => .refuse .badValue

def serveSetVolume (tag pod volume : Byte) (s : State) : State := takeRequest 0x3B tag 2 (judgeSetVolume pod volume) s

/-- SET_VOLUME (R138). -/
def execSetVolume (tag pod volume : Byte) (s : State) : Host.Outcome State Fault Refusal :=
  .next (serveSetVolume tag pod volume s)

/-- R139. -/
def judgeSetSendGain (channel gain : Byte) (_ : State) : Verdict :=
  match trunkOf channel with
  | some k => gainVerdict channel (-120) 0 gain fun g f => { f with sendGain := Vec.put f.sendGain k g }
  | none => .refuse .badValue

def serveSetSendGain (tag channel gain : Byte) (s : State) : State :=
  takeRequest 0x3C tag 2 (judgeSetSendGain channel gain) s

/-- SET_SEND_GAIN (R139). -/
def execSetSendGain (tag channel gain : Byte) (s : State) : Host.Outcome State Fault Refusal :=
  .next (serveSetSendGain tag channel gain s)

/-! ### SET_RECORD (R140) -/

/-- R140. -/
def judgeSetRecord (bus flags gain : Byte) (_ : State) : Verdict :=
  let taken := clampInt (-120) 0 gain.toInt
  match busOf bus, recordSettingOf flags taken with
  | some b, some setting =>
    { status := okOr (decide (taken ≠ gain.toInt)), fields := [bus, flags, i8 taken],
      effect := State.onFeeds fun f => { f with record := Vec.put f.record b setting } }
  | _, _ => .refuse .badValue

def serveSetRecord (tag bus flags gain : Byte) (s : State) : State :=
  takeRequest 0x3D tag 3 (judgeSetRecord bus flags gain) s

/-- SET_RECORD (R140). -/
def execSetRecord (tag bus flags gain : Byte) (s : State) : Host.Outcome State Fault Refusal :=
  .next (serveSetRecord tag bus flags gain s)

/-! ### GET_FEEDS (R142) -/

/-- The entry of a pod in GET_FEEDS. -/
def State.podFeedEntry (s : State) (p : Pod) : List Byte :=
  [u8 s.router.feeds.zone[p], i8 s.router.feeds.podFader[p], i8 s.router.feeds.volume[p],
    bit8 s.router.duckActive[p]] ++ u16 (s.ramps.duck[p]).ended

/-- The entry of a trunk in GET_FEEDS. -/
def State.trunkFeedEntry (s : State) (k : Trunk) : List Byte :=
  [bit8 s.session.roster.trunks[k], i8 s.router.feeds.trunkFader[k], i8 s.router.feeds.sendGain[k]]

/-- R142. -/
def judgeGetFeeds (s : State) : Verdict :=
  .answer .ok
    (i8 s.router.duckDepth :: allPods.flatMap s.podFeedEntry ++ (List.finRange 4).flatMap s.trunkFeedEntry ++
      s.router.feeds.record.toList.flatMap fun r => [r.flagsByte, i8 r.gain])

def serveGetFeeds (tag : Byte) (s : State) : State := takeRequest 0x3E tag 0 judgeGetFeeds s

/-- GET_FEEDS (R142). -/
def execGetFeeds (tag : Byte) (s : State) : Host.Outcome State Fault Refusal := .next (serveGetFeeds tag s)

end Sys2Proof.Machine
end

