-- ==== Sys2Proof/Machine/Clips.lean ====
section
/-! DEFINITION. The clip store (Chapter 8): pages, checks, loading, reference counts, page reads, what a soft reset
keeps; CLIP_BEGIN, CLIP_DATA, CLIP_END, CLIP_DELETE and GET_CLIPS. -/

namespace Sys2Proof.Machine

/-! ### The page check (R149) -/

/-- One bit of the division by x^16 + x^12 + x^5 + 1. -/
def crcShift (c : BitVec 16) : BitVec 16 := if c.msb then (c <<< 1) ^^^ 0x1021 else c <<< 1

/-- One byte of the check, most significant bit first. -/
def crcByte (c : BitVec 16) (b : Byte) : BitVec 16 :=
  (List.range 8).foldl (fun d _ => crcShift d) (c ^^^ (b ++ (0 : Byte)))

/-- R149: the check of a run of bytes: initial value 0xFFFF, no reflection, no final inversion. -/
def crc16 (bytes : List Byte) : BitVec 16 := bytes.foldl crcByte 0xFFFF

/-- R144: the number of pages of a clip of `length` samples. -/
def pagesFor (length : Nat) : Nat := ceilDiv length 256

/-- R149: the number of samples of the page at position `pos` that belong to the clip. -/
def Clip.samplesIn (k : Clip) (pos : Nat) : Nat := min 256 (k.declared - 256 * pos)

/-- The first `n` samples of a page, in offset order. -/
def pageSamples (m : List Host.Cell) (page : PageNumber) (n : Nat) : List Sample :=
  ((List.finRange 256).filter fun o => decide (o.1 < n)).map fun o => Memory.sample m page o

/-- R149: the check formed from the page's samples that belong to the clip. -/
def pageCheck (m : List Host.Cell) (page : PageNumber) (n : Nat) : BitVec 16 := crc16 (bytesOfSamples (pageSamples m page n))

/-! ### The store -/

def State.onStore (f : ClipStore → ClipStore) (s : State) : State := { s with store := f s.store }

def ClipStore.setClip (c : ClipId) (k : Clip) (st : ClipStore) : ClipStore := { st with clips := Vec.put st.clips c k }

/-- R149: the check of the page at position `pos` of clip `c` is formed. -/
def ClipStore.formCheck (c : ClipId) (st : ClipStore) (pos : Nat) : ClipStore :=
  match (st.clips[c]).pages[pos]? with
  | none => st
  | some page =>
    { st with checks := Vec.put st.checks page (pageCheck st.memory page ((st.clips[c]).samplesIn pos)) }

/-- The values of a page list made `x` in a vector of the pages. -/
def setPages {α : Type} (x : α) (pages : List PageNumber) (v : Vector α 512) : Vector α 512 :=
  pages.foldl (fun w p => Vec.put w p x) v

/-- R146: the p lowest-numbered free pages leave the free set; their slots become 0, their failed marks are cleared and
their stored checks are left as they stand, without meaning until R149 forms them (log entry 7). -/
def ClipStore.allocate (p : Nat) (st : ClipStore) : ClipStore :=
  let pages := st.free.take p
  { st with free := st.free.drop p, memory := pages.foldl Memory.clearPage st.memory,
            failed := setPages false pages st.failed }

/-- A page put in its place among ascending pages. -/
def insertPage (p : PageNumber) : List PageNumber → List PageNumber
  | [] => [p]
  | q :: rest => if p ≤ q then p :: q :: rest else q :: insertPage p rest

/-- R146, R153: the pages return to the free set, and their failed marks are cleared; their samples and stored checks stand
as they are (log entry 7). -/
def ClipStore.freePages (pages : List PageNumber) (st : ClipStore) : ClipStore :=
  { st with free := pages.foldr insertPage st.free, failed := setPages false pages st.failed }

/-- R151: a clip goes to EMPTY and its pages are freed. -/
def ClipStore.empty (c : ClipId) (st : ClipStore) : ClipStore :=
  let freed := (st.freePages (st.clips[c]).pages).setClip c Clip.blank
  if st.loading = some c then { freed with loading := none } else freed

/-- R147: the clip goes to LOADING with its pages. -/
def ClipStore.beginLoad (c : ClipId) (length : Nat) (st : ClipStore) : ClipStore :=
  { ((st.allocate (pagesFor length)).setClip c
      { state := .loading, declared := length, loaded := 0, pages := st.free.take (pagesFor length), references := 0,
        faultPage := none }) with loading := some c }

/-- R144: the samples `samples` written to clip offsets from `offset` on. -/
def writeSamples (pages : List PageNumber) : Nat → List Sample → List Host.Cell → List Host.Cell
  | _, [], m => m
  | offset, x :: rest, m =>
    writeSamples pages (offset + 1) rest
      (match pages[offset / 256]? with
        | some p => Memory.writeSample m p ⟨offset % 256, Nat.mod_lt _ (by decide)⟩ x
        | none => m)

/-- The page positions that a load passing from `before` to `after` samples completes (R148, R149). -/
def completedPages (before after : Nat) : List Nat := (List.range (after / 256)).drop (before / 256)

/-- R148: a chunk written at the loaded count. -/
def ClipStore.writeChunk (c : ClipId) (samples : List Sample) (st : ClipStore) : ClipStore :=
  let k := st.clips[c]
  (completedPages k.loaded (k.loaded + samples.length)).foldl (ClipStore.formCheck c)
    ({ st with memory := writeSamples k.pages k.loaded samples st.memory }.setClip c
      { k with loaded := k.loaded + samples.length })

/-- R150: the partial last page is checked, if there is one, and the clip goes to READY. -/
def ClipStore.endLoad (c : ClipId) (st : ClipStore) : ClipStore :=
  let k := st.clips[c]
  let checked := if k.declared % 256 = 0 then st else st.formCheck c (k.declared / 256)
  { (checked.setClip c { k with state := .ready }) with loading := none }

/-! ### Reference counts (R152) -/

def ClipStore.acquire (st : ClipStore) (c : ClipId) : ClipStore :=
  st.setClip c { st.clips[c] with references := (st.clips[c]).references + 1 }

def ClipStore.release (st : ClipStore) (c : ClipId) : ClipStore :=
  st.setClip c { st.clips[c] with references := (st.clips[c]).references - 1 }

/-! ### Page reads (R153, R154) -/

/-- R153: the store's verdict on the page at position `pos` of clip `c`; true if the read passes. -/
def ClipStore.passes (c : ClipId) (pos : Nat) (st : ClipStore) : Bool :=
  match (st.clips[c]).pages[pos]? with
  | none => false
  | some page =>
    !st.failed[page] && decide (st.checks[page] = pageCheck st.memory page ((st.clips[c]).samplesIn pos))

/-- R153: the failed mark of a page. -/
def ClipStore.markFailed (page : PageNumber) (st : ClipStore) : ClipStore :=
  { st with failed := Vec.put st.failed page true }

/-- R154: a READY clip is damaged at page position `pos`. -/
def ClipStore.damage (c : ClipId) (pos : Nat) (st : ClipStore) : ClipStore :=
  st.setClip c { st.clips[c] with state := .damaged, faultPage := some pos }

/-- R154: what a failed read of page position `pos`, memory page `page`, does. -/
def State.readFails (n : Player) (c : ClipId) (pos : Nat) (page : PageNumber) (s : State) : State :=
  let marked := s.onStore (ClipStore.markFailed page)
  if (s.store.clips[c]).state = .ready then
    (marked.onStore (ClipStore.damage c pos)).post .clip 0xE9 (clipByte c :: u16 pos ++ u16 page.1 ++ [playerByte n])
  else marked

/-- R153: a page read for player `n`; the answer is true if it passed. -/
def State.readPage (n : Player) (c : ClipId) (pos : Nat) (s : State) : State × Bool :=
  if s.store.passes c pos then (s, true)
  else
    match (s.store.clips[c]).pages[pos]? with
    | none => (s, false)
    | some page => (s.readFails n c pos page, false)

/-- R144: the sample at an offset of a clip. -/
def ClipStore.sampleAt (c : ClipId) (offset : Nat) (st : ClipStore) : Sample :=
  match (st.clips[c]).pages[offset / 256]? with
  | none => 0
  | some page => Memory.sample st.memory page ⟨offset % 256, Nat.mod_lt _ (by decide)⟩

/-! ### What a soft reset keeps (R157) -/

/-- R157: a clip after a SOFT reset, but for a LOADING clip, which is emptied first. -/
def Clip.kept (k : Clip) : Clip := { k with references := 0 }

/-- R157. -/
def ClipStore.softReset (st : ClipStore) : ClipStore :=
  let rest := match st.loading with
    | some c => st.empty c
    | none => st
  { rest with clips := Vec.tab fun c => (rest.clips[c]).kept }

/-- R187: the clips in READY or DAMAGED. -/
def ClipStore.keptCount (st : ClipStore) : Nat :=
  (st.clips.toList.filter fun k => decide (k.state = .ready ∨ k.state = .damaged)).length

/-! ### CLIP_BEGIN (R147) -/

/-- R147: the checks in the order of the table. -/
def judgeClipBegin (clip : Byte) (length : BitVec 24) (s : State) : Verdict :=
  match clipOf clip with
  | none => .refuse .badValue
  | some c =>
    if (s.store.clips[c]).state ≠ .empty then .refuse .inUse
    else if s.store.loading ≠ none then .refuse .busy
    else if ¬ (1 ≤ length.toNat ∧ length.toNat ≤ 131072) then .refuse .badValue
    else if s.store.free.length < pagesFor length.toNat then .refuse .noSpace
    else
      { status := .ok,
        fields := clip :: u16 (pagesFor length.toNat) ++ u16 (s.store.free.length - pagesFor length.toNat),
        effect := State.onStore (ClipStore.beginLoad c length.toNat) }

def serveClipBegin (tag clip : Byte) (length : BitVec 24) (s : State) : State :=
  takeRequest 0x40 tag 4 (judgeClipBegin clip length) s

/-- CLIP_BEGIN (R147). -/
def execClipBegin (tag clip : Byte) (length : BitVec 24) (s : State) : Host.Outcome State Fault Refusal :=
  .next (serveClipBegin tag clip length s)

/-! ### CLIP_DATA (R148) -/

/-- R148: the clip's state and loaded count. -/
def Clip.progressFields (k : Clip) : List Byte := k.state.code :: u24 k.loaded

/-- R148: the checks that follow that of the id. -/
def judgeChunk (c : ClipId) (offset : Nat) (samples : List Sample) (s : State) : Verdict :=
  let k := s.store.clips[c]
  if ¬ (1 ≤ samples.length ∧ samples.length ≤ 112) then .answer .badLength k.progressFields
  else if k.state ≠ .loading then .answer .wrongState k.progressFields
  else if offset ≠ k.loaded then .answer .badValue k.progressFields
  else if k.declared < offset + samples.length then .answer .badLength k.progressFields
  else
    { status := .ok, fields := k.state.code :: u24 (k.loaded + samples.length),
      effect := State.onStore (ClipStore.writeChunk c samples) }

/-- R148. -/
def judgeClipData (clip : Byte) (offset : BitVec 24) (samples : List Sample) (s : State) : Verdict :=
  match clipOf clip with
  | none => .refuse .badValue
  | some c => judgeChunk c offset.toNat samples s

def serveClipData (tag clip : Byte) (offset : BitVec 24) (samples : List Sample) (s : State) : State :=
  takeRequest 0x41 tag (4 + 2 * samples.length) (judgeClipData clip offset samples) s

/-- CLIP_DATA (R148). -/
def execClipData (tag clip : Byte) (offset : BitVec 24) (samples : List Sample) (s : State) :
    Host.Outcome State Fault Refusal :=
  .next (serveClipData tag clip offset samples s)

/-! ### CLIP_END (R150) -/

/-- R150. -/
def judgeClipEnd (clip : Byte) (s : State) : Verdict :=
  match clipOf clip with
  | none => .refuse .badValue
  | some c =>
    let k := s.store.clips[c]
    if k.state ≠ .loading then .refuse .wrongState
    else if k.loaded = k.declared then
      { status := .ok, fields := clip :: u24 k.declared, effect := State.onStore (ClipStore.endLoad c) }
    else .answer .badLength (u24 k.loaded)

def serveClipEnd (tag clip : Byte) (s : State) : State := takeRequest 0x42 tag 1 (judgeClipEnd clip) s

/-- CLIP_END (R150). -/
def execClipEnd (tag clip : Byte) (s : State) : Host.Outcome State Fault Refusal := .next (serveClipEnd tag clip s)

/-! ### CLIP_DELETE (R151) -/

/-- R151. -/
def judgeClipDelete (clip : Byte) (s : State) : Verdict :=
  match clipOf clip with
  | none => .refuse .badValue
  | some c =>
    let k := s.store.clips[c]
    if k.state = .empty then .refuse .notFound
    else if k.references ≠ 0 then .refuse .inUse
    else
      { status := .ok, fields := u16 (s.store.empty c).free.length, effect := State.onStore (ClipStore.empty c) }

def serveClipDelete (tag clip : Byte) (s : State) : State := takeRequest 0x43 tag 1 (judgeClipDelete clip) s

/-- CLIP_DELETE (R151). -/
def execClipDelete (tag clip : Byte) (s : State) : Host.Outcome State Fault Refusal :=
  .next (serveClipDelete tag clip s)

/-! ### GET_CLIPS (R155) -/

/-- The entry of a clip in GET_CLIPS. -/
def Clip.entry (k : Clip) : List Byte :=
  k.state.code :: u24 k.declared ++ u24 k.loaded ++ u16 k.pages.length ++ u8 k.references :: optional16 k.faultPage

/-- The LOADING clip's id, or 0 (R155). -/
def ClipStore.loadingByte (st : ClipStore) : Byte :=
  match st.loading with
  | some c => clipByte c
  | none => 0

/-- R155. A CLAMPED answer has no byte of its own for the count taken (log entry 10). -/
def judgeGetClips (first count : Byte) (s : State) : Verdict :=
  match clipOf first with
  | none => .refuse .badValue
  | some _ =>
    let n := clampNat 1 16 count.toNat
    let listed : List ClipId := cutRange first.toNat n
    .answer (okOr (decide (n ≠ count.toNat)))
      (u16 s.store.free.length ++ s.store.loadingByte :: u8 listed.length ::
        listed.flatMap fun c => (s.store.clips[c]).entry)

def serveGetClips (tag first count : Byte) (s : State) : State := takeRequest 0x44 tag 2 (judgeGetClips first count) s

/-- GET_CLIPS (R155). -/
def execGetClips (tag first count : Byte) (s : State) : Host.Outcome State Fault Refusal :=
  .next (serveGetClips tag first count s)

end Sys2Proof.Machine
end

