-- ==== Sys2Proof/Machine/Players.lean ====
section
/-! DEFINITION. The prompt players (Chapter 9): the cue, frames, segment ends, arrivals, the ways a player stops;
SEGMENT_END, PLAYER_RAMP_ARRIVAL, CUE, GO, PAUSE, RESUME, ABORT and GET_PLAYER. -/

namespace Sys2Proof.Machine

/-! ### The record and its ramp -/

def State.player (s : State) (n : Player) : PlayerRecord := s.players[n]

def State.setPlayer (n : Player) (r : PlayerRecord) (s : State) : State := { s with players := Vec.put s.players n r }

/-- The length of a player's fades, in frames. -/
def fadeLength : Nat := 4

/-- The ramp target 0 with a length of 4 frames (R163, R168 to R171). -/
def State.fadeOut (n : Player) (s : State) : State := s.onPlayerRamp n (·.setTarget 0 fadeLength)

/-- The ramp target 32768 with a length of 4 frames (R162, R164). -/
def State.fadeIn (n : Player) (s : State) : State := s.onPlayerRamp n (·.setTarget fullScale fadeLength)

/-- A sounding player goes to ABORTING and fades out (R168 to R171). -/
def State.abortPlayer (n : Player) (reason : DoneReason) (s : State) : State :=
  (s.setPlayer n { s.player n with state := .aborting, abortReason := some reason }).fadeOut n

/-- R173. -/
def State.playerDone (n : Player) (reason : DoneReason) (r : PlayerRecord) (s : State) : State :=
  s.post .player 0xE8 (playerByte n :: reason.code :: u8 r.current :: u24 r.played)

/-- R172: the player reaches IDLE. -/
def State.playerIdle (n : Player) (reason : DoneReason) (s : State) : State :=
  ((s.onStore fun st => ((s.player n).cue.map Segment.clip).foldl ClipStore.release st).setPlayer n
    PlayerRecord.reset).playerDone n reason (s.player n)

/-! ### Segments (R159) -/

/-- The first offset of the loop block of size `b` that holds `start`. -/
def loopFirst (b start : Nat) : Nat := b * (start / b)

/-- R159: whether the offset after `offset` is a wrap. -/
def Segment.wrapsAfter (g : Segment) (offset : Nat) : Bool :=
  match g.loopBlock.size with
  | none => false
  | some b => decide (loopFirst b g.start + b ≤ offset + 1)

/-- R159: the offset that follows `offset`. -/
def Segment.offsetAfter (g : Segment) (offset : Nat) : Nat :=
  match g.loopBlock.size with
  | none => offset + 1
  | some b => if loopFirst b g.start + b ≤ offset + 1 then loopFirst b g.start else offset + 1

/-! ### Producing a frame (R165, R166, R170) -/

/-- R170: the fault verdict at a position. -/
def State.faultVerdict (n : Player) (s : State) : State :=
  if (s.player n).haltOnError ∧ ((s.player n).state = .playing ∨ (s.player n).state = .paused) then
    s.abortPlayer n .fault
  else s

/-- R153, R170: the position enters the page at position `pos`. -/
def State.enterPage (n : Player) (g : Segment) (pos : Nat) (s : State) : State :=
  let read := s.readPage n g.clip pos
  let t := read.1.setPlayer n { read.1.player n with page := some (pos, read.2) }
  if read.2 then t else t.faultVerdict n

/-- R165: a page read is made where the sample at the next offset lies in another page than the last one taken, or none
was taken in the segment or since a wrap. -/
def State.visitPage (n : Player) (g : Segment) (s : State) : State :=
  if (s.player n).page.map Prod.fst = some ((s.player n).nextOffset / 256) then s
  else s.enterPage n g ((s.player n).nextOffset / 256)

/-- The slot of a position. -/
def State.placeSlot (n : Player) (i : Fin 16) (x : PlayerSlot) (s : State) : State :=
  { s with inputs := { s.inputs with players := Vec.put s.inputs.players n (Vec.put s.inputs.players[n] i x) } }

/-- R153: the sample that the player takes at its next offset: as stored where the page's read passed, else 0. -/
def State.slotNow (n : Player) (g : Segment) (s : State) : PlayerSlot :=
  { sample := if (s.player n).page.map Prod.snd = some true then s.store.sampleAt g.clip (s.player n).nextOffset else 0
    gain := g.gain }

/-- R165: the position moves on by one sample. -/
def PlayerRecord.advance (g : Segment) (r : PlayerRecord) : PlayerRecord :=
  { r with played := r.played + 1, nextOffset := g.offsetAfter r.nextOffset,
           page := if g.wrapsAfter r.nextOffset then none else r.page }

/-- R166: the current segment becomes the next one. -/
def PlayerRecord.toNext (r : PlayerRecord) : PlayerRecord :=
  { r with current := r.current + 1, played := 0, nextOffset := (r.cue[r.current + 1]?.map Segment.start).getD 0,
           page := none }

/-- R166: a WAIT end. An ABORTING player stays ABORTING. -/
def PlayerRecord.toWait (r : PlayerRecord) : PlayerRecord :=
  { r.toNext with advancing := false, state := if r.state = .aborting then .aborting else .cued }

/-- R166: the reason with which an END end closes the cue. -/
def PlayerRecord.endReason (r : PlayerRecord) : DoneReason :=
  if r.state = .aborting then r.abortReason.getD .completed else .completed

/-- R166, R173: the segment `g` ends at this position. -/
def State.endSegment (n : Player) (g : Segment) (s : State) : State :=
  let t := s.post .player 0xE7 [playerByte n, u8 (s.player n).current, g.nextAction.code]
  match g.nextAction with
  | .next => t.setPlayer n (s.player n).toNext
  | .wait => t.setPlayer n (s.player n).toWait
  | .stop => t.playerIdle n (s.player n).endReason

/-- R165, R166: the sample at the next offset of segment `g` taken at position `i`. -/
def State.takeSample (n : Player) (g : Segment) (i : Fin 16) (s : State) : State :=
  let t := s.visitPage n g
  let u := (t.placeSlot n i (t.slotNow n g)).setPlayer n ((t.player n).advance g)
  if g.playLength ≤ (u.player n).played then u.endSegment n g else u

/-- The segment being played. -/
def PlayerRecord.segment (r : PlayerRecord) : Option Segment := r.cue[r.current]?

/-- R165: position `i` of a frame; a player that is not advancing gives no sample. -/
def State.playPosition (n : Player) (s : State) (i : Fin 16) : State :=
  if (s.player n).advancing then
    match (s.player n).segment with
    | some g => s.takeSample n g i
    | none => s.placeSlot n i PlayerSlot.none
  else s.placeSlot n i PlayerSlot.none

/-- R165: the frame of a player. -/
def State.playFrame (n : Player) (s : State) : State := (List.finRange 16).foldl (State.playPosition n) s

/-- Whether the sample taken next ends its segment. -/
def PlayerRecord.atSegmentEnd (r : PlayerRecord) : Bool :=
  r.advancing && match r.segment with
    | some g => decide (g.playLength ≤ r.played + 1)
    | none => false

/-- SEGMENT_END (R166): the sample taken at `i` by which the segment ends; where it would not end, the event does not
occur (log entry 8). -/
def execSegmentEnd (n : Player) (i : Fin 16) (s : State) : Host.Outcome State Fault Refusal :=
  .next (unlessInReset (fun s => if (s.player n).atSegmentEnd then s.playPosition n i else s) s)

/-! ### Arrivals (R167) -/

/-- R167: the ramp of the player arrives at 0. -/
def State.playerArrival (n : Player) (s : State) : State :=
  match (s.player n).state with
  | .paused => s.setPlayer n { s.player n with advancing := false }
  | .aborting => s.playerIdle n ((s.player n).abortReason.getD .aborted)
  | .idle | .cued | .playing => s

/-- Whether a ramp arrives at 0. -/
def Ramp.arrivesAtZero (r : Ramp) : Bool := r.arrives && decide (r.target = 0)

/-- PLAYER_RAMP_ARRIVAL (R25, R167): the player's ramp arrives at 0, and its arrival-pending flag clears; a ramp that does
not arrive at 0 gives no event (log entry 8). -/
def execPlayerRampArrival (n : Player) (s : State) : Host.Outcome State Fault Refusal :=
  .next (unlessInReset
    (fun s =>
      if (s.ramps.player[n]).arrivesAtZero then (s.onPlayerRamp n Ramp.clearArrival).playerArrival n else s) s)

/-! ### Stops by other blocks (R169, R171) -/

/-- R169: a slot grant reaches player `n`. -/
def State.speechStop (s : State) (n : Player) : State :=
  if (s.player n).stopOnSpeech ∧ (s.player n).state = .playing then s.abortPlayer n .speech else s

/-- R169: one or several grants at one boundary. -/
def State.grantsToPlayers (granted : List Pod) (s : State) : State :=
  if granted = [] then s else [0, 1].foldl State.speechStop s

/-- R171: the mixer enters STOPPING. -/
def State.mixerStop (s : State) (n : Player) : State :=
  match (s.player n).state with
  | .idle | .aborting => s
  | .cued => s.playerIdle n .stopped
  | .playing => s.abortPlayer n .stopped
  | .paused => if (s.player n).advancing then s.abortPlayer n .stopped else s.playerIdle n .stopped

/-! ### CUE (R160, R161) -/

/-- The extent of a loop block, none without one. -/
def cueLoopSize (g : SegmentFields) : Option Nat :=
  match loopBlockOf g.loopBlock with
  | some b => b.size
  | none => none

/-- The clip a segment names. -/
def cueClip (st : ClipStore) (g : SegmentFields) : Option Clip :=
  (clipOf g.clip).map fun c => st.clips[c]

/-- The declared length of the clip a segment names. -/
def cueDeclared (st : ClipStore) (g : SegmentFields) : Nat := ((cueClip st g).map Clip.declared).getD 0

/-- R160: a loop block or a next action that is not one of its values. -/
def cueBadForm (g : SegmentFields) : Bool :=
  (loopBlockOf g.loopBlock).isNone || (nextActionOf g.nextAction).isNone

/-- R160: the clip is not READY. -/
def cueNotReady (st : ClipStore) (g : SegmentFields) : Bool :=
  decide ((cueClip st g).map Clip.state ≠ some .ready)

/-- R160: the play length outside 1..131,072, or the start not below the clip's declared length. -/
def cueBadExtent (st : ClipStore) (g : SegmentFields) : Bool :=
  !decide (1 ≤ g.playLength.toNat ∧ g.playLength.toNat ≤ 131072) || decide (cueDeclared st g ≤ g.start.toNat)

/-- R160: without a loop block, start + play length exceeds the clip's declared length. -/
def cueOverruns (st : ClipStore) (g : SegmentFields) : Bool :=
  decide (cueLoopSize g = none) && decide (cueDeclared st g < g.start.toNat + g.playLength.toNat)

/-- R160: with a loop block, the block's first offset + B exceeds the clip's declared length. -/
def cueLoopOverruns (st : ClipStore) (g : SegmentFields) : Bool :=
  match cueLoopSize g with
  | some b => decide (cueDeclared st g < loopFirst b g.start.toNat + b)
  | none => false

/-- R160: the first segment whose next action stands in the wrong place: END is for the last segment alone. -/
def misplacedEnd : List SegmentFields → Nat → Option Nat
  | [], _ => none
  | [g], i => if g.nextAction = NextAction.stop.code then none else some i
  | g :: h :: rest, i => if g.nextAction = NextAction.stop.code then some i else misplacedEnd (h :: rest) (i + 1)

/-- The segment checks of R160 in the order of its table, each made over all segments before the next: the status of the
first that fails, with the index of the first segment that failed it. -/
def cueFailure (st : ClipStore) (l : List SegmentFields) : Option (Status × Nat) :=
  [(l.findIdx? cueBadForm).map (Status.badValue, ·),
   (l.findIdx? fun g => (clipOf g.clip).isNone).map (Status.badValue, ·),
   (l.findIdx? (cueNotReady st)).map (Status.wrongState, ·),
   (l.findIdx? (cueBadExtent st)).map (Status.badValue, ·),
   (l.findIdx? (cueOverruns st)).map (Status.badValue, ·),
   (l.findIdx? (cueLoopOverruns st)).map (Status.badValue, ·),
   (misplacedEnd l 0).map (Status.badValue, ·)].findSome? id

/-- R161: a segment as taken, its gain clamped. -/
def cueTaken (g : SegmentFields) : Option Segment :=
  match clipOf g.clip, loopBlockOf g.loopBlock, nextActionOf g.nextAction with
  | some c, some b, some a =>
    some { clip := c, start := g.start.toNat, playLength := g.playLength.toNat, loopBlock := b,
           gain := clampInt (-120) 0 g.gain.toInt, nextAction := a }
  | _, _, _ => none

/-- R161: the record of a player that takes a cue. -/
def cuedRecord (routing : Routing) (halt speech : Bool) (l : List Segment) : PlayerRecord :=
  { state := .cued, cue := l, current := 0, played := 0, nextOffset := (l[0]?.map Segment.start).getD 0,
    advancing := false, routing := routing, haltOnError := halt, stopOnSpeech := speech, abortReason := none,
    page := none }

/-- R161: each segment's clip is acquired once, and the player goes to CUED. -/
def State.takeCue (n : Player) (routing : Routing) (halt speech : Bool) (l : List Segment) (s : State) : State :=
  (s.onStore fun st => (l.map Segment.clip).foldl ClipStore.acquire st).setPlayer n (cuedRecord routing halt speech l)

/-- R161: a cue that passes every check. The segment gains of the answer have no count byte of their own (log entry 14). -/
def cueVerdict (n : Player) (routing : Routing) (options : Byte) (l : List SegmentFields) : Verdict :=
  let taken := l.filterMap cueTaken
  { status := okOr (decide (taken.map Segment.gain ≠ l.map fun g => g.gain.toInt)),
    fields := playerByte n :: PlayerState.code .cued :: taken.map fun g => i8 g.gain,
    effect := State.takeCue n routing (options.getLsbD 0) (options.getLsbD 1) taken }

/-- R160. -/
def judgeCue (player routing options : Byte) (l : List SegmentFields) (s : State) : Verdict :=
  match playerOf player with
  | none => .refuse .badValue
  | some n =>
    if ¬ (1 ≤ l.length ∧ l.length ≤ 8) then .refuse .badLength
    else if (s.player n).state ≠ .idle then .refuse .busy
    else
      match routingOf routing, setOf 2 options with
      | some r, true =>
        match cueFailure s.store l with
        | some (status, i) => .answer status [u8 i]
        | none => cueVerdict n r options l
      | _, _ => .refuse .badValue

def serveCue (tag player routing options : Byte) (l : List SegmentFields) (s : State) : State :=
  takeRequest 0x48 tag (3 + 10 * l.length) (judgeCue player routing options l) s

/-- CUE (R160, R161). -/
def execCue (tag player routing options : Byte) (l : List SegmentFields) (s : State) :
    Host.Outcome State Fault Refusal :=
  .next (serveCue tag player routing options l s)

/-! ### GO (R162) -/

/-- R162: the jump to 0, then the target 32768. -/
def State.startPlaying (n : Player) (s : State) : State :=
  ((s.setPlayer n { s.player n with state := .playing, advancing := true }).onPlayerRamp n (·.jump 0)).fadeIn n

/-- Whether the mixer takes a GO. -/
def MixerState.live : MixerState → Bool
  | .starting | .running => true
  | .stopped | .stopping => false

/-- R162. -/
def judgeGo (player : Byte) (s : State) : Verdict :=
  match playerOf player with
  | none => .refuse .badValue
  | some n =>
    if (s.player n).state ≠ .cued then .refuse .wrongState
    else if s.session.mixer.live then
      { status := .ok, fields := [u8 (s.player n).current], effect := State.startPlaying n }
    else .refuse .wrongState

def serveGo (tag player : Byte) (s : State) : State := takeRequest 0x49 tag 1 (judgeGo player) s

/-- GO (R162). -/
def execGo (tag player : Byte) (s : State) : Host.Outcome State Fault Refusal := .next (serveGo tag player s)

/-! ### PAUSE (R163) and RESUME (R164) -/

/-- R163. -/
def State.pausePlayer (n : Player) (s : State) : State :=
  (s.setPlayer n { s.player n with state := .paused }).fadeOut n

/-- R163. -/
def judgePause (player : Byte) (s : State) : Verdict :=
  match playerOf player with
  | none => .refuse .badValue
  | some n =>
    if (s.player n).state = .playing then
      { status := .ok, fields := u8 (s.player n).current :: u24 (s.player n).played, effect := State.pausePlayer n }
    else .refuse .wrongState

def servePause (tag player : Byte) (s : State) : State := takeRequest 0x4A tag 1 (judgePause player) s

/-- PAUSE (R163). -/
def execPause (tag player : Byte) (s : State) : Host.Outcome State Fault Refusal := .next (servePause tag player s)

/-- R164. -/
def State.resumePlayer (n : Player) (s : State) : State :=
  (s.setPlayer n { s.player n with state := .playing, advancing := true }).fadeIn n

/-- R164. -/
def judgeResume (player : Byte) (s : State) : Verdict :=
  match playerOf player with
  | none => .refuse .badValue
  | some n =>
    if (s.player n).state = .paused then { status := .ok, fields := [], effect := State.resumePlayer n }
    else .refuse .wrongState

def serveResume (tag player : Byte) (s : State) : State := takeRequest 0x4B tag 1 (judgeResume player) s

/-- RESUME (R164). -/
def execResume (tag player : Byte) (s : State) : Host.Outcome State Fault Refusal := .next (serveResume tag player s)

/-! ### ABORT (R168) -/

/-- R168. -/
def judgeAbort (player : Byte) (s : State) : Verdict :=
  match playerOf player with
  | none => .refuse .badValue
  | some n =>
    match (s.player n).state with
    | .idle => .refuse .wrongState
    | .cued | .paused => { status := .ok, fields := [], effect := State.playerIdle n .aborted }
    | .playing => { status := .ok, fields := [], effect := State.abortPlayer n .aborted }
    | .aborting => .answer .ok []

def serveAbort (tag player : Byte) (s : State) : State := takeRequest 0x4C tag 1 (judgeAbort player) s

/-- ABORT (R168). -/
def execAbort (tag player : Byte) (s : State) : Host.Outcome State Fault Refusal := .next (serveAbort tag player s)

/-! ### GET_PLAYER (R174) -/

/-- The 10 bytes of a segment as taken (R203). -/
def Segment.bytes (g : Segment) : List Byte :=
  clipByte g.clip :: u24 g.start ++ u24 g.playLength ++ [g.loopBlock.code, i8 g.gain, g.nextAction.code]

/-- R174: the record and the ramp's value. -/
def PlayerRecord.bytes (ramp : Nat) (r : PlayerRecord) : List Byte :=
  [r.state.code, bit8 r.advancing, optional8 (r.abortReason.map DoneReason.code), r.routing.byte,
    optionsByte r.haltOnError r.stopOnSpeech, u8 r.current] ++ u24 r.played ++ u24 r.nextOffset ++ u16 ramp ++
    u8 r.cue.length :: r.cue.flatMap Segment.bytes

/-- R174. -/
def judgeGetPlayer (player : Byte) (s : State) : Verdict :=
  match playerOf player with
  | none => .refuse .badValue
  | some n => .answer .ok ((s.player n).bytes (s.ramps.player[n]).ended)

def serveGetPlayer (tag player : Byte) (s : State) : State := takeRequest 0x4D tag 1 (judgeGetPlayer player) s

/-- GET_PLAYER (R174). -/
def execGetPlayer (tag player : Byte) (s : State) : Host.Outcome State Fault Refusal :=
  .next (serveGetPlayer tag player s)

end Sys2Proof.Machine
end

