-- ==== Sys2Proof/Machine/Session.lean ====
section
/-! DEFINITION. The session controller (Chapter 10): the mixer state and the master ramp, the roster and its hand-off,
status, resets; MASTER_RAMP_ARRIVAL, START, STOP, SET_ROSTER, GET_ROSTER, GET_STATUS, RESET, POWER_ON, RESET_PIN,
SOFT_RESET and RESET_END. -/

namespace Sys2Proof.Machine

/-! ### Mixer states (R176 to R180) -/

/-- R180: the mixer goes to `st`, and the change is reported with M as the last period ended left it (log entry 23). -/
def State.setMixer (st : MixerState) (cause : MixerCause) (s : State) : State :=
  { s with session := { s.session with mixer := st } }.post .mixer 0xEA
    ([s.session.mixer.code, st.code, cause.code] ++ u16 s.ramps.master.ended)

/-- The length of the master ramp's rise and of its fall, in frames (R176). -/
def riseLength : Nat := 32

/-- See riseLength. -/
def fallLength : Nat := 16

/-- R177: START from STOPPED. -/
def State.startMixer (s : State) : State :=
  (s.onMasterRamp (·.setTarget fullScale riseLength)).setMixer .starting .start

/-- R178, R171: STOP from STARTING or RUNNING; the change is handed to both players. -/
def State.stopMixer (s : State) : State :=
  [0, 1].foldl State.mixerStop ((s.onMasterRamp (·.setTarget 0 fallLength)).setMixer .stopping .stop)

/-- R177. A START refused with BUSY gives the mixer state too (log entry 13). -/
def judgeStart (s : State) : Verdict :=
  match s.session.mixer with
  | .stopped => { status := .ok, fields := [MixerState.code .starting], effect := State.startMixer }
  | .starting => .answer .ok [MixerState.code .starting]
  | .running => .answer .ok [MixerState.code .running]
  | .stopping => .answer .busy [MixerState.code .stopping]

def serveStart (tag : Byte) (s : State) : State := takeRequest 0x02 tag 0 judgeStart s

/-- START (R177). -/
def execStart (tag : Byte) (s : State) : Host.Outcome State Fault Refusal := .next (serveStart tag s)

/-- R178. -/
def judgeStop (s : State) : Verdict :=
  match s.session.mixer with
  | .stopped => .answer .ok [MixerState.code .stopped]
  | .starting | .running => { status := .ok, fields := [MixerState.code .stopping], effect := State.stopMixer }
  | .stopping => .answer .ok [MixerState.code .stopping]

def serveStop (tag : Byte) (s : State) : State := takeRequest 0x03 tag 0 judgeStop s

/-- STOP (R178). -/
def execStop (tag : Byte) (s : State) : Host.Outcome State Fault Refusal := .next (serveStop tag s)

/-- R179: what an arrival of the master ramp at `target` makes of the mixer state; none where the controller does not act. -/
def MixerState.onArrival (target : Nat) : MixerState → Option MixerState
  | .starting => if target = fullScale then some .running else none
  | .stopping => if target = 0 then some .stopped else none
  | .stopped | .running => none

/-- R179: the controller receives an arrival of the master ramp. -/
def State.masterArrival (s : State) : State :=
  match s.session.mixer.onArrival s.ramps.master.target with
  | some st => s.setMixer st .arrival
  | none => s

/-- MASTER_RAMP_ARRIVAL (R25, R179): the arrival, and the arrival-pending flag clears; a ramp that does not arrive gives
no event (log entry 8). -/
def execMasterRampArrival (s : State) : Host.Outcome State Fault Refusal :=
  .next (unlessInReset
    (fun s => if s.ramps.master.arrives then (s.onMasterRamp Ramp.clearArrival).masterArrival else s) s)

/-! ### The roster (R181, R182) -/

/-- R181: the checks of the three lists; each failure gives BAD_VALUE. -/
def rosterValid (pods chairs trunks : List Byte) : Bool :=
  pods.all (fun b => (podOf b).isSome) && trunks.all (fun b => (trunkOf b).isSome) &&
    decide pods.Nodup && decide chairs.Nodup && decide trunks.Nodup &&
    decide (chairs.length ≤ 2) && chairs.all fun b => pods.contains b

/-- The roster that three lists name. -/
def rosterOf (pods chairs trunks : List Byte) : Roster :=
  { pods := Vec.tab fun p => pods.contains (podByte p), chairs := Vec.tab fun p => chairs.contains (podByte p),
    trunks := Vec.tab fun k => trunks.contains (trunkByte k) }

/-- The pods whose flag is set, as bytes in ascending order. -/
def podBytes (v : Vector Bool 24) : List Byte := (allPods.filter fun p => v[p]).map podByte

/-- The trunks whose flag is set, as bytes in ascending order. -/
def trunkBytes (v : Vector Bool 4) : List Byte := ((List.finRange 4).filter fun k => v[k]).map trunkByte

/-- R183: the three lists of a roster, each with its count (log entry 15). -/
def Roster.bytes (r : Roster) : List Byte :=
  counted (podBytes r.pods) ++ counted (podBytes r.chairs) ++ counted (trunkBytes r.trunks)

def State.setLink (p : Pod) (l : Link) (s : State) : State := { s with links := Vec.put s.links p l }

/-- R35, R43: the link of a leaving pod. -/
def State.leaveLink (p : Pod) (s : State) : State :=
  (s.setLink p (s.links[p]).leaveRoster).linkEvent p ⟨(s.links[p]).state, .off, .roster⟩

/-- R75, R84: the gate of a leaving pod, which goes to CLOSED from any state. -/
def State.leaveGate (p : Pod) (wasChair : Bool) (s : State) : State :=
  let t :=
    if (s.gate p).state = .closed then (s.setGateState p .closed 0).dequeueGate p else s.releaseGate p .roster
  if wasChair then t.setPriority p 0 else t

/-- R99, R89, R74: the reasons of a leaving pod: CHAIR goes and FAULT comes, at once. A channel that gains FAULT has its
gate ramp made to jump to 0. -/
def State.leaveReasons (p : Pod) (s : State) : State :=
  let t := s.setReasons p { s.mutes.reasons[p] with chair := false, fault := true }
  if (s.mutes.reasons[p]).fault then t else t.onGateRamp p (·.jump 0)

/-- R95, R99, R101, R182: the keys, reasons and list entry of a leaving pod; `link` is the state its link leaves. The
change of its link to OFF reverts KEY by the key mode, as R95 says, and the roster change keeps what that leaves (log
entry 21). -/
def State.leaveMutes (p : Pod) (link : LinkState) (s : State) : State :=
  let t := s.leaveReasons p
  let u := if link.takes then t.revertKeys p else t
  u.leaveTalkList p .dropped

/-- R182: a pod leaves the roster: link, gate, mutes. -/
def State.podLeaves (p : Pod) (wasChair : Bool) (s : State) : State :=
  ((s.leaveLink p).leaveGate p wasChair).leaveMutes p (s.links[p]).state

/-- R29, R43: the link of an entering pod. -/
def State.enterLink (p : Pod) (s : State) : State :=
  (s.setLink p (s.links[p]).enterRoster).linkEvent p ⟨(s.links[p]).state, .absent, .roster⟩

/-- R75, R84: the gate of an entering pod, which goes to BYPASS where its mode says so. -/
def State.enterGate (p : Pod) (s : State) : State :=
  match (s.gate p).mode with
  | .bypass => ((s.setGateState p .bypass 0).dequeueGate p).gateEvent p (s.gate p).state .bypass .roster
  | .auto => s

/-- R182: a pod that the roster newly names as a chair pod. -/
def State.becomesChair (p : Pod) (s : State) : State :=
  ((s.setPriority p 3).setChair p false).leaveTalkList p .dropped

/-- R182: a pod that is a delegate from now on gains CHAIR where the chair-mute flag is on. -/
def State.becomesDelegate (p : Pod) (s : State) : State := if s.mutes.chairMute then s.setChair p true else s

/-- R182: a pod enters the roster: link, gate, mutes. -/
def State.podEnters (p : Pod) (isChair : Bool) (s : State) : State :=
  let t := (s.enterLink p).enterGate p
  if isChair then t.becomesChair p else t.becomesDelegate p

/-- R182: the changes for one pod. -/
def State.podChange (old new : Roster) (s : State) (p : Pod) : State :=
  match old.pods[p], new.pods[p] with
  | true, false => s.podLeaves p old.chairs[p]
  | false, true => s.podEnters p new.chairs[p]
  | true, true =>
    match old.chairs[p], new.chairs[p] with
    | false, true => s.becomesChair p
    | true, false => (s.setPriority p 0).becomesDelegate p
    | true, true | false, false => s
  | false, false => s

/-- R181, R182: the roster is replaced and the differences handed on, in ascending pod number. -/
def State.takeRoster (new : Roster) (s : State) : State :=
  allPods.foldl (State.podChange s.session.roster new) { s with session := { s.session with roster := new } }

/-- R181. -/
def judgeSetRoster (pods chairs trunks : List Byte) (s : State) : Verdict :=
  if !(rosterValid pods chairs trunks) then .refuse .badValue
  else if s.session.mixer = .stopped then
    { status := .ok, fields := (rosterOf pods chairs trunks).bytes,
      effect := State.takeRoster (rosterOf pods chairs trunks) }
  else .refuse .wrongState

def serveSetRoster (tag : Byte) (pods chairs trunks : List Byte) (s : State) : State :=
  takeRequest 0x04 tag (pods.length + chairs.length + trunks.length + 3) (judgeSetRoster pods chairs trunks) s

/-- SET_ROSTER (R181, R182). -/
def execSetRoster (tag : Byte) (pods chairs trunks : List Byte) (s : State) : Host.Outcome State Fault Refusal :=
  .next (serveSetRoster tag pods chairs trunks s)

/-! ### GET_ROSTER (R183) and GET_STATUS (R184) -/

/-- R183. -/
def judgeGetRoster (s : State) : Verdict := .answer .ok s.session.roster.bytes

def serveGetRoster (tag : Byte) (s : State) : State := takeRequest 0x05 tag 0 judgeGetRoster s

/-- GET_ROSTER (R183). -/
def execGetRoster (tag : Byte) (s : State) : Host.Outcome State Fault Refusal := .next (serveGetRoster tag s)

/-- R184. -/
def judgeGetStatus (s : State) : Verdict :=
  .answer .ok
    (s.session.mixer.code :: u16 s.ramps.master.ended ++ u8 (podBytes s.session.roster.pods).length ::
      counted (podBytes s.session.roster.chairs) ++
      [u8 (trunkBytes s.session.roster.trunks).length, bit8 s.mutes.chairMute, bit8 s.mutes.privacy,
        u8 s.automixer.limit, u8 s.holders.length, s.session.lastReason.code])

def serveGetStatus (tag : Byte) (s : State) : State := takeRequest 0x06 tag 0 judgeGetStatus s

/-- GET_STATUS (R184). -/
def execGetStatus (tag : Byte) (s : State) : Host.Outcome State Fault Refusal := .next (serveGetStatus tag s)

/-! ### Resets (R185 to R188) -/

/-- R186: the control link takes no further request until the reset takes effect. -/
def State.awaitReset (s : State) : State := { s with session := { s.session with phase := .awaitingSoft } }

/-- R186. -/
def judgeReset (_ : State) : Verdict := { status := .ok, fields := [], effect := State.awaitReset }

def serveReset (tag : Byte) (s : State) : State := takeRequest 0x01 tag 0 judgeReset s

/-- RESET (R186). -/
def execReset (tag : Byte) (s : State) : Host.Outcome State Fault Refusal := .next (serveReset tag s)

/-- R185: the start-up reason at the end of a power-on or pin reset. -/
def latchReason (latch : Bool) : StartReason := if latch then .pin else .power

/-- R185, R156: a power-on or pin reset takes effect and holds the part. -/
def State.hardReset (latch : Bool) (s : State) : State :=
  State.blocksReset ClipStore.reset (latchReason latch) .inHardReset latch s.pending

/-- POWER_ON (R185): the detector clears the pin latch while the supply rises, and a RESET pin held asserted sets it. -/
def execPowerOn (pinHeld : Bool) (s : State) : Host.Outcome State Fault Refusal := .next (s.hardReset pinHeld)

/-- RESET_PIN (R185). -/
def execResetPin (s : State) : Host.Outcome State Fault Refusal := .next (s.hardReset true)

/-- Whether a message is the answer to a RESET that was taken (R186). -/
def Message.answersReset (m : Message) : Bool := !m.isReport && decide (m.type = 0x81) && decide (m.payload = [0])

/-- Whether the message on the line is the RESET answer whose sending the SOFT reset awaits (R186). -/
def State.softResetDue (s : State) : Bool :=
  decide (s.session.phase = .awaitingSoft) && (s.control.queue.head?.map Message.answersReset).getD false

/-- R186, R157: the SOFT reset takes effect. -/
def State.takeSoftReset (s : State) : State :=
  State.blocksReset s.store.softReset .soft .inSoftReset s.session.pinLatch s.pending

/-- SOFT_RESET (R186): the last byte of the RESET answer has left the line; where the RESET answer is not the message on
the line, the event does not occur (log entry 8). -/
def execSoftReset (s : State) : Host.Outcome State Fault Refusal :=
  .next (if s.softResetDue then s.takeSoftReset else s)

/-- R187: the reset ends with the reason given, and START_UP is queued. -/
def State.endReset (reason : StartReason) (s : State) : State :=
  { s with session := { s.session with phase := .running, pinLatch := false, lastReason := reason } }.postAlways 0xE0
    (reason.code :: u8 s.store.keptCount :: u16 s.store.free.length)

/-- RESET_END (R185, R187): outside a reset the event does not occur (log entry 17). -/
def execResetEnd (s : State) : Host.Outcome State Fault Refusal :=
  .next
    (match s.session.phase with
      | .inSoftReset => s.endReset .soft
      | .inHardReset => s.endReset (latchReason s.session.pinLatch)
      | .running | .awaitingSoft => s)

end Sys2Proof.Machine
end

