-- ==== Sys2Proof/Machine/Boundary.lean ====
section
/-! DEFINITION. The mix period boundary (R1): the work of every block that acts once a period, in an order that the
command gives where the spec leaves it open; MIX_PERIOD_BOUNDARY. -/

namespace Sys2Proof.Machine

/-! ### The order of the work (R73, R169, R173, R197; log entry 3) -/

/-- The order taken where the command names none. -/
def defaultOrder : List Work :=
  allPods.map Work.take ++ [.keys, .automixer, .player 0, .player 1, .levelControl, .session]

/-- The first of each work of a list. -/
def keepFirst : List Work → List Work
  | [] => []
  | w :: rest => w :: (keepFirst rest).filter (· ≠ w)

def Work.isTake : Work → Bool
  | .take _ => true
  | .keys | .automixer | .player _ | .levelControl | .session => false

/-- The mute controller's passes placed at once, or behind the last take where one still follows. -/
def keysAfterTakes : List Work → List Work
  | [] => [.keys]
  | w :: rest => if (w :: rest).any Work.isTake then w :: keysAfterTakes rest else .keys :: w :: rest

/-- R91: the two passes handle the key levels of all the boundary's takes, so they come after the last take. -/
def deferKeys : List Work → List Work
  | [] => []
  | .keys :: rest => keysAfterTakes rest
  | w :: rest => w :: deferKeys rest

/-- Every work of a boundary once: those named, in the order named, and the others in the default order. -/
def schedule (order : List Work) : List Work := deferKeys (keepFirst (order ++ defaultOrder))

/-! ### The work -/

/-- The arrivals that the owners that act on one receive at a boundary (R25, R167, R179). -/
structure Arrivals where
  master : Bool
  players : Vector Bool 2
  deriving DecidableEq, Repr

/-- R25: the arrivals for the period just ended. -/
def Ramps.arrivals (r : Ramps) : Arrivals :=
  { master := r.master.arrives, players := Vec.tab fun n => (r.player[n]).arrivesAtZero }

/-- What a boundary's work has made so far: the state, and the key levels handed over by the takes. -/
structure Progress where
  state : State
  keys : TakenKeys

def Progress.onState (f : State → State) (g : Progress) : Progress := { g with state := f g.state }

/-- R3: the samples that a take yields become the pod's s for the new period. -/
def State.placeTake (p : Pod) (x : Frame) (s : State) : State :=
  { s with inputs := { s.inputs with pods := Vec.put s.inputs.pods p x } }

/-- R39: the take of a link. -/
def Progress.take (p : Pod) (g : Progress) : Progress :=
  { state := (g.state.linkBoundary p).placeTake p (g.state.linkYield p).samples
    keys := Vec.put g.keys p (g.state.linkYield p).keys }

/-- R64, R80, R169: the automixer's work, and its slot grants handed to the players. -/
def State.automixerWork (s : State) : State := s.automix.1.grantsToPlayers s.automix.2

/-- R165: a player's two steps. -/
def State.playerWork (n : Player) (arrived : Bool) (s : State) : State :=
  (if arrived then s.playerArrival n else s).playFrame n

/-- One work of a boundary; `before` is the state as the period ends. -/
def Progress.work (before : State) (a : Arrivals) (g : Progress) (w : Work) : Progress :=
  match w with
  | .take p => g.take p
  | .keys => g.onState fun s => s.ageKeys.takeKeys g.keys
  | .automixer => g.onState State.automixerWork
  | .player n => g.onState (State.playerWork n a.players[n])
  | .levelControl => g.onState fun s => s.levelControl before
  | .session => g.onState fun s => if a.master then s.masterArrival else s

/-- R4: the trunk samples of the new period; a port that is not enabled passes 0. -/
def State.placeTrunks (trunks : Vector Frame 4) (s : State) : State :=
  { s with inputs := { s.inputs with
      trunks := Vec.tab fun k => if s.session.roster.trunks[k] then trunks[k] else silentFrame } }

/-- R25: the arrival-pending flags clear. -/
def State.clearArrivals (s : State) : State := { s with ramps := s.ramps.map Ramp.clearArrival }

/-- The work of the boundary between the end of one period and the start of the next. -/
def State.boundaryWork (order : List Work) (before closed : State) : State :=
  ((schedule order).foldl (Progress.work before closed.ramps.arrivals)
    { state := closed.clearArrivals, keys := Vec.tab fun _ => none }).state

/-- R1: the boundary. The period ends and is handed out; the blocks do their work; the ducks are judged (R134), the
input measured (R49), the indicators given (R107) and the feed frames sent (R44); the new period opens. -/
def State.boundary (order : List Work) (trunks : Vector Frame 4) (s : State) : State :=
  let t := ((State.boundaryWork order s s.closePeriod).judgeDucks s).placeTrunks trunks
  (t.measureAll.giveLeds s).sendFeeds.openPeriod

/-- MIX_PERIOD_BOUNDARY (R1). The boundaries begin at the end of a reset (R187). -/
def execMixPeriodBoundary (order : List Work) (trunks : Vector Frame 4) (s : State) :
    Host.Outcome State Fault Refusal :=
  .next (unlessInReset (State.boundary order trunks) s)

end Sys2Proof.Machine
end

