-- ==== Sys2Proof/Machine/ControlLink.lean ====
section
/-! DEFINITION. The control link (Chapter 11): the frame receiver, the taking of a request from its bytes, report
categories; CONTROL_BYTE_RECEIVED, FRAMING_ERROR, BAD_FRAME_LENGTH, BAD_CHECK_FRAME, GAP_TIMER_EXPIRY, MESSAGE_SENT,
UNKNOWN_REQUEST and SET_REPORTS. -/

namespace Sys2Proof.Machine

/-! ### SET_REPORTS (R198) -/

def State.setMask (mask : Byte) (s : State) : State := { s with control := { s.control with mask := mask } }

/-- R198. -/
def judgeSetReports (mask : Byte) (s : State) : Verdict :=
  if setOf 7 mask then { status := .ok, fields := [s.control.mask, mask], effect := State.setMask mask }
  else .refuse .badValue

def serveSetReports (tag mask : Byte) (s : State) : State := takeRequest 0x07 tag 1 (judgeSetReports mask) s

/-- SET_REPORTS (R198). -/
def execSetReports (tag mask : Byte) (s : State) : Host.Outcome State Fault Refusal := .next (serveSetReports tag mask s)

/-! ### Taking a request (R193) -/

/-- R193: a decoded request passes to the block that owns it. -/
def serve (i : Instr) (s : State) : State :=
  match i with
  | .reset tag => serveReset tag s
  | .start tag => serveStart tag s
  | .stop tag => serveStop tag s
  | .setRoster tag pods chairs trunks => serveSetRoster tag pods chairs trunks s
  | .getRoster tag => serveGetRoster tag s
  | .getStatus tag => serveGetStatus tag s
  | .setReports tag mask => serveSetReports tag mask s
  | .setLinkParams tag lockCount settleFrames unlockCount window => serveSetLinkParams tag lockCount settleFrames unlockCount window s
  | .getLinks tag first count clear => serveGetLinks tag first count clear s
  | .getLevels tag first count => serveGetLevels tag first count s
  | .getOutputLevels tag first count => serveGetOutputLevels tag first count s
  | .setAutomix tag limit margin gateFloor openCount holdFrames attack release offAttenuation lastMicHold => serveSetAutomix tag limit margin gateFloor openCount holdFrames attack release offAttenuation lastMicHold s
  | .setGate tag channel mode priority => serveSetGate tag channel mode priority s
  | .getGates tag => serveGetGates tag s
  | .setMute tag channel host => serveSetMute tag channel host s
  | .clearReasons tag channel reasons => serveClearReasons tag channel reasons s
  | .setPrivacy tag value => serveSetPrivacy tag value s
  | .setChairMute tag value => serveSetChairMute tag value s
  | .setKeyMode tag channel mode => serveSetKeyMode tag channel mode s
  | .setKeyGuard tag guard => serveSetKeyGuard tag guard s
  | .setMuteRamp tag length => serveSetMuteRamp tag length s
  | .getMutes tag => serveGetMutes tag s
  | .getRequests tag => serveGetRequests tag s
  | .setAlc tag enable target interval shift slew jumpLimit autoJump postCount toggleFilter => serveSetAlc tag enable target interval shift slew jumpLimit autoJump postCount toggleFilter s
  | .holdAlc tag channel action => serveHoldAlc tag channel action s
  | .getAlc tag => serveGetAlc tag s
  | .setZone tag pod zone => serveSetZone tag pod zone s
  | .setDuck tag depth => serveSetDuck tag depth s
  | .setFader tag channel fader => serveSetFader tag channel fader s
  | .setVolume tag pod volume => serveSetVolume tag pod volume s
  | .setSendGain tag channel gain => serveSetSendGain tag channel gain s
  | .setRecord tag bus flags gain => serveSetRecord tag bus flags gain s
  | .getFeeds tag => serveGetFeeds tag s
  | .clipBegin tag clip length => serveClipBegin tag clip length s
  | .clipData tag clip offset samples => serveClipData tag clip offset samples s
  | .clipEnd tag clip => serveClipEnd tag clip s
  | .clipDelete tag clip => serveClipDelete tag clip s
  | .getClips tag first count => serveGetClips tag first count s
  | .cue tag player routing options segments => serveCue tag player routing options segments s
  | .go tag player => serveGo tag player s
  | .pause tag player => servePause tag player s
  | .resume tag player => serveResume tag player s
  | .abort tag player => serveAbort tag player s
  | .getPlayer tag player => serveGetPlayer tag player s
  | .mixPeriodBoundary _ _ | .micFrameArrival _ _ _ | .lockCount _ _ | .settleDone _ | .silence _ | .unlock _
  | .restart _ _ | .openCountReached _ | .holdExpiry _ | .waitTimeout _ | .noiseFloorRise _ | .intervalEnd
  | .segmentEnd _ _ | .masterRampArrival | .playerRampArrival _ | .badCheckFrame _ _ | .framingError _
  | .badFrameLength _ | .gapTimerExpiry | .messageSent | .unknownRequest _ _ _ | .powerOn _ | .resetPin | .softReset
  | .resetEnd | .controlByteReceived _ => s

/-- R194: the answer to a type that does not exist. -/
def judgeUnknownType (_ : State) : Verdict := .refuse .unknownType

/-- R193, R203: the answer to a payload length that does not fit the type. A CLIP_DATA that names a clip gives the
clip's state and loaded count. -/
def judgeBadLength (type : Byte) (payload : List Byte) (s : State) : Verdict :=
  if type = 0x41 then
    match payload.head?.bind clipOf with
    | some c => .answer .badLength (s.store.clips[c]).progressFields
    | none => .refuse .badLength
  else .refuse .badLength

/-- R193: a correct frame of the type, tag and payload given is taken. -/
def State.takeFrame (type tag : Byte) (payload : List Byte) (s : State) : State :=
  match decodeRequest type tag payload with
  | .unknownType => takeRequest type tag payload.length judgeUnknownType s
  | .badLength => takeRequest type tag payload.length (judgeBadLength type payload) s
  | .request i => serve i s

/-- UNKNOWN_REQUEST (R193, R194): a correct frame of a type that section 11.6 does not define; for a defined type the
event does not occur (log entry 8). -/
def execUnknownRequest (type tag : Byte) (payload : List Byte) (s : State) : Host.Outcome State Fault Refusal :=
  .next (if type ∈ requestTypes then s else takeRequest type tag payload.length judgeUnknownType s)

/-! ### The receiver (R190 to R192) -/

def State.setReceiver (r : Receiver) (s : State) : State := { s with control := { s.control with receiver := r } }

/-- The type of a frame from its body bytes, or 0 where it has not been received (R199). -/
def bodyType (body : List Byte) : Byte := body.getD 0 0

/-- The tag of a frame from its body bytes, or 0 where it has not been received (R199). -/
def bodyTag (body : List Byte) : Byte := body.getD 1 0

/-- R191: a frame is judged; `sum` is the sum of its length byte, its body and its check byte. The receiver returns to
HUNT. -/
def State.judgeFrame (body : List Byte) (sum : Byte) (s : State) : State :=
  if sum = 0 then s.hunt.takeFrame (bodyType body) (bodyTag body) (body.drop 2)
  else s.hunt.controlError .check (body.length + 2) (bodyType body) (bodyTag body)

/-- R190: the values of N. -/
def lengthAllowed (b : Byte) : Bool := decide (2 ≤ b.toNat ∧ b.toNat ≤ 242)

/-- R190: the receiver has found a start byte. -/
def Receiver.started : Receiver := { state := .length, length := 0, body := [], sum := 0, gapTimer := true }

/-- R190: the receiver has taken a length byte. -/
def Receiver.withLength (b : Byte) (r : Receiver) : Receiver :=
  { state := .body, length := b.toNat, body := [], sum := r.sum + b, gapTimer := true }

/-- R190: the receiver stores a body byte. -/
def Receiver.store (b : Byte) (r : Receiver) : Receiver :=
  { state := if r.length ≤ r.body.length + 1 then .check else .body, length := r.length, body := r.body ++ [b],
    sum := r.sum + b, gapTimer := true }

/-- R190: a byte without a framing error. -/
def State.receiveByte (b : Byte) (s : State) : State :=
  let r := s.control.receiver
  match r.state with
  | .hunt => if b = 0xC3 then s.setReceiver Receiver.started else s
  | .length => if lengthAllowed b then s.setReceiver (r.withLength b) else s.hunt
  | .body => s.setReceiver (r.store b)
  | .check => s.judgeFrame r.body (r.sum + b)

/-- R186, R192: the receive line is heard only while no reset is being carried out or awaited. -/
def whileListening (f : State → State) (s : State) : State := if s.session.phase = .running then f s else s

/-- CONTROL_BYTE_RECEIVED (R190). -/
def execControlByteReceived (byte : Byte) (s : State) : Host.Outcome State Fault Refusal :=
  .next (whileListening (State.receiveByte byte) s)

/-- R199: the number of bytes of the frame in progress received after the start byte. -/
def Receiver.received (r : Receiver) : Nat :=
  match r.state with
  | .hunt | .length => 0
  | .body | .check => r.body.length + 1

/-- R190, R199: a byte with a framing error inside a frame. Its stop bit has been sampled, so by R189 it is received: it
counts, and its value stands as the type or tag where it is that byte. -/
def State.framingError (byte : Byte) (s : State) : State :=
  let r := s.control.receiver
  match r.state with
  | .hunt => s
  | .length => s.hunt.controlError .framing 1 0 0
  | .body =>
    s.hunt.controlError .framing (r.body.length + 2) (bodyType (r.body ++ [byte])) (bodyTag (r.body ++ [byte]))
  | .check =>
    s.hunt.controlError .framing (r.body.length + 2) (bodyType r.body) (bodyTag r.body)

/-- FRAMING_ERROR (R190, R199). -/
def execFramingError (byte : Byte) (s : State) : Host.Outcome State Fault Refusal :=
  .next (whileListening (State.framingError byte) s)

/-- BAD_FRAME_LENGTH (R190, R199): a length byte outside 2..242 abandons the frame without a report. In another state
of the receiver, or with a value of 2..242, the event does not occur (log entry 8). -/
def execBadFrameLength (byte : Byte) (s : State) : Host.Outcome State Fault Refusal :=
  .next (whileListening
    (fun s => if s.control.receiver.state = .length ∧ ¬ lengthAllowed byte then s.hunt else s) s)

/-- The sum of a frame of the body and check given (R191). -/
def frameSum (body : List Byte) (check : Byte) : Byte := sumBytes (u8 body.length :: body) + check

/-- BAD_CHECK_FRAME (R191, R199): the check byte of a complete frame arrives and its sum is not 0. With a sum of 0, or
with a body of no possible length, the event does not occur (log entry 8). -/
def execBadCheckFrame (body : List Byte) (check : Byte) (s : State) : Host.Outcome State Fault Refusal :=
  .next (whileListening
    (fun s =>
      if 2 ≤ body.length ∧ body.length ≤ 242 ∧ frameSum body check ≠ 0 then s.judgeFrame body (frameSum body check)
      else s) s)

/-- GAP_TIMER_EXPIRY (R192): the timer runs in LENGTH, BODY and CHECK alone. -/
def execGapTimerExpiry (s : State) : Host.Outcome State Fault Refusal :=
  .next (whileListening
    (fun s =>
      let r := s.control.receiver
      match r.state with
      | .hunt => s
      | .length => s.hunt.controlError .gap r.received 0 0
      | .body | .check => s.hunt.controlError .gap r.received (bodyType r.body) (bodyTag r.body)) s)

/-! ### The transmitter (R196) -/

/-- R196: the message on the line has been sent. -/
def State.dropSent (s : State) : State := { s with control := { s.control with queue := s.control.queue.drop 1 } }

/-- MESSAGE_SENT (R196): the last byte of the first message has left the line, which is the moment of the SOFT reset
where that message is the awaited RESET answer (R186). -/
def execMessageSent (s : State) : Host.Outcome State Fault Refusal :=
  .next (unlessInReset (fun s => if s.softResetDue then s.takeSoftReset else s.dropSent) s)

end Sys2Proof.Machine
end

