-- ==== Sys2Proof/Machine/Dispatch.lean ====
section
/-! DEFINITION. exec: one arm per command, each one direct call of its meaning. -/

namespace Sys2Proof.Machine

def exec (i : Instr) (s : State) : Host.Outcome State Fault Refusal :=
  match i with
  | .mixPeriodBoundary order trunks => Sys2Proof.Machine.execMixPeriodBoundary order trunks s
  | .micFrameArrival pod candidate stopBitsOk => Sys2Proof.Machine.execMicFrameArrival pod candidate stopBitsOk s
  | .lockCount pod frame => Sys2Proof.Machine.execLockCount pod frame s
  | .settleDone pod => Sys2Proof.Machine.execSettleDone pod s
  | .silence pod => Sys2Proof.Machine.execSilence pod s
  | .unlock pod => Sys2Proof.Machine.execUnlock pod s
  | .restart pod frame => Sys2Proof.Machine.execRestart pod frame s
  | .openCountReached pod => Sys2Proof.Machine.execOpenCountReached pod s
  | .holdExpiry pod => Sys2Proof.Machine.execHoldExpiry pod s
  | .waitTimeout pod => Sys2Proof.Machine.execWaitTimeout pod s
  | .noiseFloorRise channel => Sys2Proof.Machine.execNoiseFloorRise channel s
  | .intervalEnd => Sys2Proof.Machine.execIntervalEnd s
  | .segmentEnd player position => Sys2Proof.Machine.execSegmentEnd player position s
  | .masterRampArrival => Sys2Proof.Machine.execMasterRampArrival s
  | .playerRampArrival player => Sys2Proof.Machine.execPlayerRampArrival player s
  | .badCheckFrame body check => Sys2Proof.Machine.execBadCheckFrame body check s
  | .framingError byte => Sys2Proof.Machine.execFramingError byte s
  | .badFrameLength byte => Sys2Proof.Machine.execBadFrameLength byte s
  | .gapTimerExpiry => Sys2Proof.Machine.execGapTimerExpiry s
  | .messageSent => Sys2Proof.Machine.execMessageSent s
  | .unknownRequest type tag payload => Sys2Proof.Machine.execUnknownRequest type tag payload s
  | .powerOn pinHeld => Sys2Proof.Machine.execPowerOn pinHeld s
  | .resetPin => Sys2Proof.Machine.execResetPin s
  | .softReset => Sys2Proof.Machine.execSoftReset s
  | .resetEnd => Sys2Proof.Machine.execResetEnd s
  | .reset tag => Sys2Proof.Machine.execReset tag s
  | .start tag => Sys2Proof.Machine.execStart tag s
  | .stop tag => Sys2Proof.Machine.execStop tag s
  | .setRoster tag pods chairs trunks => Sys2Proof.Machine.execSetRoster tag pods chairs trunks s
  | .getRoster tag => Sys2Proof.Machine.execGetRoster tag s
  | .getStatus tag => Sys2Proof.Machine.execGetStatus tag s
  | .setReports tag mask => Sys2Proof.Machine.execSetReports tag mask s
  | .setLinkParams tag lockCount settleFrames unlockCount window => Sys2Proof.Machine.execSetLinkParams tag lockCount settleFrames unlockCount window s
  | .getLinks tag first count clear => Sys2Proof.Machine.execGetLinks tag first count clear s
  | .getLevels tag first count => Sys2Proof.Machine.execGetLevels tag first count s
  | .getOutputLevels tag first count => Sys2Proof.Machine.execGetOutputLevels tag first count s
  | .setAutomix tag limit margin gateFloor openCount holdFrames attack release offAttenuation lastMicHold => Sys2Proof.Machine.execSetAutomix tag limit margin gateFloor openCount holdFrames attack release offAttenuation lastMicHold s
  | .setGate tag channel mode priority => Sys2Proof.Machine.execSetGate tag channel mode priority s
  | .getGates tag => Sys2Proof.Machine.execGetGates tag s
  | .setMute tag channel host => Sys2Proof.Machine.execSetMute tag channel host s
  | .clearReasons tag channel reasons => Sys2Proof.Machine.execClearReasons tag channel reasons s
  | .setPrivacy tag value => Sys2Proof.Machine.execSetPrivacy tag value s
  | .setChairMute tag value => Sys2Proof.Machine.execSetChairMute tag value s
  | .setKeyMode tag channel mode => Sys2Proof.Machine.execSetKeyMode tag channel mode s
  | .setKeyGuard tag guard => Sys2Proof.Machine.execSetKeyGuard tag guard s
  | .setMuteRamp tag length => Sys2Proof.Machine.execSetMuteRamp tag length s
  | .getMutes tag => Sys2Proof.Machine.execGetMutes tag s
  | .getRequests tag => Sys2Proof.Machine.execGetRequests tag s
  | .setAlc tag enable target interval shift slew jumpLimit autoJump postCount toggleFilter => Sys2Proof.Machine.execSetAlc tag enable target interval shift slew jumpLimit autoJump postCount toggleFilter s
  | .holdAlc tag channel action => Sys2Proof.Machine.execHoldAlc tag channel action s
  | .getAlc tag => Sys2Proof.Machine.execGetAlc tag s
  | .setZone tag pod zone => Sys2Proof.Machine.execSetZone tag pod zone s
  | .setDuck tag depth => Sys2Proof.Machine.execSetDuck tag depth s
  | .setFader tag channel fader => Sys2Proof.Machine.execSetFader tag channel fader s
  | .setVolume tag pod volume => Sys2Proof.Machine.execSetVolume tag pod volume s
  | .setSendGain tag channel gain => Sys2Proof.Machine.execSetSendGain tag channel gain s
  | .setRecord tag bus flags gain => Sys2Proof.Machine.execSetRecord tag bus flags gain s
  | .getFeeds tag => Sys2Proof.Machine.execGetFeeds tag s
  | .clipBegin tag clip length => Sys2Proof.Machine.execClipBegin tag clip length s
  | .clipData tag clip offset samples => Sys2Proof.Machine.execClipData tag clip offset samples s
  | .clipEnd tag clip => Sys2Proof.Machine.execClipEnd tag clip s
  | .clipDelete tag clip => Sys2Proof.Machine.execClipDelete tag clip s
  | .getClips tag first count => Sys2Proof.Machine.execGetClips tag first count s
  | .cue tag player routing options segments => Sys2Proof.Machine.execCue tag player routing options segments s
  | .go tag player => Sys2Proof.Machine.execGo tag player s
  | .pause tag player => Sys2Proof.Machine.execPause tag player s
  | .resume tag player => Sys2Proof.Machine.execResume tag player s
  | .abort tag player => Sys2Proof.Machine.execAbort tag player s
  | .getPlayer tag player => Sys2Proof.Machine.execGetPlayer tag player s
  | .controlByteReceived byte => Sys2Proof.Machine.execControlByteReceived byte s

end Sys2Proof.Machine
end

