-- ==== Sys2Proof/Safety.lean ====
section
/-! DEFINITION. What every state of the part keeps: the bounds and relations that the rules promise of its registers,
queues, lists, clip store and players, each as a decidable property of one state; and the words that the statements
about single commands use. -/

namespace Sys2Proof.Machine

/-! ### Ramps (R21, R23) -/

/-- R21, R23: value, target and what is pending lie in 0..32768. -/
abbrev Ramp.Bounded (r : Ramp) : Prop :=
  r.value ≤ fullScale ∧ r.target ≤ fullScale ∧ r.ended ≤ fullScale ∧
    (r.pendingTarget.map Prod.fst).getD 0 ≤ fullScale ∧ r.pendingJump.getD 0 ≤ fullScale

/-- Every ramp of the part is bounded. -/
abbrev RampsBounded (s : State) : Prop :=
  (∀ p : Pod, (s.ramps.gate[p]).Bounded ∧ (s.ramps.localMute[p]).Bounded ∧ (s.ramps.privacy[p]).Bounded ∧
    (s.ramps.duck[p]).Bounded) ∧
  (∀ k : Trunk, (s.ramps.trunkMute[k]).Bounded) ∧ (∀ n : Player, (s.ramps.player[n]).Bounded) ∧ s.ramps.master.Bounded

/-! ### Queues and lists -/

/-- R196: at most 8 answers and at most 32 reports. -/
abbrev QueueBounded (s : State) : Prop := answerCount s.control.queue ≤ 8 ∧ reportCount s.control.queue ≤ 32

/-- R38, R27: a FIFO holds 0 to 4 frames, and the two counters stay within two bytes. -/
abbrev LinksBounded (s : State) : Prop :=
  ∀ p : Pod, (s.links[p]).fifo.length ≤ 4 ∧ (s.links[p]).badFrames ≤ 65535 ∧ (s.links[p]).slips ≤ 65535

/-- R100: the talk-request list holds at most 22 entries, each channel at most once, and only channels that carry
CHAIR. -/
abbrev TalkListSound (s : State) : Prop :=
  s.mutes.talkList.length ≤ 22 ∧ s.mutes.talkList.Nodup ∧ ∀ p ∈ s.mutes.talkList, (s.mutes.reasons[p]).chair = true

/-! ### Levels and gains -/

/-- R53: S, N and L of a channel lie in -120..0, and the rise counter in 0..63. -/
abbrev Detector.Bounded (d : Detector) : Prop :=
  (-120 ≤ d.smoothed ∧ d.smoothed ≤ 0) ∧ (-120 ≤ d.noiseFloor ∧ d.noiseFloor ≤ 0) ∧
    (-120 ≤ d.frameLevel.getD 0 ∧ d.frameLevel.getD 0 ≤ 0) ∧ d.riseCounter ≤ 63

/-- Every channel's levels are bounded. -/
abbrev LevelsBounded (s : State) : Prop := ∀ c : Channel, (s.detectors[c]).Bounded

/-- R113: the ALC gain lies in -24..+36 and the applied history holds at most two signs. -/
abbrev AlcBounded (s : State) : Prop :=
  ∀ p : Pod, -24 ≤ (s.alc.records[p]).gain ∧ (s.alc.records[p]).gain ≤ 36 ∧ (s.alc.records[p]).history.length ≤ 2

/-- R132, R137 to R140: the ranges of the router's settings that the mix engine reads. -/
abbrev Feeds.Bounded (f : Feeds) : Prop :=
  (∀ p : Pod, f.zone[p] ≤ 8 ∧ (-120 ≤ f.podFader[p] ∧ f.podFader[p] ≤ 24) ∧ -120 ≤ f.volume[p] ∧ f.volume[p] ≤ 0) ∧
  (∀ k : Trunk, (-120 ≤ f.trunkFader[k] ∧ f.trunkFader[k] ≤ 24) ∧ -120 ≤ f.sendGain[k] ∧ f.sendGain[k] ≤ 0) ∧
  ∀ b : RecordBus, -120 ≤ (f.record[b]).gain ∧ (f.record[b]).gain ≤ 0

/-- R11, R136, R161: the router's settings, as last set and as in force, the duck depth and every segment gain lie in
their ranges. -/
abbrev GainsBounded (s : State) : Prop :=
  s.router.feeds.Bounded ∧ (∀ v ∈ s.inForce, v.feeds.Bounded) ∧ (-40 ≤ s.router.duckDepth ∧ s.router.duckDepth ≤ 0) ∧
  ∀ n : Player, (∀ g ∈ (s.player n).cue, -120 ≤ g.gain ∧ g.gain ≤ 0) ∧
    ∀ i : Fin 16, -120 ≤ ((s.inputs.players[n])[i]).gain ∧ ((s.inputs.players[n])[i]).gain ≤ 0

/-- R176: while the mixer is STOPPED the master ramp is at rest at 0, with nothing pending. -/
abbrev StoppedAtZero (s : State) : Prop :=
  s.session.mixer = .stopped → s.ramps.master.value = 0 ∧ s.ramps.master.target = 0 ∧
    s.ramps.master.pendingTarget = none ∧ s.ramps.master.pendingJump = none

/-! ### Gates, mutes and links -/

/-- R73, R62, R72, R69: a channel with a local reason is CLOSED or BYPASS; the wait queue holds exactly the WAITING
channels, each once; the holders do not exceed the limit in force, which lies in 1..8. -/
abbrev GatesSound (s : State) : Prop :=
  (∀ p : Pod, (s.mutes.reasons[p]).muted = true → (s.gate p).state = .closed ∨ (s.gate p).state = .bypass) ∧
  s.automixer.waitQueue.Nodup ∧ (∀ p : Pod, p ∈ s.automixer.waitQueue ↔ (s.gate p).state = .waiting) ∧
  s.automixer.collected.Nodup ∧ s.holders.length ≤ s.automixer.limit ∧
  (1 ≤ s.automixer.limit ∧ s.automixer.limit ≤ 8) ∧
  (1 ≤ s.automixer.pendingLimit.getD 1 ∧ s.automixer.pendingLimit.getD 1 ≤ 8)

/-- R42, R89, R29, R35: a pod carries FAULT exactly while its link is in neither LOCKED nor COASTING, and its link is OFF
exactly while the pod is not in the roster. -/
abbrev FaultSound (s : State) : Prop :=
  ∀ p : Pod, (s.mutes.reasons[p]).fault = !(s.links[p]).state.trusted ∧
    ((s.links[p]).state = .off ↔ s.session.roster.pods[p] = false)

/-! ### The clip store -/

/-- R145: what the fields of a clip record hold in each of its states. -/
abbrev Clip.Sound (k : Clip) : Prop :=
  (k.state = .empty → k = Clip.blank) ∧
  (k.state ≠ .empty → (1 ≤ k.declared ∧ k.declared ≤ 131072) ∧ k.loaded ≤ k.declared ∧
    k.pages.length = pagesFor k.declared) ∧
  (k.state = .ready ∨ k.state = .damaged → k.loaded = k.declared) ∧
  (k.faultPage.isSome = true ↔ k.state = .damaged)

/-- The pages of every clip, in the order of the ids. -/
def ClipStore.heldPages (st : ClipStore) : List PageNumber := st.clips.toList.flatMap Clip.pages

/-- R144: each of the 512 pages is either free or in the page list of exactly one clip; the free set is in ascending
order; the LOADING clip is the one clip in LOADING. -/
abbrev PagesSound (s : State) : Prop :=
  s.store.free.Pairwise (· < ·) ∧ (s.store.free ++ s.store.heldPages).Nodup ∧
  (s.store.free ++ s.store.heldPages).length = 512 ∧ (∀ c : ClipId, (s.store.clips[c]).Sound) ∧
  ∀ c : ClipId, (s.store.clips[c]).state = .loading ↔ s.store.loading = some c

/-- The segments of the two cue lists that name a clip. -/
def State.namedBy (s : State) (c : ClipId) : Nat :=
  ((s.players.toList.flatMap PlayerRecord.cue).filter fun g => g.clip == c).length

/-- R152: a clip's reference count equals the number of segments naming it, a clip with a non-zero count is READY or
DAMAGED, and an IDLE player's cue list is empty. -/
abbrev ReferencesSound (s : State) : Prop :=
  (∀ c : ClipId, (s.store.clips[c]).references = s.namedBy c ∧
    ((s.store.clips[c]).references ≠ 0 → (s.store.clips[c]).state = .ready ∨ (s.store.clips[c]).state = .damaged)) ∧
  ∀ n : Player, (s.player n).state = .idle → (s.player n).cue = []

/-- The canonical form of the memory. -/
abbrev MemoryCanonical (s : State) : Prop := Memory.wf s.store.memory = true

/-! ### Players -/

/-- R160: END is the next action of the last segment and of no other. -/
abbrev endsOnce (l : List Segment) : Prop := ∀ i : Fin l.length, l[i].nextAction = .stop ↔ i.1 + 1 = l.length

/-- R158: the fields of a player record in each of its states. -/
abbrev PlayerRecord.Sound (r : PlayerRecord) : Prop :=
  (r.state = .idle ↔ r.cue = []) ∧ r.cue.length ≤ 8 ∧ endsOnce r.cue ∧ (r.cue ≠ [] → r.current < r.cue.length) ∧
  (r.state = .idle ∨ r.state = .cued → r.advancing = false) ∧ (r.state = .playing → r.advancing = true) ∧
  (r.abortReason.isSome = true ↔ r.state = .aborting)

/-- Both player records. -/
abbrev PlayersSound (s : State) : Prop := ∀ n : Player, (s.player n).Sound

/-! ### Words of the statements about a boundary -/

/-- At the boundary the link of pod `p` makes no change of state that it hands on (R42, R43), and a frame that it takes is
not the first of its lock. -/
abbrev State.steadyAt (s : State) (p : Pod) : Prop :=
  let l := s.links[p]
  (l.state = .off ∨ l.state = .absent) ∨
  (l.state = .acquiring ∧ (if l.arrivalSeen then 0 else l.silenceRun + 1) < s.linkParams.unlockCount) ∨
  (l.state = .settling ∧ l.fifo ≠ [] ∧ l.firstTake = false ∧ l.settleCounter + 1 < s.linkParams.settleFrames) ∨
  (l.state.trusted = true ∧ l.fifo ≠ [] ∧ l.firstTake = false) ∨
  (l.state.trusted = true ∧ l.fifo = [] ∧
    (if l.state = .coasting then l.coastRun + 1 else 1) < s.linkParams.unlockCount)

/-- R39: the TALK and ALL levels that the boundary's take of pod `p` hands over, if it takes a frame. -/
def State.handedKeys (s : State) (p : Pod) : Option (Bool × Bool) :=
  if (s.links[p]).state.takes then (s.links[p]).fifo.head?.map fun f => (f.talk, f.all) else none

/-- At the boundary no link changes state and no key changes its level. -/
abbrev State.quiet (s : State) : Prop :=
  ∀ p : Pod, s.steadyAt p ∧
    ∀ levels ∈ s.handedKeys p, levels = ((s.mutes.talkKey[p]).pressed, (s.mutes.allKey[p]).pressed)

/-- What a boundary makes of a ramp before new targets are set: the 16 moves of the period ended, if one was in progress,
and the arrival received (R1, R23, R25). -/
def Ramp.passed (inPeriod : Bool) (r : Ramp) : Ramp :=
  (if inPeriod then { Ramp.move^[16] r with ended := (Ramp.move^[16] r).value } else r).clearArrival

/-! ### Words of the statements about mutes and gate ramps -/

/-- R92, R94, R95: KEY after the accepted TALK level has become `pressed` without an edge: in PUSH_TO_TALK present while
the key is released, in PUSH_TO_MUTE while it is pressed, in TOGGLE as it was. -/
def KeyMode.keyAfter (mode : KeyMode) (old pressed : Bool) : Bool :=
  match mode with
  | .toggle => old
  | .pushToTalk => !pressed
  | .pushToMute => pressed

/-- R87: a local mute ramp after its channel's reason set went from `before` to `after`, with the mute ramp length: a target
is set where the channel becomes muted or ceases to be. -/
def Ramp.muteChange (length : Nat) (before after : Reasons) (r : Ramp) : Ramp :=
  if before.muted = after.muted then r else r.setTarget (if after.muted then 0 else 32768) length

/-- R78: a gate ramp after the target that the gate state calls for has been set, without FAULT. -/
def Ramp.calledFor (q : AutomixParams) (state : GateState) (r : Ramp) : Ramp :=
  match state with
  | .opened | .hold | .bypass => r.setTarget 32768 q.attack
  | .closed | .pending | .waiting => r.setTarget (lin15 q.offAttenuation) q.release

/-! ### Words of the statements about single commands -/

/-- R193: a request is taken and executed: no reset is carried out or awaited, and fewer than 8 answers are queued. -/
abbrev State.takes (s : State) : Prop := s.session.phase = .running ∧ answerCount s.control.queue < 8

/-- No reset is being carried out. -/
abbrev State.outOfReset (s : State) : Prop := s.session.phase = .running ∨ s.session.phase = .awaitingSoft

/-- The state with an answer of the type, tag and payload given queued last, and the receiver in HUNT, where
its length and sum are 0 (log entry 26). -/
def State.answered (type tag : Byte) (payload : List Byte) (s : State) : State :=
  { s with control := { s.control with
      receiver := { state := .hunt, length := 0, body := [], sum := 0, gapTimer := false }
      queue := s.control.queue ++ [{ isReport := false, type := type, tag := tag, payload := payload }] } }

/-- The report of the type and fields given, with the flags byte that it would carry now, its bits 7 to 1 being 0 (log
entry 27). -/
def State.reportNow (type : Byte) (fields : List Byte) (s : State) : Message :=
  { isReport := true, type := type, tag := 0, payload := (if s.control.lost then 1 else 0) :: fields }

/-- R152, R172: the clip store with every clip's reference count lowered by the number of segments of a cue list that
name it. -/
def State.storeReleasing (cue : List Segment) (s : State) : ClipStore :=
  { s.store with
    clips := Vec.tab fun c =>
      { s.store.clips[c] with
        references := (s.store.clips[c]).references - (cue.filter fun g => g.clip == c).length } }

/-- The ramps after `n` moves of each (R23). -/
def movesOf : Nat → Ramps → Ramps
  | 0, r => r
  | n + 1, r => movesOf n (r.map Ramp.move)

/-- The state after the control link has received the bytes given, one after another. -/
def receiveAll : List Byte → State → State
  | [], s => s
  | b :: rest, s =>
    match exec (.controlByteReceived b) s with
    | .next t => receiveAll rest t
    | .fault _ | .refused _ => s

/-- R26: a ramp at rest at `v` after a reset. -/
abbrev Ramp.restsAt (v : Nat) (r : Ramp) : Prop :=
  r.value = v ∧ r.target = v ∧ r.step = none ∧ r.arrivalPending = false ∧ r.pendingTarget = none ∧ r.pendingJump = none

end Sys2Proof.Machine
end

