-- ==== Sys2Proof/WellFormed.lean ====
section
/-! DEFINITION. Which commands can be sent: a request's payload fits its frame (R201, R203), and the commands that
stand for a rejected frame carry one. -/

namespace Sys2Proof

/-- A command that can occur.
- A SET_ROSTER, CLIP_DATA or CUE holds no more list entries than a payload of 240 bytes holds, and a CLIP_DATA at
  least one sample (R193, R203).
- UNKNOWN_REQUEST carries a type that section 11.6 does not list, and a payload of at most 240 bytes (R193).
- BAD_CHECK_FRAME carries 2 to 242 bytes and a check byte with which the sum is not 0 (R191).
- BAD_FRAME_LENGTH carries a byte outside 2..242 (R190). -/
def Instr.wellFormed : Instr → Bool
  | .setRoster _ pods chairs trunks => decide (3 + pods.length + chairs.length + trunks.length ≤ 240)
  | .clipData _ _ _ samples => decide (1 ≤ samples.length ∧ 4 + 2 * samples.length ≤ 240)
  | .cue _ _ _ _ segments => decide (3 + 10 * segments.length ≤ 240)
  | .unknownRequest type _ payload => decide (type ∉ requestTypes ∧ payload.length ≤ 240)
  | .badCheckFrame body check =>
    decide (2 ≤ body.length ∧ body.length ≤ 242 ∧ sumBytes (u8 body.length :: body ++ [check]) ≠ 0)
  | .badFrameLength b => decide (b.toNat < 2 ∨ 242 < b.toNat)
  | .mixPeriodBoundary _ _ | .micFrameArrival _ _ _ | .lockCount _ _ | .settleDone _ | .silence _ | .unlock _
  | .restart _ _ | .openCountReached _ | .holdExpiry _ | .waitTimeout _ | .noiseFloorRise _ | .intervalEnd
  | .segmentEnd _ _ | .masterRampArrival | .playerRampArrival _ | .framingError _ | .gapTimerExpiry | .messageSent
  | .powerOn _ | .resetPin | .softReset | .resetEnd | .reset _ | .start _ | .stop _ | .getRoster _ | .getStatus _
  | .setReports _ _ | .setLinkParams _ _ _ _ _ | .getLinks _ _ _ _ | .getLevels _ _ _ | .getOutputLevels _ _ _
  | .setAutomix _ _ _ _ _ _ _ _ _ _ | .setGate _ _ _ _ | .getGates _ | .setMute _ _ _ | .clearReasons _ _ _
  | .setPrivacy _ _ | .setChairMute _ _ | .setKeyMode _ _ _ | .setKeyGuard _ _ | .setMuteRamp _ _ | .getMutes _
  | .getRequests _ | .setAlc _ _ _ _ _ _ _ _ _ _ | .holdAlc _ _ _ | .getAlc _ | .setZone _ _ _ | .setDuck _ _
  | .setFader _ _ _ | .setVolume _ _ _ | .setSendGain _ _ _ | .setRecord _ _ _ _ | .getFeeds _ | .clipBegin _ _ _
  | .clipEnd _ _ | .clipDelete _ _ | .getClips _ _ _ | .go _ _ | .pause _ _ | .resume _ _ | .abort _ _
  | .getPlayer _ _ | .controlByteReceived _ => true

end Sys2Proof
end

