-- ==== Sys2Proof/Certificates/Slice0/Obligations.lean ====
section
/-! DEFINITION. The statements for the provers. A report is posted with State.post and State.postAlways, whose effect
MessagesAreQueuedAndSent states; a request that is taken leaves State.answered, the state with its answer queued. That the
length and the sum of a receiver in HUNT are 0, that bits 7 to 1 of a report's flags byte are 0, and that a set is sent with 0
beyond its members, are the model's choices wherever a statement says them (log entries 26 and 27). -/

section

open Sys2Proof Sys2Proof.Machine

/-! ### The queue of commands, resets and what reset leaves -/

/-- The model's queue (log entry 2): a step takes the command at the front and executes it on the rest; on an empty queue
the part idles. -/
def Obligations.StepTakesTheFrontCommand : Prop :=
  (∀ (c : Instr) (s : State), step { s with pending := c :: s.pending } = exec c s) ∧
  ∀ s : State, s.pending = [] → step s = .next s

/-- No command stops the part, and none touches the commands that wait (log entry 2). -/
def Obligations.EveryCommandCompletes : Prop :=
  ∀ (c : Instr) (s : State), ∃ t : State, exec c s = .next t ∧ t.pending = s.pending

/-- R26, R48, R61, R85, R112, R129, R143, R156, R175, R187, R188, R200: the values that the spec gives for reset, at the
end of a power-on reset, when START_UP alone is queued (log entry 1). That the length and the sum of the receiver are 0, and
bits 7 to 1 of START_UP's flags byte, are the model's choices (log entries 26 and 27). -/
def Obligations.ResetValues : Prop :=
  let s := State.reset
  (∀ p : Pod, (s.ramps.gate[p]).restsAt 0 ∧ (s.ramps.localMute[p]).restsAt 0 ∧ (s.ramps.privacy[p]).restsAt 32768 ∧
    (s.ramps.duck[p]).restsAt 32768) ∧
  (∀ k : Trunk, (s.ramps.trunkMute[k]).restsAt 32768) ∧ (∀ n : Player, (s.ramps.player[n]).restsAt 0) ∧
  s.ramps.master.restsAt 0 ∧
  (∀ p : Pod,
    let l := s.links[p]
    l.state = .off ∧ l.expected = 0 ∧ l.goodCount = 0 ∧ l.silenceRun = 0 ∧ l.arrivalSeen = false ∧ l.settleCounter = 0 ∧
    l.coastRun = 0 ∧ l.restartRun = 0 ∧ l.lastRestart = 0 ∧ l.fifo = [] ∧ l.lastTaken.samples = silentFrame ∧
    l.lastTaken.talk = false ∧ l.lastTaken.all = false ∧ l.firstTake = false ∧ l.badFrames = 0 ∧ l.slips = 0 ∧
    l.feedSequence = 0) ∧
  s.linkParams = { lockCount := 16, settleFrames := 200, unlockCount := 50, window := 2 } ∧
  (∀ c : Channel, (s.detectors[c]).frameLevel = none ∧ (s.detectors[c]).smoothed = -120 ∧ (s.detectors[c]).noiseFloor = 0 ∧
    (s.detectors[c]).riseCounter = 0 ∧ (s.detectors[c]).peak = 0) ∧
  (∀ o : Output, (s.outputMeters[o]).peak = 0 ∧ (s.outputMeters[o]).clip = false) ∧
  (∀ p : Pod, s.gate p = { mode := .auto, priority := 0, state := .closed, count := 0 }) ∧
  s.automixer.waitQueue = [] ∧ s.automixer.limit = 4 ∧ s.automixer.pendingLimit = none ∧
  s.automixer.params = { margin := 20, gateFloor := -90, openCount := 3, holdFrames := 200, attack := 2, release := 50,
                         offAttenuation := -30, lastMicHold := true } ∧
  (∀ p : Pod, s.mutes.reasons[p] = { key := false, host := false, chair := false, fault := true } ∧
    s.mutes.keyMode[p] = .toggle ∧ s.mutes.talkKey[p] = { pressed := false, guardAge := 100 } ∧
    s.mutes.allKey[p] = { pressed := false, guardAge := 100 } ∧ s.mutes.led[p] = .off) ∧
  (∀ k : Trunk, s.mutes.trunkHost[k] = false) ∧ s.mutes.privacy = false ∧ s.mutes.chairMute = false ∧
  s.mutes.talkList = [] ∧ s.mutes.keyGuard = 30 ∧ s.mutes.rampLength = 8 ∧
  (∀ p : Pod, s.alc.records[p] = { gain := 0, held := false, qualifying := 0, levelSum := 0, agreementRun := 0,
                                   lastSign := none, history := [] }) ∧
  s.alc.position = 0 ∧
  s.alc.params = { enable := true, target := -40, interval := 16, shift := 1, slew := 2, jumpLimit := 30,
                   autoJump := true, postCount := 3, toggleFilter := true } ∧
  (∀ p : Pod, s.router.feeds.zone[p] = 0 ∧ s.router.feeds.podFader[p] = 0 ∧ s.router.feeds.volume[p] = 0 ∧
    s.router.duckActive[p] = false) ∧
  (∀ k : Trunk, s.router.feeds.trunkFader[k] = 0 ∧ s.router.feeds.sendGain[k] = 0) ∧ s.router.duckDepth = -12 ∧
  s.router.feeds.record[0] = { room := true, far := true, prompt := true, gain := 0 } ∧
  s.router.feeds.record[1] = { room := true, far := false, prompt := false, gain := 0 } ∧
  (∀ c : ClipId, s.store.clips[c] =
    { state := .empty, declared := 0, loaded := 0, pages := [], references := 0, faultPage := none }) ∧
  s.store.free = List.finRange 512 ∧ s.store.loading = none ∧ (∀ g : PageNumber, s.store.failed[g] = false) ∧
  (∀ n : Player,
    let r := s.player n
    r.state = .idle ∧ r.cue = [] ∧ r.routing = { pod := false, trunk := false, record := false } ∧
    r.haltOnError = false ∧ r.stopOnSpeech = false ∧ r.current = 0 ∧ r.played = 0 ∧ r.nextOffset = 0 ∧
    r.advancing = false ∧ r.abortReason = none) ∧
  s.session.mixer = .stopped ∧ s.session.lastReason = .power ∧ s.session.pinLatch = false ∧
  (∀ p : Pod, s.session.roster.pods[p] = false ∧ s.session.roster.chairs[p] = false) ∧
  (∀ k : Trunk, s.session.roster.trunks[k] = false) ∧
  s.control.receiver = { state := .hunt, length := 0, body := [], sum := 0, gapTimer := false } ∧
  s.control.queue = [{ isReport := true, type := 0xE0, tag := 0, payload := [0, 0, 0, 0x02, 0x00] }] ∧
  s.control.lost = false ∧ s.control.mask = 0x73

/-- The reset state meets every invariant below. -/
def Obligations.ResetSatisfiesEveryInvariant : Prop :=
  RampsBounded State.reset ∧ QueueBounded State.reset ∧ LinksBounded State.reset ∧ TalkListSound State.reset ∧
  LevelsBounded State.reset ∧ AlcBounded State.reset ∧ GatesSound State.reset ∧ FaultSound State.reset ∧
  PagesSound State.reset ∧ ReferencesSound State.reset ∧ MemoryCanonical State.reset ∧ PlayersSound State.reset ∧
  GainsBounded State.reset ∧ StoppedAtZero State.reset

/-- R185, R187, R188: a power-on or pin reset brings every block to its reset state and holds the part; its end queues
START_UP with the reason, no clip kept and 512 free pages. The values of the elements for which the spec gives none are
those of State.reset (log entries 1, 4 to 7 and 26), and bits 7 to 1 of START_UP's flags byte are 0 (log entry 27). -/
def Obligations.HardResetsReachTheResetState : Prop :=
  ∀ (held : Bool) (s : State),
    let reason : StartReason := if held then .pin else .power
    let t : State :=
      { State.reset with
        session := { State.reset.session with phase := .inHardReset, pinLatch := held, lastReason := reason }
        control := { State.reset.control with queue := [] }, pending := s.pending }
    let ended : State :=
      { State.reset with
        session := { State.reset.session with lastReason := reason }
        control := { State.reset.control with
          queue := [{ isReport := true, type := 0xE0, tag := 0, payload := [0, if held then 1 else 0, 0, 0x02, 0x00] }] }
        pending := s.pending }
    exec (.powerOn held) s = .next t ∧ (held = true → exec .resetPin s = .next t) ∧ exec .resetEnd t = .next ended

/-- The model's choice (log entry 17): a command that finds the part held in reset changes nothing, but for the commands
that are themselves about resets; and RESET_END outside a reset changes nothing. -/
def Obligations.CommandsInResetDoNothing : Prop :=
  (∀ (c : Instr) (s : State), s.session.phase = .inSoftReset ∨ s.session.phase = .inHardReset →
    (∀ held : Bool, c ≠ .powerOn held) → c ≠ .resetPin → c ≠ .resetEnd → exec c s = .next s) ∧
  ∀ s : State, s.outOfReset → exec .resetEnd s = .next s

/-- R186: a RESET that is taken is answered OK, and from then until the reset takes effect no request is taken and every
byte received is discarded. -/
def Obligations.ResetRequestAwaitsItsAnswer : Prop :=
  (∀ (tag : Byte) (s : State), s.takes →
    exec (.reset tag) s =
      .next { s.answered 0x81 tag [0] with session := { s.session with phase := .awaitingSoft } }) ∧
  (∀ (c : Instr) (s : State), s.session.phase = .awaitingSoft → (encodeRequest c).isSome = true → exec c s = .next s) ∧
  ∀ (b : Byte) (s : State), s.session.phase = .awaitingSoft → exec (.controlByteReceived b) s = .next s

/-- R186, R157, R187: when the answer to RESET has been sent, the SOFT reset takes effect: READY and DAMAGED clips keep
their records but for the reference count, every other clip is EMPTY with its pages free again, and everything else is
at reset; START_UP then gives reason SOFT, the clips kept and the free pages. That every stored check and
every sample slot stands as it was, where R157 speaks of the pages of kept clips alone, is the model's choice (log entry 7),
and so are the values of
State.reset that the spec does not give (log entries 4 to 6 and 26) and bits 7 to 1 of START_UP's flags byte (log entry 27). -/
def Obligations.SoftResetKeepsCompleteClips : Prop :=
  ∀ (tag : Byte) (rest : List Message) (s : State), PagesSound s → s.session.phase = .awaitingSoft →
    s.control.queue = { isReport := false, type := 0x81, tag := tag, payload := [0] } :: rest →
    ∃ t : State, exec .softReset s = .next t ∧ exec .messageSent s = .next t ∧
      t = { State.reset with
            store := t.store, control := { State.reset.control with queue := [] }, pending := s.pending
            session := { State.reset.session with
              phase := .inSoftReset, lastReason := .soft, pinLatch := s.session.pinLatch } } ∧
      t.store.memory = s.store.memory ∧ t.store.checks = s.store.checks ∧ t.store.loading = none ∧
      (∀ c : ClipId, t.store.clips[c] =
        if (s.store.clips[c]).state = .ready ∨ (s.store.clips[c]).state = .damaged then
          { s.store.clips[c] with references := 0 }
        else Clip.blank) ∧
      (∀ g : PageNumber, g ∈ t.store.free ↔ ∀ c : ClipId, g ∉ (t.store.clips[c]).pages) ∧
      (∀ g : PageNumber, (∃ c : ClipId, g ∈ (t.store.clips[c]).pages) → t.store.failed[g] = s.store.failed[g]) ∧
      exec .resetEnd t = .next
        { t with
          session := { t.session with phase := .running, pinLatch := false }
          control := { t.control with
            queue := [{ isReport := true, type := 0xE0, tag := 0,
                        payload := [0, 2, u8 ((s.store.clips.toList.filter fun k =>
                          decide (k.state = .ready ∨ k.state = .damaged)).length)] ++ u16 t.store.free.length }] } }

/-! ### The control link -/

/-- R196, R198, R201: a report whose category is off is dropped; one that passes is queued if fewer than 32 reports are in
the queue, carries the lost flag and clears it, and is otherwise discarded and sets it. Every command but MESSAGE_SENT
and the resets leaves the messages queued in their places and queues others behind them; MESSAGE_SENT removes the first.
The frame on the transmit line is that of the first message, and its bytes from the length on sum to 0 modulo 256. That
bits 7 to 1 of the flags byte are 0 is the model's choice (log entry 27). -/
def Obligations.MessagesAreQueuedAndSent : Prop :=
  (∀ (c : Category) (type : Byte) (fields : List Byte) (s : State),
     (s.control.mask.getLsbD c.bit = false → s.post c type fields = s) ∧
     (s.control.mask.getLsbD c.bit = true → s.post c type fields = s.postAlways type fields) ∧
     (reportCount s.control.queue < 32 → s.postAlways type fields =
       { s with control := { s.control with queue := s.control.queue ++ [s.reportNow type fields], lost := false } }) ∧
     (32 ≤ reportCount s.control.queue →
       s.postAlways type fields = { s with control := { s.control with lost := true } })) ∧
  (∀ (c : Instr) (s : State), (∀ held : Bool, c ≠ .powerOn held) → c ≠ .resetPin → c ≠ .softReset → c ≠ .messageSent →
    ∃ (t : State) (more : List Message), exec c s = .next t ∧ t.control.queue = s.control.queue ++ more) ∧
  ((∀ (m : Message) (rest : List Message) (s : State), s.outOfReset → s.control.queue = m :: rest →
     (s.session.phase = .running ∨ m.isReport = true ∨ m.type ≠ 0x81 ∨ m.payload ≠ [0]) →
     exec .messageSent s = .next { s with control := { s.control with queue := rest } }) ∧
   ∀ s : State, s.outOfReset → s.control.queue = [] → exec .messageSent s = .next s) ∧
  ∀ (m : Message) (rest : List Message) (s : State), s.control.queue = m :: rest → m.payload.length ≤ 240 →
    s.transmitted.take 4 = [0xC3, u8 (m.payload.length + 2), m.type, m.tag] ∧
    (s.transmitted.drop 4).take m.payload.length = m.payload ∧ s.transmitted.length = m.payload.length + 5 ∧
    sumBytes (s.transmitted.drop 1) = 0

/-- R190, R191: what each byte received does to the receiver. A complete frame whose sum is 0 is taken: as the request it
spells, as an unknown type, or as one whose payload length does not fit, which with 8 answers queued is not answered but
reported as an OVERRUN. That the length and the sum are 0 in HUNT, and the length in LENGTH, is the model's choice (log
entry 26). -/
def Obligations.ReceiverHandlesEachByte : Prop :=
  ∀ (b : Byte) (s : State), s.session.phase = .running →
    let r := s.control.receiver
    (r.state = .hunt → b ≠ 0xC3 → exec (.controlByteReceived b) s = .next s) ∧
    (r.state = .hunt → b = 0xC3 → exec (.controlByteReceived b) s = .next { s with control := { s.control with
      receiver := { state := .length, length := 0, body := [], sum := 0, gapTimer := true } } }) ∧
    (r.state = .length → 2 ≤ b.toNat → b.toNat ≤ 242 →
      exec (.controlByteReceived b) s = .next { s with control := { s.control with
        receiver := { state := .body, length := b.toNat, body := [], sum := r.sum + b, gapTimer := true } } }) ∧
    (r.state = .length → b.toNat < 2 ∨ 242 < b.toNat →
      exec (.controlByteReceived b) s = .next s.hunt ∧ exec (.badFrameLength b) s = .next s.hunt) ∧
    (r.state = .body → exec (.controlByteReceived b) s = .next { s with control := { s.control with
      receiver := { state := if r.length ≤ r.body.length + 1 then .check else .body, length := r.length,
                    body := r.body ++ [b], sum := r.sum + b, gapTimer := true } } }) ∧
    (r.state = .check → r.sum + b ≠ 0 → exec (.controlByteReceived b) s = .next
      (s.hunt.postAlways 0xE1 [0, u8 (r.body.length + 2), r.body.getD 0 0, r.body.getD 1 0])) ∧
    (∀ (type tag : Byte) (payload : List Byte), r.state = .check → r.sum + b = 0 → r.body = type :: tag :: payload →
      (∀ i : Instr, decodeRequest type tag payload = .request i →
        exec (.controlByteReceived b) s = exec i s.hunt) ∧
      (decodeRequest type tag payload = .unknownType →
        exec (.controlByteReceived b) s = exec (.unknownRequest type tag payload) s.hunt) ∧
      (decodeRequest type tag payload = .badLength → answerCount s.control.queue < 8 →
        exec (.controlByteReceived b) s = .next (s.answered (type + 0x80) tag
          (match payload.head?.bind clipOf with
            | some c =>
              if type = 0x41 then 3 :: (s.store.clips[c]).state.code :: u24 (s.store.clips[c]).loaded else [3]
            | none => [3]))) ∧
      (decodeRequest type tag payload = .badLength → 8 ≤ answerCount s.control.queue →
        exec (.controlByteReceived b) s =
          .next (s.hunt.postAlways 0xE1 [3, u8 (payload.length + 4), type, tag])))

/-- R189 to R192, R199: each frame discarded after it has begun is reported with its cause, the number of its bytes received
after the start byte, and its type and tag or 0. A byte with a framing error is received when its stop bit has been
sampled, so it counts. That the length and the sum of the receiver are then 0 is the model's choice (log entry 26). -/
def Obligations.DiscardedFramesAreReported : Prop :=
  ∀ s : State, s.session.phase = .running →
    let r := s.control.receiver
    (∀ (body : List Byte) (check : Byte), 2 ≤ body.length → body.length ≤ 242 →
      sumBytes (u8 body.length :: body ++ [check]) ≠ 0 →
      exec (.badCheckFrame body check) s = .next
        (s.hunt.postAlways 0xE1 [0, u8 (body.length + 2), body.getD 0 0, body.getD 1 0])) ∧
    (r.state = .hunt → exec .gapTimerExpiry s = .next s ∧ ∀ b : Byte, exec (.framingError b) s = .next s) ∧
    (r.state = .length → exec .gapTimerExpiry s = .next (s.hunt.postAlways 0xE1 [1, 0, 0, 0]) ∧
      ∀ b : Byte, exec (.framingError b) s = .next
        (s.hunt.postAlways 0xE1 [2, 1, 0, 0])) ∧
    (r.state = .body ∨ r.state = .check → exec .gapTimerExpiry s = .next
      (s.hunt.postAlways 0xE1 [1, u8 (r.body.length + 1), r.body.getD 0 0, r.body.getD 1 0])) ∧
    (r.state = .body → ∀ b : Byte, exec (.framingError b) s = .next
      (s.hunt.postAlways 0xE1 [2, u8 (r.body.length + 2), (r.body ++ [b]).getD 0 0, (r.body ++ [b]).getD 1 0])) ∧
    (r.state = .check → ∀ b : Byte, exec (.framingError b) s = .next
      (s.hunt.postAlways 0xE1 [2, u8 (r.body.length + 2), r.body.getD 0 0, r.body.getD 1 0]))

/-- R193, R194, R198, R199: a request of a type that section 11.6 does not list is answered UNKNOWN_TYPE, with its own type
plus 0x80, or 0xFF where that type is 0x80 or above. A request that finds 8 answers queued has no effect and no answer,
and is reported with cause OVERRUN. SET_REPORTS takes a mask of the seven categories and answers the previous one and the
new one. -/
def Obligations.UnknownTypesOverrunAndReportMasks : Prop :=
  (∀ (i : Instr) (f : RequestFrame) (s : State), s.session.phase = .running → 8 ≤ answerCount s.control.queue →
     (encodeRequest i = some f ∨ (f.type ∉ requestTypes ∧ i = .unknownRequest f.type f.tag f.payload)) →
     exec i s = .next (s.hunt.postAlways 0xE1 [3, u8 (f.payload.length + 4), f.type, f.tag])) ∧
  (∀ (type tag : Byte) (payload : List Byte) (s : State), s.takes → type ∉ requestTypes →
    exec (.unknownRequest type tag payload) s =
      .next (s.answered (if type.toNat < 128 then type + 0x80 else 0xFF) tag [2])) ∧
  ∀ (tag mask : Byte) (s : State), s.takes →
    (mask.toNat < 128 → exec (.setReports tag mask) s =
      .next { s.answered 0x87 tag [0, s.control.mask, mask] with
        control := { (s.answered 0x87 tag [0, s.control.mask, mask]).control with mask := mask } }) ∧
    (128 ≤ mask.toNat → exec (.setReports tag mask) s = .next (s.answered 0x87 tag [4]))

/-- R203: reading the type, tag and payload of any request gives the request back, with every field at every value. -/
def Obligations.RequestRoundTrip : Prop :=
  ∀ (i : Instr) (f : RequestFrame), i.wellFormed = true → encodeRequest i = some f →
    decodeRequest f.type f.tag f.payload = .request i ∧ f.payload.length ≤ 240

/-- R190, R191, R193, R201: the bytes of a request's frame, received one by one from HUNT, do what the request does. -/
def Obligations.BytePathTakesTheRequest : Prop :=
  ∀ (i : Instr) (f : RequestFrame) (s : State), s.session.phase = .running → s.control.receiver.state = .hunt →
    i.wellFormed = true → encodeRequest i = some f → exec i s = .next (receiveAll f.bytes s)

/-- R28, R202: the frame record of a mic frame's 36 bytes is the one they carry. A candidate gives a record exactly where
it has 36 bytes, the two sync bytes, and bytes 2 to 35 that sum to 0 modulo 256; the record then holds the sequence of bits
7 to 4 of byte 2, ALL of bit 1, TALK of bit 0, and the samples, most significant byte first. A feed frame has its own two
sync bytes, the feed sequence in the upper half of byte 2 and the LED code in its lower half, its samples most significant
byte first, and the same sum. -/
def Obligations.LinkFrameLayouts : Prop :=
  (∀ f : MicFrame, decodeMicFrame (encodeMicFrame f) = some f) ∧
  (∀ (candidate : List Byte) (f : MicFrame), decodeMicFrame candidate = some f →
    candidate.length = 36 ∧ candidate.take 2 = [0x3C, 0xA9] ∧ sumBytes (candidate.drop 2) = 0 ∧
    f.sequence = (candidate.getD 2 0).extractLsb' 4 4 ∧ f.all = (candidate.getD 2 0).getLsbD 1 ∧
    f.talk = (candidate.getD 2 0).getLsbD 0 ∧
    ∀ i : Fin 16, f.samples[i] = candidate.getD (3 + 2 * i.1) 0 ++ candidate.getD (4 + 2 * i.1) 0) ∧
  (∀ candidate : List Byte, candidate.length = 36 → candidate.take 2 = [0x3C, 0xA9] → sumBytes (candidate.drop 2) = 0 →
    (decodeMicFrame candidate).isSome = true) ∧
  ∀ (p : Pod) (f : FeedFrame) (s : State), s.feedFrames[p] = some f →
    let b := s.feedBytes p
    b.length = 36 ∧ b.take 2 = [0x3C, 0x5A] ∧ (b.getD 2 0).toNat = 16 * f.sequence.toNat + f.led.code.toNat ∧
    sumBytes (b.drop 2) = 0 ∧ ∀ i : Fin 16, b.getD (3 + 2 * i.1) 0 ++ b.getD (4 + 2 * i.1) 0 = f.samples[i]

/-! ### The mix engine and the boundary -/

/-- R1, R19, R20, R23, R57: the boundary hands out, for each position, the saturated last scaled values of the period
ended, formed from its inputs, from the values in force for it and from the ramps after that position's move; zeros at
the first boundary after a reset. The output meters take each frame in. The data output of a record bus sends the 16
samples in order, each from its most significant bit. -/
def Obligations.BoundaryHandsOutThePeriod : Prop :=
  ∀ (order : List Work) (trunks : Vector Frame 4) (s : State), s.outOfReset →
    ∃ t : State, exec (.mixPeriodBoundary order trunks) s = .next t ∧
      (s.inForce = none → ∀ (o : Output) (i : Fin 16), (t.outputs[o])[i] = 0) ∧
      (∀ v : InForce, s.inForce = some v → ∀ (o : Output) (i : Fin 16),
        (t.outputs[o])[i] = saturate (scaledOutputs v s.inputs (movesOf (i.1 + 1) s.ramps) i)[o]) ∧
      (∀ o : Output, (t.outputMeters[o]).peak = max (s.outputMeters[o]).peak (framePeak t.outputs[o])) ∧
      (s.inForce = none → ∀ o : Output, (t.outputMeters[o]).clip = (s.outputMeters[o]).clip) ∧
      (∀ v : InForce, s.inForce = some v → ∀ o : Output, (t.outputMeters[o]).clip = true ↔
        (s.outputMeters[o]).clip = true ∨ ∃ i : Fin 16,
          (scaledOutputs v s.inputs (movesOf (i.1 + 1) s.ramps) i)[o] < -32768 ∨
          32767 < (scaledOutputs v s.inputs (movesOf (i.1 + 1) s.ramps) i)[o]) ∧
      (∀ y : Int, (saturate y).toInt = max (-32768) (min 32767 y)) ∧
      (∀ o : Output, (∀ i : Fin 16, ((t.outputs[o])[i]).toInt.natAbs ≤ framePeak t.outputs[o]) ∧
        ∃ i : Fin 16, ((t.outputs[o])[i]).toInt.natAbs = framePeak t.outputs[o]) ∧
      ∀ b : RecordBus, (t.recordLine b).length = 256 ∧ ∀ i k : Fin 16,
        (t.recordLine b).getD (16 * i.1 + k.1) false =
          ((t.outputs[(⟨b.1 + 28, by omega⟩ : Output)])[i]).getLsbD (15 - k.1)

/-- R7 to R18, R133: the last scaled value of each pod feed, trunk send and record bus, as sums over the pods, trunks and
players. A pod's feed sums the pods of the roster outside its exclusion set. Each entry of the gain tables (Introduction,
Conventions) is the integer nearest to 4096 or 32768 times 10^(k/40), and a pod gain is clamped to -120..+48. -/
def Obligations.OutputsAreTheMixOfTheRules : Prop :=
  (∀ k : Int, -120 ≤ k →
    (k ≤ 48 → |(lin12 k : ℝ) - 4096 * (10 : ℝ) ^ ((k : ℝ) / 40)| < 1 / 2) ∧
    (k ≤ 0 → |(lin15 k : ℝ) - 32768 * (10 : ℝ) ^ ((k : ℝ) / 40)| < 1 / 2)) ∧
  (∀ k : Int, lin12 k = lin12 (max (-120) (min 48 k))) ∧
  ∀ (v : InForce) (x : Inputs) (r : Ramps) (i : Fin 16),
    let q (p : Pod) : Int := ((x.pods[p])[i].toInt * lin12 (v.feeds.podFader[p] + v.alcGain[p]) + 2048) / 4096
    let rL (p : Pod) : Nat := (r.gate[p]).value * (r.localMute[p]).value / 32768
    let cL (p : Pod) : Int := (q p * (rL p : Nat) + 16384) / 32768
    let cS (p : Pod) : Int := (q p * (rL p * (r.privacy[p]).value / 32768 : Nat) + 16384) / 32768
    let tr (k : Trunk) : Int :=
      (((x.trunks[k])[i].toInt * lin12 v.feeds.trunkFader[k] + 2048) / 4096 * (r.trunkMute[k]).value + 16384) / 32768
    let pc (n : Player) : Int :=
      ((((x.players[n])[i]).sample.toInt * lin12 ((x.players[n])[i]).gain + 2048) / 4096 * (r.player[n]).value + 16384) /
        32768
    let mate (j p : Pod) : Prop := p = j ∨ (v.feeds.zone[j] ≠ 0 ∧ v.feeds.zone[p] = v.feeds.zone[j])
    let far : Int := ∑ k : Trunk, if v.roster.trunks[k] then tr k else 0
    let send : Int := ∑ p : Pod, if v.roster.pods[p] then cS p else 0
    let scaled (a : Int) (gain : Int) : Int := ((a * lin12 gain + 2048) / 4096 * r.master.value + 16384) / 32768
    (∀ j : Pod, v.roster.pods[j] = true →
      (scaledOutputs v x r i)[podChannel j] =
        (((((∑ p ∈ Finset.univ.filter (fun p => v.roster.pods[p] = true ∧ ¬ mate j p), cL p) + far +
            ∑ n : Player, if (v.routing[n]).pod then pc n else 0) * lin12 v.feeds.volume[j] + 2048) / 4096 *
          (r.duck[j]).value + 16384) / 32768 * r.master.value + 16384) / 32768) ∧
    (∀ j : Pod, v.roster.pods[j] = false → (scaledOutputs v x r i)[podChannel j] = 0) ∧
    (∀ k : Trunk, v.roster.trunks[k] = true →
      (scaledOutputs v x r i)[trunkChannel k] =
        scaled (send + (∑ l ∈ Finset.univ.filter (fun l => v.roster.trunks[l] = true ∧ l ≠ k), tr l) +
          ∑ n : Player, if (v.routing[n]).trunk then pc n else 0) v.feeds.sendGain[k]) ∧
    (∀ k : Trunk, v.roster.trunks[k] = false → (scaledOutputs v x r i)[trunkChannel k] = 0) ∧
    ∀ b : RecordBus, (scaledOutputs v x r i)[(⟨b.1 + 28, by omega⟩ : Output)] =
      scaled ((if (v.feeds.record[b]).room then send else 0) + (if (v.feeds.record[b]).far then far else 0) +
        if (v.feeds.record[b]).prompt then ∑ n : Player, if (v.routing[n]).record then pc n else 0 else 0)
        (v.feeds.record[b]).gain

/-- R13: every bus sum lies within ±13,051,392, each sum within its own bound of the table, and every value composed from
them too; the mix-minus of a feed leaves the sum over the other pods, and that of a send the sum over the other trunks,
with nothing clamped. The ranges that the premises name are kept by every step (RampsBounded, GainsBounded). -/
def Obligations.BusSumsStayInTheirBounds : Prop :=
  ∀ (v : InForce) (x : Inputs) (r : Ramps) (i : Fin 16), v.feeds.Bounded →
    (∀ (n : Player) (j : Fin 16), ((x.players[n])[j]).gain ≤ 0) →
    (∀ p : Pod, (r.gate[p]).value ≤ 32768 ∧ (r.localMute[p]).value ≤ 32768 ∧ (r.privacy[p]).value ≤ 32768) →
    (∀ k : Trunk, (r.trunkMute[k]).value ≤ 32768) → (∀ n : Player, (r.player[n]).value ≤ 32768) →
    let c := contributions v x r i
    let b := busSums v c
    (b.rl.natAbs ≤ 12464064 ∧ b.rs.natAbs ≤ 12464064 ∧ b.t.natAbs ≤ 521792 ∧ b.ppod.natAbs ≤ 65536 ∧
      b.ptrk.natAbs ≤ 65536 ∧ b.prec.natAbs ≤ 65536 ∧ (b.rl + b.t + b.ppod).natAbs ≤ 13051392) ∧
    (∀ j : Pod, (podFeedValue v c b j).natAbs ≤ 13051392 ∧ (v.roster.pods[j] = true → podFeedValue v c b j =
      (∑ p ∈ Finset.univ.filter (fun p => v.roster.pods[p] = true ∧ excluded v.roster v.feeds.zone j p = false), c.cL[p]) +
        b.t + b.ppod)) ∧
    (∀ k : Trunk, (trunkSendValue v c b k).natAbs ≤ 13051392 ∧ (v.roster.trunks[k] = true → trunkSendValue v c b k =
      b.rs + (∑ l ∈ Finset.univ.filter (fun l => v.roster.trunks[l] = true ∧ l ≠ k), c.t[l]) + b.ptrk)) ∧
    ∀ o : RecordBus, (recordValue v b o).natAbs ≤ 13051392

/-- R13, R14, R15, R133: a pod's feed does not depend on what the microphones of its own exclusion set pick up, its own
first of all, and a trunk's send does not depend on what that trunk receives. -/
def Obligations.NoOutputHearsItsOwnInput : Prop :=
  (∀ (order : List Work) (trunks : Vector Frame 4) (s : State) (v : InForce) (j : Pod) (mics : Vector Frame 24),
    s.outOfReset → s.inForce = some v →
    (∀ p : Pod, excluded v.roster v.feeds.zone j p = false → mics[p] = s.inputs.pods[p]) →
    ∃ t u : State, exec (.mixPeriodBoundary order trunks) s = .next t ∧
      exec (.mixPeriodBoundary order trunks) { s with inputs := { s.inputs with pods := mics } } = .next u ∧
      t.outputs[podChannel j] = u.outputs[podChannel j]) ∧
  ∀ (order : List Work) (trunks received : Vector Frame 4) (s : State) (k : Trunk), s.outOfReset →
    (∀ l : Trunk, l ≠ k → received[l] = s.inputs.trunks[l]) →
    ∃ t u : State, exec (.mixPeriodBoundary order trunks) s = .next t ∧
      exec (.mixPeriodBoundary order trunks) { s with inputs := { s.inputs with trunks := received } } = .next u ∧
      t.outputs[trunkChannel k] = u.outputs[trunkChannel k]

/-- R8, R9, R15, R16, R88: with every privacy ramp at rest at 0 for a period, neither a trunk send nor a record output of
it depends on what any microphone picks up. -/
def Obligations.PrivacyKeepsPodsFromTheFarEnd : Prop :=
  ∀ (order : List Work) (trunks : Vector Frame 4) (s : State) (mics : Vector Frame 24), s.outOfReset →
    (∀ p : Pod, (s.ramps.privacy[p]).value = 0 ∧ (s.ramps.privacy[p]).target = 0) →
    ∃ t u : State, exec (.mixPeriodBoundary order trunks) s = .next t ∧
      exec (.mixPeriodBoundary order trunks) { s with inputs := { s.inputs with pods := mics } } = .next u ∧
      ∀ o : Output, 24 ≤ o.1 → t.outputs[o] = u.outputs[o]

/-- R2, R3, R4, R23, R39, R40, R44, R45, R51, R52, R56: what the boundary opens the next period with: the values last set,
the samples of the takes and of the trunks, the ramps of privacy, of the trunks and of the master after the moves of the
period ended; and what it does once for each channel and link: levels and meters, feed frames. That the routing in force is
the one that the players' own work at the boundary leaves, cleared where a player becomes IDLE, is the model's reading (log
entry 19). -/
def Obligations.BoundaryOpensThePeriod : Prop :=
  ∀ (order : List Work) (trunks : Vector Frame 4) (s : State), s.outOfReset →
    ∃ t : State, exec (.mixPeriodBoundary order trunks) s = .next t ∧
      t.inForce = some { roster := s.session.roster, feeds := s.router.feeds,
                         alcGain := Vec.tab fun p => (t.alc.records[p]).gain,
                         routing := Vec.tab fun n => (t.player n).routing } ∧
      (∀ k : Trunk, t.inputs.trunks[k] = if s.session.roster.trunks[k] then trunks[k] else silentFrame) ∧
      (let opened (r : Ramp) : Ramp := (r.passed s.inForce.isSome).comeInForce
       (∀ p : Pod, t.ramps.privacy[p] = opened s.ramps.privacy[p]) ∧
       (∀ k : Trunk, t.ramps.trunkMute[k] = opened s.ramps.trunkMute[k]) ∧ t.ramps.master = opened s.ramps.master) ∧
      (∀ p : Pod,
        let l := s.links[p]
        let run := if l.state = .coasting then l.coastRun + 1 else 1
        ((∀ (f : MicFrame) (rest : List MicFrame), l.state.takes = true → l.fifo = f :: rest →
          t.inputs.pods[p] = f.samples ∧ (t.links[p]).fifo = rest ∧ (t.links[p]).lastTaken = f) ∧
        (l.state.trusted = true → l.fifo = [] → run < s.linkParams.unlockCount → ∀ i : Fin 16, (t.inputs.pods[p])[i] =
          if run ≤ 4 then ((l.lastTaken.samples)[i]).sshiftRight run else 0) ∧
        (l.state.trusted = true → l.fifo = [] → s.linkParams.unlockCount ≤ run → t.inputs.pods[p] = silentFrame) ∧
        (l.state = .settling → l.fifo = [] → t.inputs.pods[p] = silentFrame) ∧
        (l.state.takes = false → t.inputs.pods[p] = silentFrame))) ∧
      (∀ c : Channel,
        let d := s.detectors[c]
        let e := t.detectors[c]
        let level := levelOfFrame (t.inputs.measured c)
        e.frameLevel = some level ∧ e.peak = max d.peak (framePeak (t.inputs.measured c)) ∧
        e.smoothed = (if d.smoothed ≤ level then d.smoothed + (level - d.smoothed + 1) / 2
          else d.smoothed - (d.smoothed - level + 15) / 16) ∧
        (e.smoothed < d.noiseFloor → e.noiseFloor = e.smoothed ∧ e.riseCounter = 0) ∧
        (d.noiseFloor ≤ e.smoothed → d.riseCounter + 1 < 64 →
          e.noiseFloor = d.noiseFloor ∧ e.riseCounter = d.riseCounter + 1) ∧
        (d.noiseFloor ≤ e.smoothed → 64 ≤ d.riseCounter + 1 →
          e.noiseFloor = min (d.noiseFloor + 1) e.smoothed ∧ e.riseCounter = 0)) ∧
      ∀ p : Pod, t.feedFrames[p] =
        if (t.links[p]).state = .off then none
        else if (t.links[p]).state.trusted then
          some { sequence := (s.links[p]).feedSequence, led := t.mutes.led[p], samples := t.outputs[podChannel p] }
        else some { sequence := (s.links[p]).feedSequence, led := .off, samples := silentFrame }

/-- R22 to R25: what a setting leaves pending; how a pending jump and target come in force, the target with the step
ceil(32768 / (length × 16)); that a move goes by one step toward the target and not past it, so that a target set with a
length is reached within that many frames of 16 positions; and when a ramp arrives. -/
def Obligations.RampsReachTheirTargetsInTheirLength : Prop :=
  ∀ r : Ramp,
    (∀ target length : Nat, r.lastSetting = .target target length → r.setTarget target length = r) ∧
    (∀ target length : Nat, r.lastSetting ≠ .target target length → r.setTarget target length =
      { r with pendingTarget := some (target, length), lastSetting := .target target length }) ∧
    (∀ v : Nat, r.jump v = { r with pendingJump := some v, pendingTarget := none, lastSetting := .jump v }) ∧
    (r.pendingTarget = none → r.pendingJump = none → r.comeInForce = r) ∧
    (∀ v : Nat, r.pendingJump = some v → r.pendingTarget = none →
      r.comeInForce.value = v ∧ r.comeInForce.target = v ∧ r.comeInForce.arrivalPending = false ∧
      r.comeInForce.pendingJump = none ∧ r.comeInForce.pendingTarget = none) ∧
    (∀ target length : Nat, r.pendingTarget = some (target, length) → 1 ≤ length →
      let step := r.comeInForce.step.getD 0
      32768 ≤ step * (length * 16) ∧ step * (length * 16) < 32768 + length * 16 ∧
      r.comeInForce = { r with
        value := r.pendingJump.getD r.value, target := target, step := some step, arrivalPending := true
        pendingTarget := none, pendingJump := none }) ∧
    (∀ target length : Nat, r.pendingTarget = some (target, length) → 1 ≤ length → r.Bounded →
      r.comeInForce.arrivalPending = true ∧ (Ramp.move^[16 * length] r.comeInForce).value = target) ∧
    (∀ step : Nat, r.step = some step →
      (r.value < r.target → r.move = { r with value := min r.target (r.value + step) }) ∧
      (r.target < r.value → r.move = { r with value := max r.target (r.value - step) })) ∧
    (r.value = r.target → r.move = r) ∧
    (r.value ≤ r.target → r.value ≤ r.move.value ∧ r.move.value ≤ r.target) ∧
    (r.target ≤ r.value → r.target ≤ r.move.value ∧ r.move.value ≤ r.value) ∧
    (r.arrives = true ↔ r.arrivalPending = true ∧ r.pendingTarget = none ∧ r.pendingJump = none ∧ r.value = r.target) ∧
    r.clearArrival = if r.arrives then { r with arrivalPending := false } else r

/-- R31 to R34, R43, R92, R95, R107, R134, R135: what the boundary makes of each pod's link, with UNDERRUN, COASTING and
the return from it among the moves; of its keys and its KEY reason, where the link is lost or a first take gives the
baseline; of its LED code; and of its duck, whose flag follows the gates of the period ended and whose ramp gets a target
where the flag changes. -/
def Obligations.LinksIndicatorsAndDucksAtABoundary : Prop :=
  ∀ (order : List Work) (trunks : Vector Frame 4) (s : State), s.outOfReset →
    ∃ t : State, exec (.mixPeriodBoundary order trunks) s = .next t ∧ ∀ p : Pod,
      let l := s.links[p]
      let silence := if l.arrivalSeen then 0 else l.silenceRun + 1
      let run := if l.state = .coasting then l.coastRun + 1 else 1
      let next : Link := { l with feedSequence := l.feedSequence + 1 }
      let taken (f : MicFrame) (rest : List MicFrame) : Link := { next with fifo := rest, lastTaken := f, firstTake := false }
      let reported (before after cause : Byte) : Prop := s.control.mask.getLsbD 0 = true → t.control.lost = true ∨
        ∃ flags : Byte, { isReport := true, type := 0xE2, tag := 0, payload := [flags, podByte p, before, after, cause] } ∈
          t.control.queue
      let q := s.automixer.pendingParams.getD s.automixer.params
      let ramp := (s.ramps.duck[p]).passed s.inForce.isSome
      let released (k : KeyRecord) : KeyRecord := { pressed := false, guardAge := min 100 (k.guardAge + 1) }
      let keyIs (pressed : Bool) : Prop :=
        (t.mutes.reasons[p]).key = (s.mutes.keyMode[p]).keyAfter (s.mutes.reasons[p]).key pressed
      let reverted : Prop := t.mutes.talkKey[p] = released s.mutes.talkKey[p] ∧
        t.mutes.allKey[p] = released s.mutes.allKey[p] ∧ keyIs false
      (l.state = .off → t.links[p] = l) ∧ (l.state = .absent → t.links[p] = next) ∧
      (l.state = .acquiring → silence < s.linkParams.unlockCount →
        t.links[p] = { next with silenceRun := silence, arrivalSeen := false }) ∧
      (l.state = .acquiring → s.linkParams.unlockCount ≤ silence → reported 2 1 6 ∧
        t.links[p] = { next with state := .absent, goodCount := 0, silenceRun := 0, arrivalSeen := false }) ∧
      (l.state = .settling → l.fifo = [] → reported 3 2 4 ∧
        t.links[p] = { next with state := .acquiring, goodCount := 0, silenceRun := 0, arrivalSeen := false } ∧
        reverted) ∧
      (∀ (f : MicFrame) (rest : List MicFrame), l.fifo = f :: rest →
        (l.state = .settling → l.settleCounter + 1 < s.linkParams.settleFrames →
          t.links[p] = { taken f rest with settleCounter := l.settleCounter + 1 }) ∧
        (l.state = .settling → s.linkParams.settleFrames ≤ l.settleCounter + 1 → reported 3 4 3 ∧
          t.links[p] = { taken f rest with state := .locked, settleCounter := l.settleCounter + 1, coastRun := 0 }) ∧
        (l.state = .locked → t.links[p] = taken f rest) ∧
        (l.state = .coasting → t.links[p] = { taken f rest with state := .locked, coastRun := 0 }) ∧
        (l.state.takes = true → l.firstTake = true →
          t.mutes.talkKey[p] = { pressed := f.talk, guardAge := 100 } ∧
          t.mutes.allKey[p] = { pressed := f.all, guardAge := 100 } ∧ keyIs f.talk)) ∧
      (l.state.trusted = true → l.fifo = [] → run < s.linkParams.unlockCount →
        t.links[p] = { next with state := .coasting, coastRun := run }) ∧
      (l.state.trusted = true → l.fifo = [] → s.linkParams.unlockCount ≤ run → reported l.state.code 1 7 ∧
        t.links[p] = { next with
          state := .absent, expected := 0, goodCount := 0, silenceRun := 0, settleCounter := 0, coastRun := 0
          restartRun := 0, arrivalSeen := false, firstTake := false } ∧
        reverted) ∧
      t.mutes.led[p] = (if (t.links[p]).state.trusted = false then Led.off
        else if p ∈ t.mutes.talkList then .redBlink
        else if (t.mutes.reasons[p]).muted then .red
        else match (s.gate p).state with
          | .waiting => .amber
          | .opened | .hold | .bypass => if t.mutes.privacy then .greenBlink else .green
          | .closed | .pending => .off) ∧
      (t.router.duckActive[p] = true ↔ s.session.roster.pods[p] = true ∧ ∃ i : Pod,
        (i = p ∨ (s.session.roster.pods[i] = true ∧ s.router.feeds.zone[p] ≠ 0 ∧
          s.router.feeds.zone[i] = s.router.feeds.zone[p])) ∧
        ((s.gate i).state = .opened ∨ (s.gate i).state = .hold)) ∧
      t.ramps.duck[p] = (if t.router.duckActive[p] = s.router.duckActive[p] then ramp
        else if t.router.duckActive[p] then ramp.setTarget (lin15 s.router.duckDepth) q.attack
        else ramp.setTarget 32768 q.release).comeInForce

/-- R63 to R72, R78, R79, R84: the automixer's four steps. The parameters last taken come in force; each channel in AUTO
moves by the rule of its state; the timeouts close their gates in queue order and the expiries theirs in victim order, the
last microphone being kept, which is the last of them; a fallen limit evicts holders in victim order; free slots go to the
wait queue by priority and order of entry; the requests collected are taken by priority, level and number, each opening,
preempting the first holder in victim order, or waiting. Each change is reported in the order in which it is made. A
boundary at which no link changes state and no key changes level runs these steps on the automixer as it stands, in
whatever order the blocks work, and sets a gate ramp target for each channel whose state changes. -/
def Obligations.AutomixerWorkAtABoundary : Prop :=
  (∀ (order : List Work) (trunks : Vector Frame 4) (s : State), s.outOfReset → s.quiet →
    let first := s.takeAutomixParams.step1.step2
    let last := first.step3.1.step4.1
    let q := s.automixer.pendingParams.getD s.automixer.params
    ∃ t : State, exec (.mixPeriodBoundary order trunks) s = .next t ∧ t.automixer = last.automixer ∧
      t.automixer.params = q ∧ t.automixer.pendingParams = none ∧ t.automixer.collected = [] ∧
      t.mutes.reasons = s.mutes.reasons ∧ t.mutes.talkList = s.mutes.talkList ∧
      (∀ m ∈ last.control.queue.drop s.control.queue.length, t.control.lost = true ∨
        ∃ flags : Byte, { m with payload := flags :: m.payload.drop 1 } ∈ t.control.queue) ∧
      ∀ p : Pod,
        let rests := (t.gate p).state = .closed ∨ (t.gate p).state = .pending ∨ (t.gate p).state = .waiting
        let changed := (t.gate p).state ≠ (s.gate p).state ∨
          (q.offAttenuation ≠ s.automixer.params.offAttenuation ∧ rests)
        let ramp := (s.ramps.gate[p]).passed s.inForce.isSome
        t.ramps.gate[p] = (if (s.mutes.reasons[p]).fault = true ∨ ¬ changed then ramp
          else if rests then ramp.setTarget (lin15 q.offAttenuation) q.release
          else ramp.setTarget 32768 q.attack).comeInForce) ∧
  (∀ s : State, GatesSound s →
    let u := s.step1
    let q := s.automixer.params
    u.automixer.limit = s.automixer.limit ∧ u.automixer.pendingLimit = s.automixer.pendingLimit ∧
    (q.lastMicHold = true → s.holders ≠ [] → u.automixer.waitQueue = [] → u.holders ≠ []) ∧
    (let level (p : Pod) : Int := (s.detectors[podChannel p]).smoothed
     let priority (p : Pod) : Nat := (s.gate p).priority
     let below (p : Pod) : Prop :=
       level p < (s.detectors[podChannel p]).noiseFloor + q.margin ∨ level p < q.gateFloor
     let expires (p : Pod) : Prop := (s.gate p).mode = .auto ∧ below p ∧
       (((s.gate p).state = .opened ∧ q.holdFrames ≤ 1) ∨
         ((s.gate p).state = .hold ∧ q.holdFrames ≤ (s.gate p).count + 1))
     let victim (v w : Pod) : Prop := priority v < priority w ∨ (priority v = priority w ∧
       (level v < level w ∨ (level v = level w ∧ w < v)))
     ∃ released : List Pod, released.Pairwise victim ∧
       (∀ p : Pod, p ∈ released ↔ expires p ∧ (u.gate p).state = .closed) ∧
       (∀ p : Pod, expires p → (u.gate p).state = .hold → ∀ w ∈ released, victim w p) ∧
       let timedOut := s.automixer.waitQueue.filter (· ∉ u.automixer.waitQueue)
       let events := (timedOut.map fun p => [podByte p, 2, 0, 3]) ++ released.map fun p => [podByte p, 4, 0, 2]
       u = { s with
             automixer := u.automixer, control := (events.foldl (fun t e => t.post .gate 0xE5 e) s).control }) ∧
    ∀ p : Pod,
      let g := s.gate p
      let d := s.detectors[podChannel p]
      let above := d.noiseFloor + q.margin ≤ d.smoothed ∧ q.gateFloor ≤ d.smoothed
      let held := if g.count < q.holdFrames then g.count + 1 else g.count
      let kept (c : Nat) : Prop := u.gate p = { g with state := .closed, count := 0 } ∨
        (u.gate p = { g with state := .hold, count := c } ∧ q.lastMicHold = true ∧ u.holders = [p] ∧
          u.automixer.waitQueue = [])
      (g.mode = .bypass ∨ g.state = .bypass → u.gate p = g) ∧
      (p ∈ u.automixer.waitQueue ↔ p ∈ s.automixer.waitQueue ∧
        ¬ (g.mode = .auto ∧ ¬ above ∧ q.holdFrames ≤ g.count + 1)) ∧
      (g.mode = .auto →
        (g.state = .closed → above → (s.mutes.reasons[p]).muted = false →
          u.gate p = { g with state := .pending, count := 1 } ∧
          (p ∈ u.automixer.collected ↔ p ∈ s.automixer.collected ∨ q.openCount ≤ 1)) ∧
        (g.state = .closed → ¬ above ∨ (s.mutes.reasons[p]).muted = true → u.gate p = g) ∧
        (g.state = .pending → above → u.gate p = { g with count := g.count + 1 } ∧
          (p ∈ u.automixer.collected ↔ p ∈ s.automixer.collected ∨ q.openCount ≤ g.count + 1)) ∧
        (g.state = .pending → ¬ above → u.gate p = { g with state := .closed, count := 0 }) ∧
        (g.state = .waiting → above → u.gate p = { g with count := 0 }) ∧
        (g.state = .waiting → ¬ above → g.count + 1 < q.holdFrames → u.gate p = { g with count := g.count + 1 }) ∧
        (g.state = .waiting → ¬ above → q.holdFrames ≤ g.count + 1 → u.gate p = { g with state := .closed, count := 0 }) ∧
        (g.state = .opened → above → u.gate p = g) ∧
        (g.state = .opened → ¬ above → 1 < q.holdFrames → u.gate p = { g with state := .hold, count := 1 }) ∧
        (g.state = .opened → ¬ above → q.holdFrames ≤ 1 → kept 1) ∧
        (g.state = .hold → above → u.gate p = { g with state := .opened, count := 0 }) ∧
        (g.state = .hold → ¬ above → held < q.holdFrames → u.gate p = { g with count := held }) ∧
        (g.state = .hold → ¬ above → q.holdFrames ≤ held → kept held))) ∧
  ∀ s : State, GatesSound s →
    let level (p : Pod) : Int := (s.detectors[podChannel p]).smoothed
    let priority (p : Pod) : Nat := (s.gate p).priority
    let state (p : Pod) : GateState := (s.gate p).state
    let victim (v w : Pod) : Prop := priority v < priority w ∨ (priority v = priority w ∧
      ((state v = .hold ∧ state w = .opened) ∨ (state v = state w ∧
        (level v < level w ∨ (level v = level w ∧ w < v)))));
    (let u := s.step2;
      u.automixer.limit = s.automixer.pendingLimit.getD s.automixer.limit ∧ u.automixer.pendingLimit = none ∧
      u.automixer.waitQueue = s.automixer.waitQueue ∧ u.holders.length = min s.holders.length u.automixer.limit ∧
      (∀ p : Pod, (p ∉ s.holders → u.gate p = s.gate p) ∧
        (p ∈ s.holders → u.gate p = s.gate p ∨ (u.gate p = { s.gate p with state := .closed, count := 0 } ∧
          ∀ w ∈ u.holders, victim p w))) ∧
      ∃ evicted : List Pod, evicted.Pairwise victim ∧ (∀ p : Pod, p ∈ evicted ↔ p ∈ s.holders ∧ p ∉ u.holders) ∧
        u = { s with
              automixer := u.automixer
              control := (evicted.foldl (fun t p => t.post .gate 0xE5 [podByte p, (state p).code, 0, 5]) s).control }) ∧
    (let u := s.step3.1;
      let granted := s.step3.2;
      let place (p : Pod) : Nat := s.automixer.waitQueue.idxOf p;
      let sooner (p q : Pod) : Prop := priority q < priority p ∨ (priority q = priority p ∧ place p < place q);
      granted.length = min (s.automixer.limit - s.holders.length) s.automixer.waitQueue.length ∧
      granted.Pairwise sooner ∧ (∀ p ∈ granted, p ∈ s.automixer.waitQueue) ∧
      (∀ p ∈ granted, ∀ q ∈ s.automixer.waitQueue, q ∉ granted → sooner p q) ∧
      u.automixer.waitQueue = s.automixer.waitQueue.filter (· ∉ granted) ∧
      (∀ p : Pod, u.gate p = if p ∈ granted then { s.gate p with state := .opened, count := 0 } else s.gate p) ∧
      u = { s with
            automixer := u.automixer
            control := (granted.foldl (fun t p => t.post .gate 0xE5 [podByte p, 2, 3, 0]) s).control }) ∧
    (∀ (due : List Pod) (u : State), (State.requests due u).1 = due.foldl (fun t p => (t.request p).1) u) ∧
    (∃ due : List Pod, s.step4 = State.requests due { s with automixer := { s.automixer with collected := [] } } ∧
      due.Perm (s.automixer.collected.filter fun p => (s.gate p).state == .pending) ∧
      due.Pairwise fun p q => priority q < priority p ∨ (priority p = priority q ∧
        (level q < level p ∨ (level p = level q ∧ p < q)))) ∧
    ∀ p : Pod, state p = .pending → p ∉ s.automixer.collected →
      let moved (v : Pod) (st : GateState) (cause : Byte) (t : State) : State :=
        { t with automixer := { t.automixer with
            gates := Vec.put t.automixer.gates v { t.gate v with state := st, count := 0 } } }.post .gate 0xE5
          [podByte v, (t.gate v).state.code, st.code, cause]
      (s.holders.length < s.automixer.limit → s.request p = (moved p .opened 0 s, true)) ∧
      (s.automixer.limit ≤ s.holders.length → ∀ v ∈ s.holders, (∀ w ∈ s.holders, w ≠ v → victim v w) →
        v ∉ s.automixer.collected →
        (priority v < priority p → s.request p = (moved p .opened 0 (moved v .closed 4 s), true)) ∧
        (priority p ≤ priority v → s.request p =
          (moved p .waiting 1 { s with automixer := { s.automixer with waitQueue := s.automixer.waitQueue ++ [p] } },
            false)))

/-- R73, R87, R91, R93, R94, R96 to R98, R100, R101, R108, R109: the key levels that the takes of a boundary hand over, at
which no link changes state. Every guard age grows by 1; a level that differs from the accepted one, with its guard age at
the key guard, is an accepted edge. The ALL presses of chair pods come first, each turning the chair-mute flag over; then
each TALK edge moves KEY by the key mode, and a press on a channel that carries CHAIR acts on the talk-request list
instead, in ascending order. The KEY reports of the boundary are these: for each accepted edge a KEY_EVENT, with the reason
set and the flag that it leaves, and after it the TALK_REQUEST of what it did to the list. The local mute ramp follows each
change of the reason set, and a pod that the edges leave muted has its gate closed and its gate ramp sent to the
off-attenuation. -/
def Obligations.KeyEdgesAtABoundary : Prop :=
  ∀ (order : List Work) (trunks : Vector Frame 4) (s : State), s.outOfReset → (∀ p : Pod, s.steadyAt p) → GatesSound s →
    let accepted (k : KeyRecord) (level : Option Bool) : Option Bool :=
      level.filter fun v => decide (v ≠ k.pressed) && decide (s.mutes.keyGuard ≤ min 100 (k.guardAge + 1))
    let after (k : KeyRecord) (edge : Option Bool) : KeyRecord :=
      match edge with
      | some v => { pressed := v, guardAge := 0 }
      | none => { pressed := k.pressed, guardAge := min 100 (k.guardAge + 1) }
    let talk (p : Pod) : Option Bool := accepted s.mutes.talkKey[p] ((s.handedKeys p).map Prod.fst)
    let all (p : Pod) : Option Bool := accepted s.mutes.allKey[p] ((s.handedKeys p).map Prod.snd)
    let turns (p : Pod) : Bool := s.session.roster.chairs[p] && all p == some true
    let presses := ((List.finRange 24).filter turns).length
    let pressesTo (p : Pod) : Nat := ((List.finRange 24).filter fun q => decide (q ≤ p) && turns q).length
    let flag (n : Nat) : Bool := s.mutes.chairMute != decide (n % 2 = 1)
    let reasonsAt (n : Nat) (p : Pod) : Reasons :=
      { s.mutes.reasons[p] with
        chair :=
          if n = 0 then (s.mutes.reasons[p]).chair
          else flag n && ((decide (n = 1) && (s.mutes.reasons[p]).chair) ||
            (s.session.roster.pods[p] && !s.session.roster.chairs[p])) }
    let on := flag presses
    let chair (p : Pod) : Bool := (reasonsAt presses p).chair
    let key (p : Pod) : Bool :=
      match s.mutes.keyMode[p], talk p with
      | _, none => (s.mutes.reasons[p]).key
      | .toggle, some pressed => (s.mutes.reasons[p]).key != (pressed && !chair p)
      | .pushToTalk, some pressed => !pressed
      | .pushToMute, some pressed => pressed
    let reasons (p : Pod) : Reasons := { reasonsAt presses p with key := key p }
    let listed (l : List Pod) (p : Pod) : List Pod :=
      if talk p = some true ∧ chair p = true then
        if p ∈ l then l.filter (· ≠ p) else if l.length < 22 then l ++ [p] else l
      else l
    let cleared := if s.mutes.chairMute then 1 else 2
    let list (pods : List Pod) : List Pod := pods.foldl listed (if presses < cleared then s.mutes.talkList else [])
    let allReports (p : Pod) : List (Byte × List Byte) :=
      match all p with
      | none => []
      | some v =>
        (0xE3, [podByte p, 1, bit8 v, (reasonsAt (pressesTo p) p).byte, bit8 (flag (pressesTo p))]) ::
          if turns p = true ∧ pressesTo p = cleared ∧ s.mutes.talkList ≠ [] then [(0xE4, [5, 0, 0])] else []
    let talkReports (p : Pod) : List (Byte × List Byte) :=
      match talk p with
      | none => []
      | some v =>
        let l := list ((List.finRange 24).take p.1)
        (0xE3, [podByte p, 0, bit8 v, (reasons p).byte, bit8 on]) ::
          if v = true ∧ chair p = true then
            if p ∈ l then [(0xE4, [1, podByte p, u8 (l.filter (· ≠ p)).length])]
            else if l.length < 22 then [(0xE4, [0, podByte p, u8 (l.length + 1)])]
            else [(0xE4, [2, podByte p, u8 l.length])]
          else []
    let reports : List (Byte × List Byte) :=
      if s.control.mask.getLsbD 1 then
        (List.finRange 24).flatMap allReports ++ (List.finRange 24).flatMap talkReports
      else []
    ∃ t : State, exec (.mixPeriodBoundary order trunks) s = .next t ∧
      t.mutes = { s.mutes with
        chairMute := on, talkList := list (List.finRange 24), reasons := Vec.tab reasons
        talkKey := Vec.tab fun p => after s.mutes.talkKey[p] (talk p)
        allKey := Vec.tab fun p => after s.mutes.allKey[p] (all p), led := t.mutes.led } ∧
      (let queued := ((t.control.queue.drop s.control.queue.length).filter fun m =>
          m.type == 0xE3 || m.type == 0xE4).map fun m => (m.type, m.payload.drop 1)
       queued <+: reports ∧ (t.control.lost = false → queued = reports)) ∧
      ∀ p : Pod,
        let ramp := (s.ramps.localMute[p]).passed s.inForce.isSome
        let gateRamp := (s.ramps.gate[p]).passed s.inForce.isSome
        let q := s.automixer.params
        t.ramps.localMute[p] =
          (((List.range presses).foldl
            (fun r n => r.muteChange s.mutes.rampLength (reasonsAt n p) (reasonsAt (n + 1) p)) ramp).muteChange
              s.mutes.rampLength (reasonsAt presses p) (reasons p)).comeInForce ∧
        ((s.mutes.reasons[p]).muted = false → (reasons p).muted = true →
          ((s.gate p).state = .bypass → t.gate p = s.gate p) ∧
          ((s.gate p).state = .closed → (t.gate p).state = .closed) ∧
          ((s.gate p).state ≠ .bypass → (s.gate p).state ≠ .closed →
            t.gate p = { s.gate p with state := .closed, count := 0 } ∧ p ∉ t.automixer.waitQueue) ∧
          ((s.gate p).state = .opened ∨ (s.gate p).state = .hold → s.automixer.pendingParams = none →
            gateRamp.lastSetting ≠ .target (lin15 q.offAttenuation) q.release →
            t.ramps.gate[p] = (gateRamp.setTarget (lin15 q.offAttenuation) q.release).comeInForce))

/-- R23, R25, R153, R154, R159, R165, R167, R169, R170, R173: a player's frame at a boundary: first its ramp's arrival at
0, then the 16 positions in order. At each, an advancing player takes the sample at its next offset, with a page read where
the offset enters a page; a failed read gives 0, marks the page, damages and reports a READY clip, and sends a sounding
player with halt-on-error to ABORTING. A slot grant sends each PLAYING player with stop-on-speech to ABORTING, before or
after the players' own work as the order of the boundary says (log entry 3). A sample that ends its segment is that of
SEGMENT_END. The player's ramp has made the 16 moves of the period ended, its arrival clears the flag, and the fades that
this work sets come in force for the period opened; the reports of this work are queued. -/
def Obligations.PlayersFillTheirFrames : Prop :=
  let work (arrived : Player → Bool) (n : Player) (s : State) : State :=
    (List.finRange 16).foldl (State.playPosition n) (if arrived n then s.playerArrival n else s)
  (∀ (order : List Work) (trunks : Vector Frame 4) (s : State), s.outOfReset →
    let closed (n : Player) : Ramp := if s.inForce = none then s.ramps.player[n] else Ramp.move^[16] s.ramps.player[n]
    let arrived (n : Player) : Bool := (closed n).arrives && decide ((closed n).target = 0)
    let begun : State := { s with ramps := { s.ramps with
      player := Vec.tab fun n => (s.ramps.player[n]).passed s.inForce.isSome } }
    let agree (t u : State) : Prop :=
      t.players = u.players ∧ t.store = u.store ∧ t.inputs.players = u.inputs.players ∧
      (∀ n : Player, t.ramps.player[n] = (u.ramps.player[n]).comeInForce) ∧
      ∀ m ∈ u.control.queue.drop s.control.queue.length, t.control.lost = true ∨
        ∃ flags : Byte, { m with payload := flags :: m.payload.drop 1 } ∈ t.control.queue
    let named (w : Work) : Option Player := match w with
      | .player n => some n
      | _ => none
    let one : Player := (order.findSome? named).getD 0
    ((∀ n : Player, (s.player n).stopOnSpeech = false) →
      ∃ t : State, exec (.mixPeriodBoundary order trunks) s = .next t ∧
        agree t (work arrived (1 - one) (work arrived one begun))) ∧
    (s.quiet → ∃ t : State, exec (.mixPeriodBoundary [] trunks) s = .next t ∧
      agree t (work arrived 1 (work arrived 0 (State.grantsToPlayers s.automix.2 begun)))) ∧
    (s.quiet → ∃ t : State, exec (.mixPeriodBoundary [.player 0, .player 1] trunks) s = .next t ∧
      agree t (State.grantsToPlayers s.automix.2 (work arrived 1 (work arrived 0 begun))))) ∧
  (∀ (granted : List Pod) (n : Player) (s : State),
    let t := State.grantsToPlayers granted s
    let stops := granted ≠ [] ∧ (s.player n).stopOnSpeech = true ∧ (s.player n).state = .playing
    (stops → t.player n = { s.player n with state := .aborting, abortReason := some .speech } ∧
      t.ramps.player[n] = (s.ramps.player[n]).setTarget 0 4) ∧
    (¬ stops → t.player n = s.player n ∧ t.ramps.player[n] = s.ramps.player[n]) ∧ t.store = s.store) ∧
  ∀ (n : Player) (i : Fin 16) (s : State),
    let r := s.player n
    let pos := r.nextOffset / 256
    let slotted (x : PlayerSlot) (t : State) : State :=
      { t with inputs := { t.inputs with
          players := Vec.put s.inputs.players n (Vec.put s.inputs.players[n] i x) } }
    (r.advancing = false → s.playPosition n i = slotted { sample := 0, gain := 0 } s) ∧
    ∀ g : Segment, r.advancing = true → r.cue[r.current]? = some g →
      let size := match g.loopBlock with
        | .none => 0 | .b256 => 256 | .b512 => 512 | .b1024 => 1024 | .b2048 => 2048
      let wraps := g.loopBlock ≠ .none ∧ size * (g.start / size) + size ≤ r.nextOffset + 1
      let moved (passed : Bool) : PlayerRecord :=
        { r with played := r.played + 1
                 nextOffset := if wraps then size * (g.start / size) else r.nextOffset + 1
                 page := if wraps then none else some (pos, passed) }
      (g.playLength ≤ r.played + 1 → s.outOfReset → exec (.segmentEnd n i) s = .next (s.playPosition n i)) ∧
      (r.played + 1 < g.playLength →
        (r.page = some (pos, true) ∨ (r.page.map Prod.fst ≠ some pos ∧ s.store.passes g.clip pos = true) →
          s.playPosition n i = slotted { sample := s.store.sampleAt g.clip r.nextOffset, gain := g.gain }
            { s with players := Vec.put s.players n (moved true) }) ∧
        (r.page = some (pos, false) → s.playPosition n i = slotted { sample := 0, gain := g.gain }
          { s with players := Vec.put s.players n (moved false) }) ∧
        ∀ page : PageNumber, r.page.map Prod.fst ≠ some pos → s.store.passes g.clip pos = false →
          (s.store.clips[g.clip]).pages[pos]? = some page →
          let halts := r.haltOnError = true ∧ (r.state = .playing ∨ r.state = .paused)
          let k := s.store.clips[g.clip]
          let marked : ClipStore := { s.store with failed := Vec.put s.store.failed page true }
          let read : State :=
            if k.state = .ready then
              { s with store := { marked with
                  clips := Vec.put s.store.clips g.clip { k with state := .damaged, faultPage := some pos } } }.post .clip
                0xE9 (clipByte g.clip :: u16 pos ++ u16 page.1 ++ [playerByte n])
            else { s with store := marked }
          s.playPosition n i = slotted { sample := 0, gain := g.gain }
            { read with
              players := Vec.put s.players n
                (if halts then { moved false with state := .aborting, abortReason := some .fault } else moved false)
              ramps := if halts then
                  { s.ramps with player := Vec.put s.ramps.player n ((s.ramps.player[n]).setTarget 0 4) }
                else s.ramps })

/-! ### Pod links -/

/-- R27, R29, R30, R36, R38: what a frame candidate does to a link where it completes neither a lock nor a restart. A
malformed one is counted, but on a link that is OFF every candidate is ignored. -/
def Obligations.CandidatesOnAPodLink : Prop :=
  ∀ (p : Pod) (candidate : List Byte) (ok : Bool) (s : State), s.outOfReset →
    let l := s.links[p]
    (l.state = .off → exec (.micFrameArrival p candidate ok) s = .next s) ∧
    (l.state ≠ .off → ok = false ∨ decodeMicFrame candidate = none → exec (.micFrameArrival p candidate ok) s =
      .next { s with links := Vec.put s.links p { l with badFrames := min 65535 (l.badFrames + 1) } }) ∧
    ∀ f : MicFrame, ok = true → decodeMicFrame candidate = some f →
      let ahead := (f.sequence - l.expected).toNat
      let late := (l.expected - f.sequence).toNat
      let count := if f.sequence = l.expected then l.goodCount + 1 else 1
      let run := if 1 ≤ l.restartRun ∧ f.sequence = l.lastRestart + 1 then l.restartRun + 1 else 1
      (l.state = .absent → 2 ≤ s.linkParams.lockCount → exec (.micFrameArrival p candidate ok) s = .next
        ({ s with
            links := Vec.put s.links p
              { l with state := .acquiring, goodCount := 1, expected := f.sequence + 1, silenceRun := 0,
                       arrivalSeen := true } }.post .link 0xE2 [podByte p, 1, 2, 1])) ∧
      (l.state = .acquiring → count < s.linkParams.lockCount → exec (.micFrameArrival p candidate ok) s = .next
        { s with
            links := Vec.put s.links p
              { l with goodCount := count, expected := f.sequence + 1, arrivalSeen := true } }) ∧
      (l.state.takes = true →
        (ahead ≤ s.linkParams.window → exec (.micFrameArrival p candidate ok) s = .next
          { s with
              links := Vec.put s.links p
                { l with fifo := if l.fifo.length < 4 then l.fifo ++ [f] else l.fifo.drop 1 ++ [f]
                         slips := if l.fifo.length < 4 then l.slips else min 65535 (l.slips + 1)
                         expected := f.sequence + 1, restartRun := 0 } }) ∧
        (s.linkParams.window < ahead → late ≤ s.linkParams.window → exec (.micFrameArrival p candidate ok) s = .next
          { s with links := Vec.put s.links p { l with restartRun := 0 } }) ∧
        (s.linkParams.window < ahead → s.linkParams.window < late → run < 4 →
          exec (.micFrameArrival p candidate ok) s = .next
            { s with links := Vec.put s.links p { l with restartRun := run, lastRestart := f.sequence } }))

/-- R30, R32, R42, R43, R74, R87, R89, R92: the arrival that brings the good count to the lock count puts its frame first
in the FIFO and starts to settle, or locks at once with settle frames 0; with lock count 1 the first frame in ABSENT is
such an arrival. The take that brings the settle counter to the settle frames locks the link and removes FAULT; the gate
ramp is then set the target its gate state calls for, and the local mute ramp rises where no other reason is left. The
first take of a lock adopts both key levels, and KEY follows by the key mode. SETTLE_DONE as a command of its own places no
samples (log entry 8), and sets the gate ramp's target with the values in force (log entry 25). -/
def Obligations.LockAndSettle : Prop :=
  let faultGone (p : Pod) (r : Reasons) (s : State) : Ramps :=
    { s.ramps with
      gate := Vec.put s.ramps.gate p ((s.ramps.gate[p]).calledFor s.automixer.params (s.gate p).state)
      localMute := Vec.put s.ramps.localMute p
        (((s.ramps.localMute[p]).muteChange s.mutes.rampLength s.mutes.reasons[p]
          { s.mutes.reasons[p] with fault := false }).muteChange s.mutes.rampLength
            { s.mutes.reasons[p] with fault := false } r) }
  (∀ (p : Pod) (f : MicFrame) (s : State), s.outOfReset →
    let l := s.links[p]
    let count := if f.sequence = l.expected then l.goodCount + 1 else 1
    l.state = .acquiring → s.linkParams.lockCount ≤ count →
      (1 ≤ s.linkParams.settleFrames → exec (.lockCount p f) s = .next
        ({ s with
            links := Vec.put s.links p
              { l with state := .settling, goodCount := count, expected := f.sequence + 1, arrivalSeen := true,
                       fifo := [f], restartRun := 0, firstTake := true, settleCounter := 0 } }.post .link 0xE2
          [podByte p, 2, 3, 2])) ∧
      (s.linkParams.settleFrames = 0 → ∃ t : State, exec (.lockCount p f) s = .next t ∧
        t.links = Vec.put s.links p
          { l with state := .locked, goodCount := count, expected := f.sequence + 1, arrivalSeen := true, fifo := [f],
                   restartRun := 0, firstTake := true, coastRun := 0 } ∧
        t.mutes.reasons = Vec.put s.mutes.reasons p { s.mutes.reasons[p] with fault := false } ∧
        t.ramps = faultGone p { s.mutes.reasons[p] with fault := false } s ∧
        t.session = s.session ∧ t.store = s.store ∧ t.players = s.players ∧ t.alc = s.alc ∧ t.router = s.router ∧
        t.detectors = s.detectors ∧ t.automixer = s.automixer) ∧
      ∀ candidate : List Byte, decodeMicFrame candidate = some f →
        exec (.micFrameArrival p candidate true) s = exec (.lockCount p f) s) ∧
  (∀ (p : Pod) (f : MicFrame) (candidate : List Byte) (s : State), s.outOfReset → (s.links[p]).state = .absent →
    s.linkParams.lockCount ≤ 1 → decodeMicFrame candidate = some f →
    let l : Link :=
      { s.links[p] with
        goodCount := 1, expected := f.sequence + 1, silenceRun := 0, arrivalSeen := true, fifo := [f], restartRun := 0
        firstTake := true }
    exec (.micFrameArrival p candidate true) s = exec (.lockCount p f) s ∧
    (1 ≤ s.linkParams.settleFrames → exec (.lockCount p f) s = .next
      (({ s with links := Vec.put s.links p { l with state := .settling, settleCounter := 0 } }.post .link 0xE2
        [podByte p, 1, 2, 1]).post .link 0xE2 [podByte p, 2, 3, 2])) ∧
    (s.linkParams.settleFrames = 0 → ∃ t : State, exec (.lockCount p f) s = .next t ∧
      t.links = Vec.put s.links p { l with state := .locked, coastRun := 0 } ∧
      t.mutes.reasons = Vec.put s.mutes.reasons p { s.mutes.reasons[p] with fault := false } ∧
      t.ramps = faultGone p { s.mutes.reasons[p] with fault := false } s ∧
      t.session = s.session ∧ t.store = s.store ∧ t.players = s.players ∧ t.alc = s.alc ∧ t.router = s.router ∧
      t.detectors = s.detectors ∧ t.automixer = s.automixer)) ∧
  ∀ (p : Pod) (f : MicFrame) (rest : List MicFrame) (s : State), s.outOfReset →
    let l := s.links[p]
    l.state = .settling → l.fifo = f :: rest → s.linkParams.settleFrames ≤ l.settleCounter + 1 →
      ∃ t : State, exec (.settleDone p) s = .next t ∧
        t.links = Vec.put s.links p
          { l with state := .locked, fifo := rest, lastTaken := f, firstTake := false,
                   settleCounter := l.settleCounter + 1, coastRun := 0 } ∧
        (t.mutes.reasons[p]).fault = false ∧
        (l.firstTake = true → t.mutes.talkKey[p] = { pressed := f.talk, guardAge := 100 } ∧
          t.mutes.allKey[p] = { pressed := f.all, guardAge := 100 } ∧
          (t.mutes.reasons[p]).key = (s.mutes.keyMode[p]).keyAfter (s.mutes.reasons[p]).key f.talk ∧
          ∀ q : Pod, q ≠ p → t.mutes.reasons[q] = s.mutes.reasons[q]) ∧
        (GatesSound s → FaultSound s →
          l.firstTake = true ∨ (f.talk = (s.mutes.talkKey[p]).pressed ∧ f.all = (s.mutes.allKey[p]).pressed) →
          t.mutes.reasons[p] = { s.mutes.reasons[p] with fault := false, key := (t.mutes.reasons[p]).key } ∧
          (l.firstTake = false → (t.mutes.reasons[p]).key = (s.mutes.reasons[p]).key) ∧
          t.automixer = s.automixer ∧ t.ramps = faultGone p t.mutes.reasons[p] s) ∧
        t.session = s.session ∧ t.store = s.store ∧ t.players = s.players ∧ t.alc = s.alc ∧ t.router = s.router ∧
        t.detectors = s.detectors ∧ t.inputs = s.inputs

/-- R36, R42, R74, R87, R89, R95: the fourth out-of-window frame in a row of rising sequence restarts the link: it goes to
ACQUIRING with an empty FIFO and a good count of 1, and a pod that was LOCKED or COASTING gains FAULT, with its gate
closed unless it is in BYPASS and its gate ramp made to jump to 0. With lock count 1 the same frame completes a new lock:
the link settles, or, with settle frames 0, is LOCKED again and without FAULT, so that the gate ramp is set the target its
state calls for after the jump. KEY reverts by the key mode, and the local mute ramp follows each change of the reasons. -/
def Obligations.RestartDropsTheLock : Prop :=
  ∀ (p : Pod) (f : MicFrame) (s : State), s.outOfReset → GatesSound s → FaultSound s →
    let l := s.links[p]
    let relocks := s.linkParams.lockCount ≤ 1
    let locksAtOnce := s.linkParams.lockCount ≤ 1 ∧ s.linkParams.settleFrames = 0
    let old := s.mutes.reasons[p]
    let acquiring : Link :=
      { l with state := .acquiring, fifo := [], goodCount := 1, expected := f.sequence + 1, silenceRun := 0,
               arrivalSeen := true, settleCounter := 0, coastRun := 0, restartRun := 0, lastRestart := f.sequence }
    let relocked : Link :=
      { acquiring with
        fifo := [f], firstTake := true
        state := if s.linkParams.settleFrames = 0 then LinkState.locked else .settling }
    l.state.takes = true → s.linkParams.window < (f.sequence - l.expected).toNat →
    s.linkParams.window < (l.expected - f.sequence).toNat → 3 ≤ l.restartRun → f.sequence = l.lastRestart + 1 →
    ∃ t : State, exec (.restart p f) s = .next t ∧
      (∀ candidate : List Byte, decodeMicFrame candidate = some f →
        exec (.micFrameArrival p candidate true) s = .next t) ∧
      (¬ relocks → t.links = Vec.put s.links p acquiring) ∧ (relocks → t.links = Vec.put s.links p relocked) ∧
      (t.mutes.reasons[p]).fault = !decide locksAtOnce ∧
      t.mutes.reasons[p] = { old with
        fault := !decide locksAtOnce, key := (s.mutes.keyMode[p]).keyAfter old.key false } ∧
      (let jumped := if l.state.trusted then (s.ramps.gate[p]).jump 0 else s.ramps.gate[p]
       let muted := (s.ramps.localMute[p]).muteChange s.mutes.rampLength old { old with fault := true }
       t.ramps =
        if locksAtOnce then
          { s.ramps with
            gate := Vec.put s.ramps.gate p (jumped.calledFor s.automixer.params (t.gate p).state)
            localMute := Vec.put s.ramps.localMute p
              (muted.muteChange s.mutes.rampLength { old with fault := true } t.mutes.reasons[p]) }
        else
          { s.ramps with
            gate := Vec.put s.ramps.gate p jumped, localMute := Vec.put s.ramps.localMute p muted }) ∧
      (l.state.trusted = true → (t.ramps.gate[p]).pendingJump = some 0 ∧
        ((t.gate p).state = .closed ∨ (t.gate p).state = .bypass) ∧ p ∉ t.automixer.waitQueue) ∧
      (l.state = .settling → t.automixer = s.automixer) ∧
      (t.mutes.talkKey[p]).pressed = false ∧ (t.mutes.allKey[p]).pressed = false ∧
      (t.mutes.talkKey[p]).guardAge = (s.mutes.talkKey[p]).guardAge ∧ t.mutes.talkList = s.mutes.talkList ∧
      (∀ q : Pod, q ≠ p → t.mutes.reasons[q] = s.mutes.reasons[q] ∧ t.gate q = s.gate q) ∧
      t.session = s.session ∧ t.store = s.store ∧ t.players = s.players ∧ t.alc = s.alc ∧ t.router = s.router

/-- R31, R33, R34, R42, R74, R87, R95, R101: a silence run that reaches the unlock count loses an ACQUIRING link, and a
coast run that reaches it a LOCKED or COASTING one, which then carries FAULT, has an empty FIFO and released keys, with KEY
as the key mode makes it, its gate ramp made to jump to 0 and its local mute ramp sent to 0; in both the pod's request to
speak is dropped. That LINK_EVENT is queued before TALK_REQUEST is the model's choice (log entry 9). -/
def Obligations.SilenceAndUnlock : Prop :=
  ∀ (p : Pod) (s : State), s.outOfReset →
    let l := s.links[p]
    let run := if l.state = .coasting then l.coastRun + 1 else 1
    (l.state = .acquiring → s.linkParams.unlockCount ≤ (if l.arrivalSeen then 0 else l.silenceRun + 1) →
      let u := { s with
          links := Vec.put s.links p
            { l with state := .absent, goodCount := 0, silenceRun := 0, arrivalSeen := false } }.post .link 0xE2
            [podByte p, 2, 1, 6]
      let left := s.mutes.talkList.filter (· ≠ p)
      exec (.silence p) s = .next
        (if p ∈ s.mutes.talkList then
          { u with mutes := { u.mutes with talkList := left } }.post .key 0xE4 [4, podByte p, u8 left.length]
        else u)) ∧
    (l.state = .locked ∨ l.state = .coasting → l.fifo = [] → s.linkParams.unlockCount ≤ run → GatesSound s →
      ∃ t : State, exec (.unlock p) s = .next t ∧
        t.links = Vec.put s.links p
          { l with state := .absent, fifo := [], expected := 0, goodCount := 0, silenceRun := 0, settleCounter := 0,
                   coastRun := 0, restartRun := 0, arrivalSeen := false, firstTake := false } ∧
        (t.mutes.reasons[p]).fault = true ∧ (t.ramps.gate[p]).pendingJump = some 0 ∧
        t.mutes.reasons[p] = { s.mutes.reasons[p] with
          fault := true, key := (s.mutes.keyMode[p]).keyAfter (s.mutes.reasons[p]).key false } ∧
        t.ramps = { s.ramps with
          gate := Vec.put s.ramps.gate p ((s.ramps.gate[p]).jump 0)
          localMute := Vec.put s.ramps.localMute p
            ((s.ramps.localMute[p]).muteChange s.mutes.rampLength s.mutes.reasons[p] t.mutes.reasons[p]) } ∧
        ((t.gate p).state = .closed ∨ (t.gate p).state = .bypass) ∧
        t.mutes.talkList = s.mutes.talkList.filter (· ≠ p) ∧ (t.mutes.talkKey[p]).pressed = false ∧
        (t.mutes.allKey[p]).pressed = false ∧
        (∀ q : Pod, q ≠ p → t.mutes.reasons[q] = s.mutes.reasons[q] ∧ t.gate q = s.gate q) ∧
        t.session = s.session ∧ t.store = s.store ∧ t.players = s.players ∧ t.alc = s.alc ∧ t.router = s.router)

/-- R46, R47, R195, R203: SET_LINK_PARAMS clamps each value to its range and answers the values taken; GET_LINKS gives the
entries asked for, cut at pod 24, and clears their counters where it says so. That an OK answer of SET_LINK_PARAMS gives
the values too, and that a CLAMPED GET_LINKS has no byte of its own for the count taken, are the model's readings (log
entries 12 and 10). -/
def Obligations.LinkParametersAndStatus : Prop :=
  (∀ (tag lock : Byte) (settle : BitVec 16) (unlock window : Byte) (s : State), s.takes →
    let l := max 1 (min 64 lock.toNat)
    let st := min 1000 settle.toNat
    let un := max 1 (min 250 unlock.toNat)
    let w := min 7 window.toNat
    let status : Byte :=
      if l = lock.toNat ∧ st = settle.toNat ∧ un = unlock.toNat ∧ w = window.toNat then 0 else 1
    exec (.setLinkParams tag lock settle unlock window) s = .next
      { s.answered 0x90 tag (status :: u8 l :: u16 st ++ [u8 un, u8 w]) with
        linkParams := { lockCount := l, settleFrames := st, unlockCount := un, window := w } }) ∧
  (∀ (tag first count clear : Byte) (s : State), s.takes →
    first.toNat = 0 ∨ 24 < first.toNat ∨ 1 < clear.toNat →
    exec (.getLinks tag first count clear) s = .next (s.answered 0x91 tag [4])) ∧
  ∀ (tag count : Byte) (p : Pod) (clear : Bool) (s : State), s.takes →
    let n := max 1 (min 24 count.toNat)
    let listed := (List.finRange 24).filter fun q : Pod => decide (p ≤ q ∧ q.1 < p.1 + n)
    let progress (l : Link) : Nat :=
      if l.state = .acquiring then l.goodCount else if l.state = .settling then l.settleCounter else 0
    let run (l : Link) : Nat :=
      if l.state = .acquiring then l.silenceRun else if l.state.trusted then l.coastRun else 0
    let entry (q : Pod) : List Byte :=
      let l := s.links[q]
      [l.state.code, u8 l.fifo.length] ++ u16 (progress l) ++ [u8 (run l)] ++ u16 l.badFrames ++ u16 l.slips
    exec (.getLinks tag (podByte p) count (bit8 clear)) s = .next
      { s.answered 0x91 tag ((if n = count.toNat then 0 else 1) :: u8 listed.length :: listed.flatMap entry) with
        links := if clear then
            Vec.tab fun q => if p ≤ q ∧ q.1 < p.1 + n then { s.links[q] with badFrames := 0, slips := 0 } else s.links[q]
          else s.links }

/-! ### Levels -/

/-- R50: the frame level of an energy is the greatest step in -120..0 that the energy reaches, and -120 where it reaches
none; an energy E reaches step -j where E ≥ 2^34 × 10^(-j/20), which is E^20 × 10^j ≥ 2^680. The energy of a frame is the
exact sum of the squares of its samples. -/
def Obligations.FrameLevelIsTheGreatestStepReached : Prop :=
  (∀ f : Frame, levelOfFrame f = levelOf (∑ i : Fin 16, (f[i]).toInt.natAbs ^ 2)) ∧
  ∀ energy : Nat,
    (-120 ≤ levelOf energy ∧ levelOf energy ≤ 0) ∧
    (∀ j : Nat, j ≤ 120 → 2 ^ 680 ≤ energy ^ 20 * 10 ^ j → -(j : Int) ≤ levelOf energy) ∧
    (-120 < levelOf energy → 2 ^ 680 ≤ energy ^ 20 * 10 ^ (-levelOf energy).toNat)

/-- R52, R58, R60, R195: the update that brings a rise counter to 64 raises the noise floor by one step, but not above S;
GET_LEVELS and GET_OUTPUT_LEVELS give the entries asked for and clear the meters they list. That a CLAMPED answer
has no byte of its own for the count taken is the model's choice (log entry 10). -/
def Obligations.LevelsRiseAndAreRead : Prop :=
  (∀ (c : Channel) (s : State), s.outOfReset → (s.detectors[c]).noiseFloor ≤ (s.detectors[c]).smoothed →
    63 ≤ (s.detectors[c]).riseCounter → exec (.noiseFloorRise c) s = .next
      { s with
          detectors := Vec.put s.detectors c { s.detectors[c] with
            noiseFloor := min ((s.detectors[c]).noiseFloor + 1) (s.detectors[c]).smoothed, riseCounter := 0 } }) ∧
  (∀ (tag first count : Byte) (s : State), s.takes → first.toNat = 0 ∨ 30 < first.toNat →
    exec (.getLevels tag first count) s = .next (s.answered 0x94 tag [4]) ∧
    exec (.getOutputLevels tag first count) s = .next (s.answered 0x95 tag [4])) ∧
  ∀ (tag first count : Byte) (s : State), s.takes → 1 ≤ first.toNat → first.toNat ≤ 30 →
    let n := max 1 (min 30 count.toNat)
    let asked (c : Fin 30) : Bool := decide (first.toNat ≤ c.1 + 1 ∧ c.1 + 1 < first.toNat + n)
    let listed := (List.finRange 30).filter asked
    let status : Byte := if n = count.toNat then 0 else 1
    exec (.getLevels tag first count) s = .next
      { s.answered 0x94 tag (status :: u8 listed.length :: listed.flatMap fun c =>
          [i8 (s.detectors[c]).smoothed, i8 (s.detectors[c]).noiseFloor] ++ u16 (s.detectors[c]).peak) with
        detectors := Vec.tab fun c => if asked c then { s.detectors[c] with peak := 0 } else s.detectors[c] } ∧
    exec (.getOutputLevels tag first count) s = .next
      { s.answered 0x95 tag (status :: u8 listed.length :: listed.flatMap fun c =>
          u16 (s.outputMeters[c]).peak ++ [bit8 (s.outputMeters[c]).clip]) with
        outputMeters := Vec.tab fun c => if asked c then { peak := 0, clip := false } else s.outputMeters[c] }

/-! ### Gates -/

/-- R63, R65 to R68, R78, R84: the judgement that brings a count to the open count collects the channel's request to
speak; the one that brings a hold count to the hold frames closes the gate, unless the last-mic hold keeps the one
holder; the one that brings a wait to the hold frames ends it. As a command of its own each of these acts on its one
channel, and OPEN_COUNT_REACHED leaves the request for the next boundary (log entry 8). -/
def Obligations.GateEventsOfAJudgement : Prop :=
  ∀ (p : Pod) (s : State), s.outOfReset → (s.gate p).mode = .auto →
    let g := s.gate p
    let d := s.detectors[podChannel p]
    let q := s.automixer.params
    let above := d.noiseFloor + q.margin ≤ d.smoothed ∧ q.gateFloor ≤ d.smoothed
    let closing (cause : Byte) : State :=
      ({ s with automixer := { s.automixer with
          gates := Vec.put s.automixer.gates p { g with state := .closed, count := 0 }
          waitQueue := s.automixer.waitQueue.filter (· ≠ p)
          collected := s.automixer.collected.filter (· ≠ p) } }).post .gate 0xE5
        [podByte p, g.state.code, 0, cause]
    let faded (t : State) : State :=
      if (s.mutes.reasons[p]).fault then t
      else
        let faded := (s.ramps.gate[p]).setTarget (lin15 q.offAttenuation) q.release
        { t with ramps := { t.ramps with gate := Vec.put s.ramps.gate p faded } }
    (g.state = .pending → above → q.openCount ≤ g.count + 1 → p ∉ s.automixer.collected →
      exec (.openCountReached p) s = .next { s with automixer := { s.automixer with
        gates := Vec.put s.automixer.gates p { g with count := g.count + 1 }
        collected := s.automixer.collected ++ [p] } }) ∧
    (g.state = .closed → above → (s.mutes.reasons[p]).muted = false → q.openCount ≤ 1 →
      p ∉ s.automixer.collected →
      ∃ t : State, exec (.openCountReached p) s = .next t ∧
        t.gate p = { g with state := .pending, count := 1 } ∧ p ∈ t.automixer.collected ∧
        (∀ r : Pod, r ≠ p → t.gate r = s.gate r) ∧ t.mutes = s.mutes ∧ t.links = s.links) ∧
    (g.state = .hold → ¬ above → q.holdFrames ≤ g.count + 1 →
      s.holders ≠ [p] ∨ q.lastMicHold = false ∨ s.automixer.waitQueue ≠ [] →
      exec (.holdExpiry p) s = .next (faded (closing 2))) ∧
    (g.state = .hold → ¬ above → q.holdFrames ≤ g.count + 1 →
      s.holders = [p] → q.lastMicHold = true → s.automixer.waitQueue = [] →
      exec (.holdExpiry p) s = .next { s with automixer := { s.automixer with
        gates := Vec.put s.automixer.gates p
          { g with count := if g.count < q.holdFrames then g.count + 1 else g.count } } }) ∧
    (g.state = .waiting → ¬ above → q.holdFrames ≤ g.count + 1 →
      exec (.waitTimeout p) s = .next (faded (closing 3)))

/-- R64, R69, R76, R78, R81, R84, R195: SET_AUTOMIX clamps its values, answers those taken, and leaves them for the next
boundary; only an on/off value outside 0 and 1 is refused. That an OK answer gives the values too is the model's reading
(log entry 12). SET_GATE sets the priority and the mode of a pod at once. A change to BYPASS of a pod in the roster goes to
BYPASS, a change to AUTO goes to CLOSED; both leave the wait queue, are reported, and retarget the gate ramp. -/
def Obligations.AutomixerSettings : Prop :=
  ((∀ (tag limit margin gateFloor openCount : Byte) (holdFrames : BitVec 16) (attack release offAtt : Byte) (last : Bool)
     (s : State), s.takes →
     let l := max 1 (min 8 limit.toNat)
     let q : AutomixParams :=
       { margin := max 4 (min 60 (margin.toNat : Int)), gateFloor := max (-120) (min 0 gateFloor.toInt),
         openCount := max 1 (min 16 openCount.toNat), holdFrames := max 1 (min 2000 holdFrames.toNat),
         attack := max 1 (min 16 attack.toNat), release := max 1 (min 250 release.toNat),
         offAttenuation := max (-120) (min 0 offAtt.toInt), lastMicHold := last }
     let status : Byte :=
       if l = limit.toNat ∧ q.margin = margin.toNat ∧ q.gateFloor = gateFloor.toInt ∧ q.openCount = openCount.toNat ∧
         q.holdFrames = holdFrames.toNat ∧ q.attack = attack.toNat ∧ q.release = release.toNat ∧
         q.offAttenuation = offAtt.toInt then 0 else 1
     exec (.setAutomix tag limit margin gateFloor openCount holdFrames attack release offAtt (bit8 last)) s = .next
       { s.answered 0x98 tag ([status, u8 l, i8 q.margin, i8 q.gateFloor, u8 q.openCount] ++ u16 q.holdFrames ++
           [u8 q.attack, u8 q.release, i8 q.offAttenuation, bit8 last]) with
         automixer := { s.automixer with pendingLimit := some l, pendingParams := some q } }) ∧
   ∀ (tag limit margin gateFloor openCount : Byte) (holdFrames : BitVec 16) (attack release offAtt last : Byte)
     (s : State), s.takes → 1 < last.toNat →
     exec (.setAutomix tag limit margin gateFloor openCount holdFrames attack release offAtt last) s =
       .next (s.answered 0x98 tag [4])) ∧
  ((∀ (tag channel mode priority : Byte) (s : State), s.takes →
     channel.toNat = 0 ∨ 24 < channel.toNat ∨ 1 < mode.toNat ∨ 3 < priority.toNat →
     exec (.setGate tag channel mode priority) s = .next (s.answered 0x99 tag [4])) ∧
   ∀ (tag priority : Byte) (p : Pod) (mode : GateMode) (s : State), s.takes → priority.toNat ≤ 3 →
     let g := s.gate p
     let u := s.answered 0x99 tag [0, mode.code, priority]
     let gates (state : GateState) (count : Nat) : Vector Gate 24 :=
       Vec.put s.automixer.gates p { mode := mode, priority := priority.toNat, state := state, count := count }
     let moved (state : GateState) : State :=
       ({ u with automixer := { s.automixer with
           gates := gates state 0, waitQueue := s.automixer.waitQueue.filter (· ≠ p)
           collected := s.automixer.collected.filter (· ≠ p) } }).post .gate 0xE5
         [podByte p, g.state.code, state.code, 7]
     let onRamp (f : Ramp → Ramp) (t : State) : State :=
       if (s.mutes.reasons[p]).fault then t
       else { t with ramps := { t.ramps with gate := Vec.put s.ramps.gate p (f s.ramps.gate[p]) } }
     let opens (r : Ramp) : Ramp := r.setTarget 32768 s.automixer.params.attack
     let closes (r : Ramp) : Ramp := r.setTarget (lin15 s.automixer.params.offAttenuation) s.automixer.params.release
     (g.mode = mode → exec (.setGate tag (podByte p) mode.code priority) s = .next
       { u with automixer := { s.automixer with gates := gates g.state g.count } }) ∧
     (g.mode = .auto → mode = .bypass → s.session.roster.pods[p] = true → g.state ≠ .bypass →
       exec (.setGate tag (podByte p) mode.code priority) s = .next (onRamp opens (moved .bypass))) ∧
     (g.mode = .auto → mode = .bypass → s.session.roster.pods[p] = false → g.state = .closed →
       exec (.setGate tag (podByte p) mode.code priority) s =
         .next (onRamp closes { u with automixer := { s.automixer with gates := gates g.state g.count } })) ∧
     (g.mode = .bypass → mode = .auto → g.state = .closed →
       exec (.setGate tag (podByte p) mode.code priority) s =
         .next (onRamp closes { u with automixer := { s.automixer with gates := gates g.state g.count } })) ∧
     (g.mode = .bypass → mode = .auto → g.state = .bypass →
       exec (.setGate tag (podByte p) mode.code priority) s = .next (onRamp closes (moved .closed))))

/-! ### Mutes, keys and requests to speak -/

/-- R73, R78, R86, R87, R90, R101 to R103: SET_MUTE sets HOST of a pod or trunk, and its ramp follows where that changes
whether the channel is muted; a pod that becomes muted has its gate closed and its gate ramp sent to the off-attenuation
with the release length, unless it carries FAULT (requests use State.setReasons, whose effect the second part says).
CLEAR_REASONS removes KEY, CHAIR or both from a pod; a pod of the talk-request list that loses CHAIR leaves it as admitted.
KEY can be removed only in mode TOGGLE. -/
def Obligations.SetMuteAndClearReasons : Prop :=
  ((∀ (tag : Byte) (p : Pod) (host : Bool) (s : State), s.takes →
     let r : Reasons := { s.mutes.reasons[p] with host := host }
     exec (.setMute tag (podByte p) (bit8 host)) s = .next ((s.answered 0xA0 tag [0, r.byte]).setReasons p r)) ∧
   (∀ (tag : Byte) (k : Trunk) (host : Bool) (s : State), s.takes →
     let u := s.answered 0xA0 tag [0, if host then 2 else 0]
     exec (.setMute tag (trunkByte k) (bit8 host)) s = .next
       (if s.mutes.trunkHost[k] = host then u
       else { u with
         mutes := { u.mutes with trunkHost := Vec.put s.mutes.trunkHost k host }
         ramps := { u.ramps with
           trunkMute := Vec.put s.ramps.trunkMute k
             ((s.ramps.trunkMute[k]).setTarget (if host then 0 else 32768) s.mutes.rampLength) } })) ∧
   (∀ (tag channel host : Byte) (s : State), s.takes → channel.toNat = 0 ∨ 28 < channel.toNat ∨ 1 < host.toNat →
     exec (.setMute tag channel host) s = .next (s.answered 0xA0 tag [4])) ∧
   ∀ (p : Pod) (r : Reasons) (s : State),
     let before := (s.mutes.reasons[p]).muted
     let u := { s with mutes := { s.mutes with reasons := Vec.put s.mutes.reasons p r } }
     let onMuteRamp (target : Nat) : State :=
       let moved := (s.ramps.localMute[p]).setTarget target s.mutes.rampLength
       { u with ramps := { u.ramps with localMute := Vec.put s.ramps.localMute p moved } }
     (before = r.muted → s.setReasons p r = u) ∧
     (before = true → r.muted = false → s.setReasons p r = onMuteRamp 32768) ∧
     (before = false → r.muted = true → (s.gate p).state = .closed ∨ (s.gate p).state = .bypass →
       s.setReasons p r = onMuteRamp 0) ∧
     (before = false → r.muted = true → (s.gate p).state ≠ .closed → (s.gate p).state ≠ .bypass →
       let closed := ({ onMuteRamp 0 with automixer := { s.automixer with
             gates := Vec.put s.automixer.gates p { s.gate p with state := .closed, count := 0 }
             waitQueue := s.automixer.waitQueue.filter (· ≠ p)
             collected := s.automixer.collected.filter (· ≠ p) } }).post .gate 0xE5
           [podByte p, (s.gate p).state.code, 0, 6]
       let faded := (s.ramps.gate[p]).setTarget (lin15 s.automixer.params.offAttenuation) s.automixer.params.release
       s.setReasons p r = if r.fault then closed
         else { closed with ramps := { closed.ramps with gate := Vec.put s.ramps.gate p faded } })) ∧
  ((∀ (tag channel reasons : Byte) (s : State), s.takes →
     channel.toNat = 0 ∨ 24 < channel.toNat ∨ (reasons ≠ 1 ∧ reasons ≠ 4 ∧ reasons ≠ 5) →
     exec (.clearReasons tag channel reasons) s = .next (s.answered 0xA1 tag [4])) ∧
   (∀ (tag reasons : Byte) (p : Pod) (s : State), s.takes → reasons = 1 ∨ reasons = 5 →
     s.mutes.keyMode[p] ≠ .toggle →
     exec (.clearReasons tag (podByte p) reasons) s = .next (s.answered 0xA1 tag [5])) ∧
   ∀ (tag : Byte) (p : Pod) (key chair : Bool) (s : State), s.takes → key = true ∨ chair = true →
     key = false ∨ s.mutes.keyMode[p] = .toggle →
     let old := s.mutes.reasons[p]
     let r : Reasons := { old with key := old.key && !key, chair := old.chair && !chair }
     let u := (s.answered 0xA1 tag [0, r.byte]).setReasons p r
     let left := s.mutes.talkList.filter (· ≠ p)
     exec (.clearReasons tag (podByte p) ((if key then 1 else 0) + if chair then 4 else 0)) s = .next
       (if chair = true ∧ p ∈ s.mutes.talkList then
         { u with mutes := { u.mutes with talkList := left } }.post .key 0xE4 [3, podByte p, u8 left.length]
       else u))

/-- R73, R78, R84, R87, R88, R96 to R98, R101, R109: SET_PRIVACY sets the flag and, with a change of it, sends all 24
privacy ramps to 0 or to full scale with the mute ramp length; SET_CHAIR_MUTE sets the flag and, with a change of it, gives
CHAIR to every pod of the roster that is not a chair pod, or takes it from every pod and empties the talk-request list,
with one LIST_CLEARED if it held an entry. The local mute ramp of each pod that becomes or ceases to be muted follows; a
pod that becomes muted has its gate closed and reported, in ascending order, and its gate ramp sent to the off-attenuation.
That these reports come in ascending order of pod is the model's choice (log entry 9). -/
def Obligations.PrivacyAndChairMute : Prop :=
  (∀ (tag : Byte) (on : Bool) (s : State), s.takes →
    let u := s.answered 0xA2 tag [0, bit8 on]
    exec (.setPrivacy tag (bit8 on)) s = .next
      (if s.mutes.privacy = on then u
      else { u with
        mutes := { u.mutes with privacy := on }
        ramps := { u.ramps with privacy := Vec.tab fun p =>
          (s.ramps.privacy[p]).setTarget (if on then 0 else 32768) s.mutes.rampLength } })) ∧
  (∀ (tag value : Byte) (s : State), s.takes → 1 < value.toNat →
    exec (.setPrivacy tag value) s = .next (s.answered 0xA2 tag [4]) ∧
    exec (.setChairMute tag value) s = .next (s.answered 0xA3 tag [4])) ∧
  ∀ (tag : Byte) (on : Bool) (s : State), s.takes →
    let u := s.answered 0xA3 tag [0, bit8 on]
    let old (p : Pod) : Reasons := s.mutes.reasons[p]
    let new (p : Pod) : Reasons := { old p with
      chair := on && ((old p).chair || (s.session.roster.pods[p] && !s.session.roster.chairs[p])) }
    let closes (p : Pod) : Bool := !(old p).muted && (new p).muted &&
      decide ((s.gate p).state ≠ .closed ∧ (s.gate p).state ≠ .bypass)
    let q := s.automixer.params
    let reports : List (Category × Byte × List Byte) :=
      if on then
        ((List.finRange 24).filter closes).map fun p => (.gate, 0xE5, [podByte p, (s.gate p).state.code, 0, 6])
      else if s.mutes.talkList = [] then [] else [(.key, 0xE4, [5, 0, 0])]
    exec (.setChairMute tag (bit8 on)) s = .next
      (if s.mutes.chairMute = on then u
      else { u with
        mutes := { s.mutes with
          chairMute := on, reasons := Vec.tab new, talkList := if on then s.mutes.talkList else [] }
        automixer := { s.automixer with
          gates := Vec.tab fun p => if closes p then { s.gate p with state := .closed, count := 0 } else s.gate p
          waitQueue := s.automixer.waitQueue.filter fun p => !closes p
          collected := s.automixer.collected.filter fun p => !closes p }
        ramps := { s.ramps with
          localMute := Vec.tab fun p => (s.ramps.localMute[p]).muteChange s.mutes.rampLength (old p) (new p)
          gate := Vec.tab fun p =>
            if closes p then (s.ramps.gate[p]).setTarget (lin15 q.offAttenuation) q.release else s.ramps.gate[p] }
        control := (reports.foldl (fun t e => t.post e.1 e.2.1 e.2.2) u).control })

/-- R95, R104, R105: SET_KEY_MODE sets the mode of a pod and makes KEY follow the accepted level of its TALK key;
SET_KEY_GUARD and SET_MUTE_RAMP clamp their one value. That an OK answer gives the value too is the model's reading (log
entry 12). -/
def Obligations.KeySettings : Prop :=
  (∀ (tag channel mode : Byte) (s : State), s.takes → channel.toNat = 0 ∨ 24 < channel.toNat ∨ 2 < mode.toNat →
    exec (.setKeyMode tag channel mode) s = .next (s.answered 0xA4 tag [4])) ∧
  (∀ (tag : Byte) (p : Pod) (mode : KeyMode) (s : State), s.takes →
    let old := s.mutes.reasons[p]
    let pressed := (s.mutes.talkKey[p]).pressed
    let r : Reasons := { old with key := match mode with
      | .toggle => old.key | .pushToTalk => !pressed | .pushToMute => pressed }
    let u (r : Reasons) : State := s.answered 0xA4 tag [0, r.byte]
    (s.mutes.keyMode[p] = mode → exec (.setKeyMode tag (podByte p) mode.code) s = .next (u old)) ∧
    (s.mutes.keyMode[p] ≠ mode → exec (.setKeyMode tag (podByte p) mode.code) s = .next
      ({ u r with mutes := { s.mutes with keyMode := Vec.put s.mutes.keyMode p mode } }.setReasons p r))) ∧
  ∀ (tag value : Byte) (s : State), s.takes →
    let age := min 100 value.toNat
    let length := max 1 (min 64 value.toNat)
    exec (.setKeyGuard tag value) s = .next
      { s.answered 0xA5 tag [if age = value.toNat then 0 else 1, u8 age] with
        mutes := { s.mutes with keyGuard := age } } ∧
    exec (.setMuteRamp tag value) s = .next
      { s.answered 0xA6 tag [if length = value.toNat then 0 else 1, u8 length] with
        mutes := { s.mutes with rampLength := length } }

/-! ### The level controller -/

/-- R115 to R123, R130: at each boundary an enabled controller counts, for every channel that is not held, the frame of a
gate that was OPEN or in BYPASS without a local reason, and its level; and the interval's position moves on. At an
interval's end every channel that is not held and has enough qualifying frames is evaluated: it agrees, jumps, or counts a
step, which moves the gain once enough recommendations in a row agree and the toggle filter lets it; every count and sum
then starts again, and a jump is reported. -/
def Obligations.FramesAreCountedAndIntervalsEnd : Prop :=
  (∀ s : State, s.outOfReset → s.alc.params.enable = true → s.alc.params.interval ≤ s.alc.position + 1 →
     let q := s.alc.params
     ∃ t : State, exec .intervalEnd s = .next t ∧ t = { s with alc := t.alc, control := t.control } ∧
       t.alc.position = 0 ∧ t.alc.params = q ∧
       (s.control.mask.getLsbD 3 = false → t.control = s.control) ∧
       ∀ p : Pod,
         let r := s.alc.records[p]
         let e := t.alc.records[p]
         let mean := r.levelSum / r.qualifying
         let want := max (-24) (min 36 (q.target - mean))
         let diff := want - r.gain
         let shifted := diff.tdiv (2 ^ q.shift)
         let step : Int := max (-(q.slew : Int)) (min q.slew (if shifted = 0 then (if 0 < diff then 1 else -1) else shifted))
         let sign : Sign := if 0 < step then .up else .down
         let run := if r.lastSign = some sign then r.agreementRun + 1 else 1
         let evaluated := r.held = false ∧ q.interval ≤ 2 * r.qualifying
         let jumps := q.autoJump = true ∧ q.jumpLimit < diff.natAbs
         let stopped := q.toggleFilter = true ∧
           ∃ older later : Sign, r.history = [older, later] ∧ older ≠ later ∧ sign ≠ later
         (e.qualifying = 0 ∧ e.levelSum = 0 ∧ e.held = r.held) ∧
         (¬ evaluated → e = { r with qualifying := 0, levelSum := 0 }) ∧
         (evaluated → diff = 0 →
           e = { r with qualifying := 0, levelSum := 0, agreementRun := 0, lastSign := none }) ∧
         (evaluated → diff ≠ 0 → jumps → e = { AlcRecord.reset with gain := want, held := r.held } ∧
           (s.control.mask.getLsbD 3 = true → t.control.lost = true ∨ ∃ flags : Byte,
             { isReport := true, type := 0xE6, tag := 0,
               payload := [flags, podByte p, i8 r.gain, i8 want, i8 mean, u8 r.qualifying] } ∈ t.control.queue)) ∧
         (evaluated → diff ≠ 0 → ¬ jumps → run < q.postCount →
           e = { r with qualifying := 0, levelSum := 0, agreementRun := run, lastSign := some sign }) ∧
         (evaluated → diff ≠ 0 → ¬ jumps → q.postCount ≤ run → stopped →
           e = { r with qualifying := 0, levelSum := 0, agreementRun := 0, lastSign := some sign }) ∧
         (evaluated → diff ≠ 0 → ¬ jumps → q.postCount ≤ run → ¬ stopped →
           e = { r with qualifying := 0, levelSum := 0, agreementRun := 0, lastSign := some sign
                        gain := max (-24) (min 36 (r.gain + step))
                        history := match r.history with
                          | [] => [sign]
                          | [a] => [a, sign]
                          | _ :: b :: _ => [b, sign] })) ∧
  ∀ (order : List Work) (trunks : Vector Frame 4) (s : State), s.outOfReset →
    ∃ t : State, exec (.mixPeriodBoundary order trunks) s = .next t ∧
      (s.alc.params.enable = false → t.alc = s.alc) ∧
      (s.alc.params.enable = true →
        let counted (p : Pod) : AlcRecord :=
          let r := s.alc.records[p]
          match (s.detectors[podChannel p]).frameLevel with
          | none => r
          | some level =>
            if r.held = false ∧ ((s.gate p).state = .opened ∨ (s.gate p).state = .bypass) ∧
              (s.mutes.reasons[p]).muted = false
            then { r with qualifying := r.qualifying + 1, levelSum := r.levelSum + level } else r
        let u : State := { s with alc := { s.alc with records := Vec.tab counted } }
        (s.alc.position + 1 < s.alc.params.interval → t.alc = { u.alc with position := s.alc.position + 1 }) ∧
        (s.alc.params.interval ≤ s.alc.position + 1 → ∃ e : State, exec .intervalEnd u = .next e ∧ t.alc = e.alc))

/-- R124 to R127, R195: SET_ALC clamps its amounts and answers the values taken; a disable clears every record but its
held flag, an enable or a new interval restarts the interval; HOLD_ALC freezes or releases one gain. -/
def Obligations.SetAlcAndHoldAlc : Prop :=
  (∀ (tag target shift slew jumpLimit postCount : Byte) (enable autoJump toggle : Bool) (interval : Byte) (s : State),
    s.takes → interval = 1 ∨ interval = 16 ∨ interval = 64 →
    let q : AlcParams :=
      { enable := enable, target := max (-60) (min 0 target.toInt), interval := interval.toNat
        shift := min 3 shift.toNat, slew := max 1 (min 24 slew.toNat), jumpLimit := max 4 (min 60 jumpLimit.toNat)
        autoJump := autoJump, postCount := max 1 (min 6 postCount.toNat), toggleFilter := toggle }
    let status : Byte :=
      if q.target = target.toInt ∧ q.shift = shift.toNat ∧ q.slew = slew.toNat ∧ q.jumpLimit = jumpLimit.toNat ∧
        q.postCount = postCount.toNat then 0 else 1
    let restarted := (s.alc.params.enable = false ∧ enable = true) ∨ s.alc.params.interval ≠ interval.toNat
    exec (.setAlc tag (bit8 enable) target interval shift slew jumpLimit (bit8 autoJump) postCount (bit8 toggle)) s =
      .next { s.answered 0xB0 tag [status, bit8 enable, i8 q.target, interval, u8 q.shift, u8 q.slew, u8 q.jumpLimit,
                                   bit8 autoJump, u8 q.postCount, bit8 toggle] with
        alc := if s.alc.params.enable = true ∧ enable = false then
            { params := q, position := 0
              records := Vec.tab fun p => { AlcRecord.reset with held := (s.alc.records[p]).held } }
          else if restarted then
            { params := q, position := 0
              records := Vec.tab fun p => { s.alc.records[p] with qualifying := 0, levelSum := 0 } }
          else { s.alc with params := q } }) ∧
  (∀ (tag enable target interval shift slew jumpLimit autoJump postCount toggle : Byte) (s : State), s.takes →
    1 < enable.toNat ∨ 1 < autoJump.toNat ∨ 1 < toggle.toNat ∨ (interval ≠ 1 ∧ interval ≠ 16 ∧ interval ≠ 64) →
    exec (.setAlc tag enable target interval shift slew jumpLimit autoJump postCount toggle) s =
      .next (s.answered 0xB0 tag [4])) ∧
  (∀ (tag channel action : Byte) (s : State), s.takes → channel.toNat = 0 ∨ 24 < channel.toNat ∨ 1 < action.toNat →
    exec (.holdAlc tag channel action) s = .next (s.answered 0xB1 tag [4])) ∧
  ∀ (tag : Byte) (p : Pod) (s : State), s.takes →
    let r := s.alc.records[p]
    let held : AlcRecord := if r.held then r else { AlcRecord.reset with gain := r.gain, held := true }
    exec (.holdAlc tag (podByte p) 0) s = .next { s.answered 0xB1 tag [0, 1, i8 r.gain] with
      alc := { s.alc with records := Vec.put s.alc.records p held } } ∧
    exec (.holdAlc tag (podByte p) 1) s = .next { s.answered 0xB1 tag [0, 0, i8 r.gain] with
      alc := { s.alc with records := Vec.put s.alc.records p { r with held := false } } }

/-! ### The feed router -/

/-- R132, R135 to R140, R195: each setting of the feed router is taken, clamped where it is an amount, and answered; a
new duck depth sends the ducked feeds to it. That an OK answer gives the values too, and that a new depth uses the attack
length last taken, are the model's readings (log entries 12 and 22). -/
def Obligations.FeedSettings : Prop :=
  ∀ (tag : Byte) (s : State), s.takes →
    let set (type : Byte) (payload : List Byte) (f : Feeds → Feeds) : State :=
      { s.answered type tag payload with router := { s.router with feeds := f s.router.feeds } }
    let taken (hi : Int) (b : Byte) : Int := max (-120) (min hi b.toInt)
    let status (hi : Int) (b : Byte) : Byte := if taken hi b = b.toInt then 0 else 1
    (∀ (p : Pod) (zone : Byte), zone.toNat ≤ 8 → exec (.setZone tag (podByte p) zone) s =
      .next (set 0xB8 [0, podByte p, zone] fun f => { f with zone := Vec.put f.zone p zone.toNat })) ∧
    (∀ pod zone : Byte, pod.toNat = 0 ∨ 24 < pod.toNat ∨ 8 < zone.toNat →
      exec (.setZone tag pod zone) s = .next (s.answered 0xB8 tag [4])) ∧
    (∀ depth : Byte,
      let d := max (-40) (min 0 depth.toInt)
      let u := s.answered 0xB9 tag [if d = depth.toInt then 0 else 1, i8 d]
      let attack := (s.automixer.pendingParams.getD s.automixer.params).attack
      exec (.setDuck tag depth) s = .next
        (if s.router.duckDepth = d then u
        else { u with
          router := { s.router with duckDepth := d }
          ramps := { s.ramps with duck := Vec.tab fun j =>
            if s.router.duckActive[j] then (s.ramps.duck[j]).setTarget (lin15 d) attack else s.ramps.duck[j] } })) ∧
    (∀ (p : Pod) (b : Byte),
      exec (.setFader tag (podByte p) b) s = .next (set 0xBA [status 24 b, podByte p, i8 (taken 24 b)] fun f =>
        { f with podFader := Vec.put f.podFader p (taken 24 b) }) ∧
      exec (.setVolume tag (podByte p) b) s = .next (set 0xBB [status 0 b, podByte p, i8 (taken 0 b)] fun f =>
        { f with volume := Vec.put f.volume p (taken 0 b) })) ∧
    (∀ (k : Trunk) (b : Byte),
      exec (.setFader tag (trunkByte k) b) s = .next (set 0xBA [status 24 b, trunkByte k, i8 (taken 24 b)] fun f =>
        { f with trunkFader := Vec.put f.trunkFader k (taken 24 b) }) ∧
      exec (.setSendGain tag (trunkByte k) b) s = .next (set 0xBC [status 0 b, trunkByte k, i8 (taken 0 b)] fun f =>
        { f with sendGain := Vec.put f.sendGain k (taken 0 b) })) ∧
    (∀ channel b : Byte, channel.toNat = 0 ∨ 28 < channel.toNat →
      exec (.setFader tag channel b) s = .next (s.answered 0xBA tag [4])) ∧
    (∀ pod b : Byte, pod.toNat = 0 ∨ 24 < pod.toNat →
      exec (.setVolume tag pod b) s = .next (s.answered 0xBB tag [4])) ∧
    (∀ channel b : Byte, channel.toNat < 25 ∨ 28 < channel.toNat →
      exec (.setSendGain tag channel b) s = .next (s.answered 0xBC tag [4])) ∧
    (∀ (bus : RecordBus) (room far prompt : Bool) (b : Byte),
      let number := u8 (bus.1 + 29)
      let flags := (if room then 1 else 0) + (if far then 2 else 0) + if prompt then 4 else 0
      exec (.setRecord tag number flags b) s = .next (set 0xBD [status 0 b, number, flags, i8 (taken 0 b)] fun f =>
        { f with record := Vec.put f.record bus { room := room, far := far, prompt := prompt, gain := taken 0 b } })) ∧
    ∀ bus flags b : Byte, bus.toNat < 29 ∨ 30 < bus.toNat ∨ 7 < flags.toNat →
      exec (.setRecord tag bus flags b) s = .next (s.answered 0xBD tag [4])

/-! ### The clip store -/

/-- R144, R146, R147: CLIP_BEGIN makes its checks in order; one that is taken moves the lowest-numbered free pages, with
every slot 0 and no failed mark, to the clip, which is LOADING. That their stored checks, then without meaning, stand as
they were is the model's choice (log entry 7). -/
def Obligations.ClipBegin : Prop :=
  (∀ (tag clip : Byte) (length : BitVec 24) (s : State), s.takes → clip.toNat = 0 ∨ 32 < clip.toNat →
    exec (.clipBegin tag clip length) s = .next (s.answered 0xC0 tag [4])) ∧
  ∀ (tag : Byte) (c : ClipId) (length : BitVec 24) (s : State), s.takes →
    let n := (length.toNat + 255) / 256
    let refused (status : Byte) : Prop :=
      exec (.clipBegin tag (clipByte c) length) s = .next (s.answered 0xC0 tag [status])
    let allowed := 1 ≤ length.toNat ∧ length.toNat ≤ 131072
    ((s.store.clips[c]).state ≠ .empty → refused 7) ∧
    ((s.store.clips[c]).state = .empty → s.store.loading ≠ none → refused 6) ∧
    ((s.store.clips[c]).state = .empty → s.store.loading = none → ¬ allowed → refused 4) ∧
    ((s.store.clips[c]).state = .empty → s.store.loading = none → allowed → s.store.free.length < n → refused 8) ∧
    ((s.store.clips[c]).state = .empty → s.store.loading = none → allowed → n ≤ s.store.free.length →
      ∃ t : State, exec (.clipBegin tag (clipByte c) length) s = .next t ∧
        t = { s.answered 0xC0 tag (0 :: clipByte c :: u16 n ++ u16 (s.store.free.length - n)) with store := t.store } ∧
        t.store.clips = Vec.put s.store.clips c
          { state := .loading, declared := length.toNat, loaded := 0, pages := s.store.free.take n, references := 0,
            faultPage := none } ∧
        t.store.free = s.store.free.drop n ∧ t.store.loading = some c ∧ t.store.checks = s.store.checks ∧
        ∀ g : PageNumber,
          (g ∈ s.store.free.take n → t.store.failed[g] = false ∧
            ∀ o : Fin 256, Memory.sample t.store.memory g o = 0) ∧
          (g ∉ s.store.free.take n →
            t.store.failed[g] = s.store.failed[g] ∧
            ∀ o : Fin 256, Memory.sample t.store.memory g o = Memory.sample s.store.memory g o))

/-- R144, R148, R149: CLIP_DATA makes its checks in order and answers each refusal with the clip's state and loaded count;
a chunk that is taken is written at the loaded count, slot by slot, each page that it completes has its check formed, and
no other check changes. The check is the remainder, by x^16 + x^12 + x^5 + 1 over the integers modulo 2, of the samples'
bits, most significant first, behind an initial value of 0xFFFF; a change confined to one sample gives a different one. -/
def Obligations.ClipData : Prop :=
  (∀ l : List Sample,
    let n := 16 * l.length
    let bit (b : Bool) (k : Nat) : Polynomial (ZMod 2) := if b then Polynomial.X ^ k else 0
    let check := crc16 (bytesOfSamples l)
    (Polynomial.X ^ 16 + Polynomial.X ^ 12 + Polynomial.X ^ 5 + 1 : Polynomial (ZMod 2)) ∣
      (∑ j ∈ Finset.range 16, bit (check.getLsbD j) j) + (∑ j ∈ Finset.range 16, Polynomial.X ^ (n + j)) +
        ∑ j ∈ Finset.range n, bit ((l.getD (j / 16) 0).getMsbD (j % 16)) (n - 1 - j + 16)) ∧
  (∀ (before after : List Sample) (x y : Sample), x ≠ y →
    crc16 (bytesOfSamples (before ++ x :: after)) ≠ crc16 (bytesOfSamples (before ++ y :: after))) ∧
  (∀ (tag clip : Byte) (offset : BitVec 24) (samples : List Sample) (s : State), s.takes →
    clip.toNat = 0 ∨ 32 < clip.toNat →
    exec (.clipData tag clip offset samples) s = .next (s.answered 0xC1 tag [4])) ∧
  ∀ (tag : Byte) (c : ClipId) (offset : BitVec 24) (samples : List Sample) (s : State), s.takes → PagesSound s →
    MemoryCanonical s →
    let k := s.store.clips[c]
    let after := k.loaded + samples.length
    let fits := 1 ≤ samples.length ∧ samples.length ≤ 112
    let refused (status : Byte) : Prop :=
      exec (.clipData tag (clipByte c) offset samples) s =
        .next (s.answered 0xC1 tag (status :: k.state.code :: u24 k.loaded))
    let holds (g : PageNumber) (o : Fin 256) (i : Nat) : Prop :=
      k.pages[(k.loaded + i) / 256]? = some g ∧ o.1 = (k.loaded + i) % 256
    (¬ fits → refused 3) ∧
    (fits → k.state ≠ .loading → refused 5) ∧
    (fits → k.state = .loading → offset.toNat ≠ k.loaded → refused 4) ∧
    (fits → k.state = .loading → offset.toNat = k.loaded → k.declared < after → refused 3) ∧
    (fits → k.state = .loading → offset.toNat = k.loaded → after ≤ k.declared →
      ∃ t : State, exec (.clipData tag (clipByte c) offset samples) s = .next t ∧
        t = { s.answered 0xC1 tag (0 :: k.state.code :: u24 after) with
              store := { s.store with memory := t.store.memory, checks := t.store.checks
                                      clips := Vec.put s.store.clips c { k with loaded := after } } } ∧
        (∀ (i : Fin samples.length) (g : PageNumber) (o : Fin 256), holds g o i.1 →
          Memory.sample t.store.memory g o = samples[i]) ∧
        (∀ (g : PageNumber) (o : Fin 256), (∀ i : Nat, i < samples.length → ¬ holds g o i) →
          Memory.sample t.store.memory g o = Memory.sample s.store.memory g o) ∧
        (∀ (pos : Nat) (g : PageNumber), k.pages[pos]? = some g → t.store.checks[g] =
          if k.loaded < 256 * (pos + 1) ∧ 256 * (pos + 1) ≤ after then
            crc16 (bytesOfSamples ((List.finRange 256).map fun o => Memory.sample t.store.memory g o))
          else s.store.checks[g]) ∧
        ∀ g : PageNumber, g ∉ k.pages → t.store.checks[g] = s.store.checks[g])

/-- R146, R149 to R151: CLIP_END of a clip loaded whole makes it READY and forms the check of a last page that is not
full; CLIP_DELETE of a clip without references makes it EMPTY, and its pages are free again. That the samples and checks of
a freed page stand as they were is the model's choice (log entry 7). -/
def Obligations.ClipEndAndDelete : Prop :=
  (∀ (tag clip : Byte) (s : State), s.takes → clip.toNat = 0 ∨ 32 < clip.toNat →
    exec (.clipEnd tag clip) s = .next (s.answered 0xC2 tag [4]) ∧
    exec (.clipDelete tag clip) s = .next (s.answered 0xC3 tag [4])) ∧
  ∀ (tag : Byte) (c : ClipId) (s : State), s.takes → PagesSound s →
    let k := s.store.clips[c]
    let last := k.declared / 256
    (k.state ≠ .loading → exec (.clipEnd tag (clipByte c)) s = .next (s.answered 0xC2 tag [5])) ∧
    (k.state = .loading → k.loaded ≠ k.declared →
      exec (.clipEnd tag (clipByte c)) s = .next (s.answered 0xC2 tag (3 :: u24 k.loaded))) ∧
    (k.state = .loading → k.loaded = k.declared →
      ∃ t : State, exec (.clipEnd tag (clipByte c)) s = .next t ∧
        t = { s.answered 0xC2 tag (0 :: clipByte c :: u24 k.declared) with
              store := { s.store with checks := t.store.checks, loading := none
                                      clips := Vec.put s.store.clips c { k with state := .ready } } } ∧
        (k.declared % 256 = 0 → t.store.checks = s.store.checks) ∧
        ∀ g : PageNumber, k.declared % 256 ≠ 0 → t.store.checks[g] =
          if k.pages[last]? = some g then
            crc16 (bytesOfSamples (((List.finRange 256).filter fun o => decide (o.1 < k.declared % 256)).map
              fun o => Memory.sample s.store.memory g o))
          else s.store.checks[g]) ∧
    (k.state = .empty → exec (.clipDelete tag (clipByte c)) s = .next (s.answered 0xC3 tag [9])) ∧
    (k.state ≠ .empty → k.references ≠ 0 → exec (.clipDelete tag (clipByte c)) s = .next (s.answered 0xC3 tag [7])) ∧
    (k.state ≠ .empty → k.references = 0 →
      ∃ t : State, exec (.clipDelete tag (clipByte c)) s = .next t ∧
        t = { s.answered 0xC3 tag (0 :: u16 (s.store.free.length + k.pages.length)) with store := t.store } ∧
        t.store.clips = Vec.put s.store.clips c Clip.blank ∧ t.store.memory = s.store.memory ∧
        t.store.checks = s.store.checks ∧
        t.store.loading = (if k.state = .loading then none else s.store.loading) ∧
        (∀ g : PageNumber, g ∈ t.store.free ↔ g ∈ s.store.free ∨ g ∈ k.pages) ∧
        ∀ g : PageNumber, t.store.failed[g] = (s.store.failed[g] && decide (g ∉ k.pages)))

/-! ### Prompt players -/

/-- R160, R161: CUE makes its checks in order, each over all segments before the next, and a refusal at a segment gives the
index of the first segment that fails; a cue that passes is taken with its gains clamped, and acquires each segment's clip
once. Which refusals give an index, that loop blocks and next actions are the first of the segments' checks, and that the
gains of the answer have no count byte of their own, is the model's reading (log entry 14). -/
def Obligations.CueIsCheckedAndTaken : Prop :=
  (∀ (tag player routing options : Byte) (l : List SegmentFields) (s : State), s.takes →
    player.toNat = 0 ∨ 2 < player.toNat → exec (.cue tag player routing options l) s = .next (s.answered 0xC8 tag [4])) ∧
  ∀ (tag routing options : Byte) (n : Player) (l : List SegmentFields) (s : State), s.takes →
    let run := exec (.cue tag (playerByte n) routing options l) s
    let block (g : SegmentFields) : Nat :=
      if g.loopBlock = 1 then 256 else if g.loopBlock = 2 then 512 else if g.loopBlock = 3 then 1024 else 2048
    let declared (g : SegmentFields) : Nat := ((clipOf g.clip).map fun c => (s.store.clips[c]).declared).getD 0
    let fails (check : Fin 7) (i : Nat) (g : SegmentFields) : Prop :=
      match check with
      | 0 => 4 < g.loopBlock.toNat ∨ 2 < g.nextAction.toNat
      | 1 => g.clip.toNat = 0 ∨ 32 < g.clip.toNat
      | 2 => ∀ c : ClipId, clipOf g.clip = some c → (s.store.clips[c]).state ≠ .ready
      | 3 => g.playLength.toNat = 0 ∨ 131072 < g.playLength.toNat ∨ declared g ≤ g.start.toNat
      | 4 => g.loopBlock = 0 ∧ declared g < g.start.toNat + g.playLength.toNat
      | 5 => g.loopBlock ≠ 0 ∧ declared g < block g * (g.start.toNat / block g) + block g
      | 6 => ¬ (g.nextAction = 2 ↔ i + 1 = l.length)
    let passes (check : Fin 7) : Prop := ∀ (i : Nat) (g : SegmentFields), l[i]? = some g → ¬ fails check i g
    let gain (g : SegmentFields) : Int := max (-120) (min 0 g.gain.toInt)
    let taken (g : SegmentFields) : Segment :=
      { clip := (clipOf g.clip).getD 0, start := g.start.toNat, playLength := g.playLength.toNat
        loopBlock := (loopBlockOf g.loopBlock).getD .none, gain := gain g
        nextAction := (nextActionOf g.nextAction).getD .next }
    let named (c : ClipId) : Nat := (l.filter fun g => clipOf g.clip == some c).length
    (l.length = 0 ∨ 8 < l.length → run = .next (s.answered 0xC8 tag [3])) ∧
    (1 ≤ l.length → l.length ≤ 8 → (s.player n).state ≠ .idle → run = .next (s.answered 0xC8 tag [6])) ∧
    (1 ≤ l.length → l.length ≤ 8 → (s.player n).state = .idle →
      (7 < routing.toNat ∨ 3 < options.toNat → run = .next (s.answered 0xC8 tag [4])) ∧
      (routing.toNat ≤ 7 → options.toNat ≤ 3 →
        (∀ (check : Fin 7) (i : Nat) (g : SegmentFields), (∀ earlier : Fin 7, earlier < check → passes earlier) →
          l[i]? = some g → fails check i g →
          (∀ (j : Nat) (h : SegmentFields), j < i → l[j]? = some h → ¬ fails check j h) →
          run = .next (s.answered 0xC8 tag [if check = 2 then 5 else 4, u8 i])) ∧
        ((∀ check : Fin 7, passes check) → run = .next
          { s.answered 0xC8 tag ((if ∀ g ∈ l, gain g = g.gain.toInt then 0 else 1) :: playerByte n :: 1 ::
              l.map fun g => i8 (gain g)) with
            store := { s.store with clips := Vec.tab fun c =>
              { s.store.clips[c] with references := (s.store.clips[c]).references + named c } }
            players := Vec.put s.players n
              { state := .cued, cue := l.map taken, current := 0, played := 0
                nextOffset := (l.head?.map fun g => g.start.toNat).getD 0, advancing := false
                routing := { pod := routing.getLsbD 0, trunk := routing.getLsbD 1, record := routing.getLsbD 2 }
                haltOnError := options.getLsbD 0, stopOnSpeech := options.getLsbD 1, abortReason := none
                page := none } })))

/-- R162 to R164, R167, R168, R172, R173: GO starts a CUED player from silence while the mixer runs, PAUSE and RESUME fade it
out and in, and ABORT fades a playing one out and takes a CUED or PAUSED one to IDLE at once, its clips released. When its
ramp arrives at 0 a PAUSED player freezes and an ABORTING one is done; in the other states only the ramp's flag
clears (R25). -/
def Obligations.PlayerCommandsAndArrivals : Prop :=
  ((∀ (tag player : Byte) (s : State), s.takes → player.toNat = 0 ∨ 2 < player.toNat →
     exec (.go tag player) s = .next (s.answered 0xC9 tag [4]) ∧
     exec (.pause tag player) s = .next (s.answered 0xCA tag [4]) ∧
     exec (.resume tag player) s = .next (s.answered 0xCB tag [4]) ∧
     exec (.abort tag player) s = .next (s.answered 0xCC tag [4])) ∧
   ∀ (tag : Byte) (n : Player) (s : State), s.takes →
     let r := s.player n
     let b := playerByte n
     let done (u : State) (x : PlayerRecord) (ramp : Ramp) : State :=
       { u with players := Vec.put s.players n x, ramps := { s.ramps with player := Vec.put s.ramps.player n ramp } }
     let ramp := s.ramps.player[n]
     (r.state = .cued → s.session.mixer = .starting ∨ s.session.mixer = .running → exec (.go tag b) s = .next
       (done (s.answered 0xC9 tag [0, u8 r.current]) { r with state := .playing, advancing := true }
         ((ramp.jump 0).setTarget 32768 4))) ∧
     (r.state ≠ .cued ∨ s.session.mixer = .stopped ∨ s.session.mixer = .stopping →
       exec (.go tag b) s = .next (s.answered 0xC9 tag [5])) ∧
     (r.state = .playing → exec (.pause tag b) s = .next
       (done (s.answered 0xCA tag (0 :: u8 r.current :: u24 r.played)) { r with state := .paused }
         (ramp.setTarget 0 4))) ∧
     (r.state ≠ .playing → exec (.pause tag b) s = .next (s.answered 0xCA tag [5])) ∧
     (r.state = .paused → exec (.resume tag b) s = .next
       (done (s.answered 0xCB tag [0]) { r with state := .playing, advancing := true } (ramp.setTarget 32768 4))) ∧
     (r.state ≠ .paused → exec (.resume tag b) s = .next (s.answered 0xCB tag [5])) ∧
     (r.state = .idle → exec (.abort tag b) s = .next (s.answered 0xCC tag [5])) ∧
     (r.state = .aborting → exec (.abort tag b) s = .next (s.answered 0xCC tag [0])) ∧
     (r.state = .playing → exec (.abort tag b) s = .next
       (done (s.answered 0xCC tag [0]) { r with state := .aborting, abortReason := some .aborted } (ramp.setTarget 0 4))) ∧
     (r.state = .cued ∨ r.state = .paused → exec (.abort tag b) s = .next
       ({ s.answered 0xCC tag [0] with
           players := Vec.put s.players n PlayerRecord.reset
           store := s.storeReleasing r.cue }.post .player 0xE8
         (b :: 1 :: u8 r.current :: u24 r.played)))) ∧
  (∀ (n : Player) (s : State), s.outOfReset → (s.ramps.player[n]).arrives = true → (s.ramps.player[n]).target = 0 →
     let r := s.player n
     let u := { s with ramps := { s.ramps with
       player := Vec.put s.ramps.player n { s.ramps.player[n] with arrivalPending := false } } }
     (r.state = .paused → exec (.playerRampArrival n) s =
       .next { u with players := Vec.put s.players n { r with advancing := false } }) ∧
     (r.state = .idle ∨ r.state = .cued ∨ r.state = .playing → exec (.playerRampArrival n) s = .next u) ∧
     ∀ reason : DoneReason, r.state = .aborting → r.abortReason = some reason → exec (.playerRampArrival n) s = .next
       ({ u with
           players := Vec.put s.players n PlayerRecord.reset
           store := s.storeReleasing r.cue }.post .player 0xE8
         (playerByte n :: reason.code :: u8 r.current :: u24 r.played)))

/-- R153, R154, R159, R165, R166, R170, R172, R173: the sample that ends a segment is taken, SEGMENT_DONE is posted, and
the player goes on to the next segment, waits, or is done and releases its clips. In a page whose read failed before the
sample is 0. Where the sample's page must be read and the read fails, the sample is 0, the page is marked, a READY clip is
DAMAGED and reported, and a sounding player with halt-on-error goes to ABORTING before the segment's next action acts. A
read passes where the page is not marked and its samples give the stored check. -/
def Obligations.SegmentEndFollowsTheNextAction : Prop :=
  (∀ (st : ClipStore) (c : ClipId) (pos : Nat) (page : PageNumber), (st.clips[c]).pages[pos]? = some page →
    (st.passes c pos = true ↔ st.failed[page] = false ∧ st.checks[page] = crc16 (bytesOfSamples
      (((List.finRange 256).filter fun o => decide (256 * pos + o.1 < (st.clips[c]).declared)).map
        fun o => Memory.sample st.memory page o))) ∧
    ∀ o : Fin 256, st.sampleAt c (256 * pos + o.1) = Memory.sample st.memory page o) ∧
  ∀ (n : Player) (i : Fin 16) (g : Segment) (s : State), s.outOfReset →
    let r := s.player n
    let pos := r.nextOffset / 256
    r.advancing = true → r.cue[r.current]? = some g → g.playLength ≤ r.played + 1 →
    let finish (x : Sample) (read : State) (r : PlayerRecord) : Prop :=
      let slotted : State := { read with inputs := { s.inputs with
          players := Vec.put s.inputs.players n (Vec.put s.inputs.players[n] i { sample := x, gain := g.gain }) } }
      let ended (action : Byte) : State := slotted.post .player 0xE7 [playerByte n, u8 r.current, action]
      let next : PlayerRecord :=
        { r with current := r.current + 1, played := 0, page := none
                 nextOffset := (r.cue[r.current + 1]?.map Segment.start).getD 0 }
      let waiting : PlayerRecord :=
        { next with advancing := false, state := if r.state = PlayerState.aborting then PlayerState.aborting else .cued }
      (g.nextAction = .next → exec (.segmentEnd n i) s = .next { ended 0 with players := Vec.put s.players n next }) ∧
      (g.nextAction = .wait → exec (.segmentEnd n i) s = .next { ended 1 with players := Vec.put s.players n waiting }) ∧
      (g.nextAction = .stop → exec (.segmentEnd n i) s = .next
        ({ ended 2 with
            players := Vec.put s.players n PlayerRecord.reset
            store := read.storeReleasing r.cue }.post .player 0xE8
          (playerByte n :: (if r.state = PlayerState.aborting then (r.abortReason.getD .completed).code else 0) ::
            u8 r.current :: u24 (r.played + 1))))
    (r.page = some (pos, true) ∨ (r.page.map Prod.fst ≠ some pos ∧ s.store.passes g.clip pos = true) →
      finish (s.store.sampleAt g.clip r.nextOffset) s r) ∧
    (r.page = some (pos, false) → finish 0 s r) ∧
    ∀ page : PageNumber, r.page.map Prod.fst ≠ some pos → s.store.passes g.clip pos = false →
      (s.store.clips[g.clip]).pages[pos]? = some page →
      let k := s.store.clips[g.clip]
      let halts := r.haltOnError = true ∧ (r.state = .playing ∨ r.state = .paused)
      let marked : State := { s with store := { s.store with failed := Vec.put s.store.failed page true } }
      let read : State :=
        if k.state = .ready then
          { marked with store := { marked.store with
              clips := Vec.put s.store.clips g.clip { k with state := .damaged, faultPage := some pos } } }.post .clip
            0xE9 (clipByte g.clip :: u16 pos ++ u16 page.1 ++ [playerByte n])
        else marked
      if halts then
        finish 0 { read with ramps := { s.ramps with
            player := Vec.put s.ramps.player n ((s.ramps.player[n]).setTarget 0 4) } }
          { r with state := .aborting, abortReason := some .fault }
      else finish 0 read r

/-! ### The session controller -/

/-- R25, R171 to R173, R176 to R180: START raises the master ramp and STOP lowers it, each once. A mixer that stops hands
the change to both players: one that sounds fades out, one that is cued or frozen is done with reason STOPPED, gives its
references back and is reported. The ramp's arrival completes the start or the stop, as a command of its own (log entry 8)
and at the boundary that ends the period of it, which changes nothing else of the session. That a START refused with BUSY
gives the mixer state, that MIXER_STATE is queued before the reports of player 1 and these before those of player 2, and
which M it gives, are the model's readings (log entries 13, 9 and 23). -/
def Obligations.MixerStates : Prop :=
  (∀ (tag : Byte) (s : State), s.takes →
    let m := s.ramps.master
    let moved (u : State) (after cause : Byte) : State :=
      u.post .mixer 0xEA ([s.session.mixer.code, after, cause] ++ u16 m.ended)
    (s.session.mixer = .stopped → exec (.start tag) s = .next
      (moved { s.answered 0x82 tag [0, 1] with
        ramps := { s.ramps with master := m.setTarget 32768 32 }
        session := { s.session with mixer := .starting } } 1 0)) ∧
    (s.session.mixer = .starting → exec (.start tag) s = .next (s.answered 0x82 tag [0, 1])) ∧
    (s.session.mixer = .running → exec (.start tag) s = .next (s.answered 0x82 tag [0, 2])) ∧
    (s.session.mixer = .stopping → exec (.start tag) s = .next (s.answered 0x82 tag [6, 3])) ∧
    (s.session.mixer = .stopped → exec (.stop tag) s = .next (s.answered 0x83 tag [0, 0])) ∧
    (s.session.mixer = .stopping → exec (.stop tag) s = .next (s.answered 0x83 tag [0, 3])) ∧
    (s.session.mixer = .starting ∨ s.session.mixer = .running →
      let u := s.answered 0x83 tag [0, 3]
      let fades (n : Player) : Bool :=
        decide ((s.player n).state = .playing ∨ ((s.player n).state = .paused ∧ (s.player n).advancing = true))
      let ends (n : Player) : Bool :=
        decide ((s.player n).state = .cued ∨ ((s.player n).state = .paused ∧ (s.player n).advancing = false))
      let done (n : Player) : List Byte := [playerByte n, 4, u8 (s.player n).current] ++ u24 (s.player n).played
      exec (.stop tag) s = .next { u with
        session := { s.session with mixer := .stopping }
        ramps := { s.ramps with
          master := m.setTarget 0 16
          player := Vec.tab fun n =>
            if fades n then (s.ramps.player[n]).setTarget 0 4 else s.ramps.player[n] }
        players := Vec.tab fun n =>
          if ends n then PlayerRecord.reset
          else if fades n then { s.player n with state := .aborting, abortReason := some .stopped } else s.player n
        store := s.storeReleasing (((List.finRange 2).filter ends).flatMap fun n => (s.player n).cue)
        control :=
          (((List.finRange 2).filter ends).foldl (fun t n => t.post .player 0xE8 (done n)) (moved u 3 1)).control })) ∧
  (∀ s : State, s.outOfReset → s.ramps.master.arrives = true →
    let u := { s with ramps := { s.ramps with master := { s.ramps.master with arrivalPending := false } } }
    let moved (st : MixerState) : State :=
      { u with session := { s.session with mixer := st } }.post .mixer 0xEA
        ([s.session.mixer.code, st.code, 2] ++ u16 s.ramps.master.ended)
    (s.session.mixer = .starting → s.ramps.master.target = 32768 → exec .masterRampArrival s = .next (moved .running)) ∧
    (s.session.mixer = .stopping → s.ramps.master.target = 0 → exec .masterRampArrival s = .next (moved .stopped)) ∧
    (s.session.mixer = .stopped ∨ s.session.mixer = .running → exec .masterRampArrival s = .next u)) ∧
  ∀ (order : List Work) (trunks : Vector Frame 4) (s : State), s.outOfReset →
    let closed : Ramp := if s.inForce = none then s.ramps.master else Ramp.move^[16] s.ramps.master
    let m := if s.inForce = none then s.ramps.master.ended else closed.value
    let next : MixerState :=
      if s.session.mixer = .starting ∧ closed.arrives = true ∧ closed.target = 32768 then .running
      else if s.session.mixer = .stopping ∧ closed.arrives = true ∧ closed.target = 0 then .stopped
      else s.session.mixer
    let reports : List (List Byte) :=
      if next ≠ s.session.mixer ∧ s.control.mask.getLsbD 6 = true then
        [[s.session.mixer.code, next.code, 2] ++ u16 m]
      else []
    ∃ t : State, exec (.mixPeriodBoundary order trunks) s = .next t ∧ t.session = { s.session with mixer := next } ∧
      let queued := ((t.control.queue.drop s.control.queue.length).filter fun r => r.type == 0xEA).map fun r =>
        r.payload.drop 1
      queued <+: reports ∧ (t.control.lost = false → queued = reports)

/-- R29, R35, R43, R74, R75, R84, R87, R89, R95, R99, R101, R181, R182: SET_ROSTER is refused where a list is not sound or
the mixer is not STOPPED; one that is taken replaces the roster, and each pod that leaves, enters, or becomes or ceases to be
a chair pod changes its link, gate, mutes and ramps accordingly, and no other pod does. A pod that leaves LOCKED or COASTING
has its gate ramp made to jump to 0; a pod that gains CHAIR has its gate closed; each local mute ramp follows. The reports
of each pod, in ascending order, are LINK_EVENT ROSTER, GATE_EVENT, TALK_REQUEST DROPPED. That KEY of a leaving pod reverts
by the key mode is the model's choice (log entry 21). That the answer lists each part in ascending order is
the model's reading (log entry 15), and that the last taken frame of a pod that leaves has sequence 0 is its choice (log
entry 6). -/
def Obligations.SetRosterHandsItsDifferencesOn : Prop :=
  ∀ (tag : Byte) (pods chairs trunks : List Byte) (s : State), s.takes →
    let sound := (∀ b ∈ pods, 1 ≤ b.toNat ∧ b.toNat ≤ 24) ∧ (∀ b ∈ trunks, 25 ≤ b.toNat ∧ b.toNat ≤ 28) ∧
      pods.Nodup ∧ chairs.Nodup ∧ trunks.Nodup ∧ chairs.length ≤ 2 ∧ ∀ b ∈ chairs, b ∈ pods
    let run := exec (.setRoster tag pods chairs trunks) s
    (¬ sound → run = .next (s.answered 0x84 tag [4])) ∧
    (sound → s.session.mixer ≠ .stopped → run = .next (s.answered 0x84 tag [5])) ∧
    (sound → s.session.mixer = .stopped → FaultSound s →
      let ordered (l : List Byte) : List Byte := u8 l.length :: l.mergeSort fun a b => decide (a.toNat ≤ b.toNat)
      let u := s.answered 0x84 tag (0 :: ordered pods ++ ordered chairs ++ ordered trunks)
      let old := s.session.roster
      let new : Roster :=
        { pods := Vec.tab fun p => decide (podByte p ∈ pods), chairs := Vec.tab fun p => decide (podByte p ∈ chairs)
          trunks := Vec.tab fun k => decide (trunkByte k ∈ trunks) }
      let leaves (p : Pod) : Bool := old.pods[p] && !new.pods[p]
      let enters (p : Pod) : Bool := !old.pods[p] && new.pods[p]
      let crowned (p : Pod) : Bool := new.chairs[p] && (enters p || !old.chairs[p])
      let deposed (p : Pod) : Bool := old.pods[p] && new.pods[p] && old.chairs[p] && !new.chairs[p]
      let delegate (p : Pod) : Bool := deposed p || (enters p && !new.chairs[p])
      let reasons (p : Pod) : Reasons :=
        let o := s.mutes.reasons[p]
        if leaves p then
          { o with
            chair := false, fault := true
            key := if (s.links[p]).state.takes then (s.mutes.keyMode[p]).keyAfter o.key false else o.key }
        else { o with chair := !crowned p && (o.chair || (delegate p && s.mutes.chairMute)) }
      let state (p : Pod) : GateState := (s.gate p).state
      let muted (p : Pod) : Bool := deposed p && !(s.mutes.reasons[p]).muted && (reasons p).muted &&
        decide (state p ≠ .closed ∧ state p ≠ .bypass)
      let bypassed (p : Pod) : Bool := enters p && decide ((s.gate p).mode = .bypass)
      let keeps (p : Pod) : Bool := !(leaves p || bypassed p || muted p)
      let dropped (p : Pod) : Bool := leaves p || crowned p
      let released (p : Pod) (k : KeyRecord) : KeyRecord :=
        if leaves p && (s.links[p]).state.takes then { k with pressed := false } else k
      let reports (p : Pod) : List (Category × Byte × List Byte) :=
        (if leaves p then [(.link, 0xE2, [podByte p, (s.links[p]).state.code, 0, 0])]
          else if enters p then [(.link, 0xE2, [podByte p, 0, 1, 0])] else []) ++
        (if leaves p = true ∧ state p ≠ .closed then [(.gate, 0xE5, [podByte p, (state p).code, 0, 8])]
          else if bypassed p then [(.gate, 0xE5, [podByte p, (state p).code, 5, 8])]
          else if muted p then [(.gate, 0xE5, [podByte p, (state p).code, 0, 6])] else []) ++
        if dropped p = true ∧ p ∈ s.mutes.talkList then
          [(.key, 0xE4, [4, podByte p, u8 (s.mutes.talkList.filter fun r => !(dropped r && decide (r ≤ p))).length])]
        else []
      run = .next { u with
        session := { s.session with roster := new }
        links := Vec.tab fun p =>
          if leaves p then { s.links[p] with
            state := .off, fifo := [], expected := 0, goodCount := 0, silenceRun := 0, settleCounter := 0
            coastRun := 0, restartRun := 0, arrivalSeen := false, firstTake := false, lastTaken := MicFrame.blank }
          else if enters p then { s.links[p] with state := .absent, feedSequence := 0 } else s.links[p]
        automixer := { s.automixer with
          gates := Vec.tab fun p => { s.gate p with
            priority := if crowned p then 3 else if deposed p || (leaves p && old.chairs[p]) then 0
              else (s.gate p).priority
            state := if bypassed p then .bypass else if leaves p || muted p then .closed else state p
            count := if keeps p then (s.gate p).count else 0 }
          waitQueue := s.automixer.waitQueue.filter keeps, collected := s.automixer.collected.filter keeps }
        mutes := { s.mutes with
          reasons := Vec.tab reasons, talkList := s.mutes.talkList.filter fun p => !dropped p
          talkKey := Vec.tab fun p => released p s.mutes.talkKey[p]
          allKey := Vec.tab fun p => released p s.mutes.allKey[p] }
        ramps := { s.ramps with
          localMute := Vec.tab fun p =>
            (s.ramps.localMute[p]).muteChange s.mutes.rampLength s.mutes.reasons[p] (reasons p)
          gate := Vec.tab fun p =>
            if leaves p && (s.links[p]).state.trusted then (s.ramps.gate[p]).jump 0
            else if muted p then
              (s.ramps.gate[p]).setTarget (lin15 s.automixer.params.offAttenuation) s.automixer.params.release
            else s.ramps.gate[p] }
        control :=
          (((List.finRange 24).flatMap reports).foldl (fun t e => t.post e.1 e.2.1 e.2.2) u).control })

/-- R83, R110, R111, R131, R142, R155, R174, R183, R184, R201 to R203: each query is answered with the state it asks for and
changes nothing: GET_ROSTER with the roster as last set, GET_REQUESTS with the chair-mute flag and the talk-request list
from its front. The last part writes out how the fields are encoded: the bits of each set and of the applied history, the
numbers of each enumeration, amounts of 1 to 3 bytes, most significant byte first. The last recommendation sign's numbers,
the ascending order of chair pods and trunks, that a CLAMPED GET_CLIPS has no byte of its own for the count taken, and that
the wait queue of GET_GATES has no count of its own before it, and that the bits beyond the members of a set are 0, are the
model's reading (log entries 11, 15, 10, 24 and 27). -/
def Obligations.QueriesAnswerTheState : Prop :=
  (∀ (tag : Byte) (s : State), s.takes →
     let pods (v : Vector Bool 24) : List Byte :=
       let l := (List.finRange 24).filter fun p => v[p]
       u8 l.length :: l.map fun p => u8 (p.1 + 1)
     let trunks := (List.finRange 4).filter fun k => s.session.roster.trunks[k]
     exec (.getRoster tag) s = .next
       (s.answered 0x85 tag (0 :: pods s.session.roster.pods ++ pods s.session.roster.chairs ++
         u8 trunks.length :: trunks.map fun k => u8 (k.1 + 25))) ∧
     exec (.getRequests tag) s = .next
       (s.answered 0xA8 tag (0 :: bit8 s.mutes.chairMute :: u8 s.mutes.talkList.length ::
         s.mutes.talkList.map fun p => u8 (p.1 + 1)))) ∧
  (∀ (tag : Byte) (s : State), s.takes →
    let count (v : Vector Bool 24) : Byte := u8 ((List.finRange 24).filter fun p => v[p]).length
    let pods (f : Pod → List Byte) : List Byte := (List.finRange 24).flatMap f
    exec (.getStatus tag) s = .next (s.answered 0x86 tag
      ([(0 : Byte), s.session.mixer.code] ++ u16 s.ramps.master.ended ++ [count s.session.roster.pods,
          count s.session.roster.chairs] ++
        (((List.finRange 24).filter fun p : Pod => s.session.roster.chairs[p]).map fun p => u8 (p.1 + 1)) ++
        [u8 ((List.finRange 4).filter fun k : Trunk => s.session.roster.trunks[k]).length, bit8 s.mutes.chairMute,
          bit8 s.mutes.privacy, u8 s.automixer.limit, u8 s.holders.length, s.session.lastReason.code])) ∧
    exec (.getGates tag) s = .next (s.answered 0x9A tag
      ([(0 : Byte), u8 s.automixer.limit, match s.automixer.pendingLimit with
          | some l => u8 l
          | none => 0xFF] ++ [u8 s.holders.length, u8 s.automixer.waitQueue.length] ++
        (pods fun p => [(s.gate p).mode.code, u8 (s.gate p).priority, (s.gate p).state.code] ++ u16 (s.gate p).count) ++
        s.automixer.waitQueue.map fun p => u8 (p.1 + 1))) ∧
    exec (.getMutes tag) s = .next (s.answered 0xA7 tag
      ([0, bit8 s.mutes.privacy, bit8 s.mutes.chairMute, u8 s.mutes.keyGuard, u8 s.mutes.rampLength] ++
        (pods fun p => [(s.mutes.reasons[p]).byte, (s.mutes.keyMode[p]).code, bit8 (s.mutes.talkKey[p]).pressed,
          bit8 (s.mutes.allKey[p]).pressed, (s.mutes.led[p]).code]) ++
        (List.finRange 4).map fun k => if s.mutes.trunkHost[k] then 2 else 0)) ∧
    exec (.getAlc tag) s = .next (s.answered 0xB2 tag
      ([0, bit8 s.alc.params.enable, i8 s.alc.params.target, u8 s.alc.params.interval, u8 s.alc.params.shift,
          u8 s.alc.params.slew, u8 s.alc.params.jumpLimit, bit8 s.alc.params.autoJump, u8 s.alc.params.postCount,
          bit8 s.alc.params.toggleFilter, u8 s.alc.position] ++
        pods fun p =>
          let r := s.alc.records[p]
          [i8 r.gain, bit8 r.held, u8 r.qualifying] ++ i16 r.levelSum ++
            [u8 r.agreementRun, signCode r.lastSign, historyByte r.history])) ∧
    exec (.getFeeds tag) s = .next (s.answered 0xBE tag
      ([0, i8 s.router.duckDepth] ++
        (pods fun p => [u8 s.router.feeds.zone[p], i8 s.router.feeds.podFader[p], i8 s.router.feeds.volume[p],
          bit8 s.router.duckActive[p]] ++ u16 (s.ramps.duck[p]).ended) ++
        ((List.finRange 4).flatMap fun k => [bit8 s.session.roster.trunks[k], i8 s.router.feeds.trunkFader[k],
          i8 s.router.feeds.sendGain[k]]) ++
        (List.finRange 2).flatMap fun b => [(s.router.feeds.record[b]).flagsByte, i8 (s.router.feeds.record[b]).gain])) ∧
    (∀ first n : Byte, first.toNat = 0 ∨ 32 < first.toNat →
      exec (.getClips tag first n) s = .next (s.answered 0xC4 tag [4])) ∧
    (∀ (c : ClipId) (b : Byte),
      let n := max 1 (min 16 b.toNat)
      let listed := (List.finRange 32).filter fun d : ClipId => decide (c ≤ d ∧ d.1 < c.1 + n)
      exec (.getClips tag (clipByte c) b) s = .next (s.answered 0xC4 tag
        ([(if n = b.toNat then 0 else 1 : Byte)] ++ u16 s.store.free.length ++
          [match s.store.loading with
            | some d => u8 (d.1 + 1)
            | none => 0, u8 listed.length] ++
          listed.flatMap fun d =>
            let k := s.store.clips[d]
            [k.state.code] ++ u24 k.declared ++ u24 k.loaded ++ u16 k.pages.length ++ [u8 k.references] ++
              match k.faultPage with
              | some g => u16 g
              | none => [0xFF, 0xFF]))) ∧
    (∀ player : Byte, player.toNat = 0 ∨ 2 < player.toNat →
      exec (.getPlayer tag player) s = .next (s.answered 0xCD tag [4])) ∧
    ∀ n : Player,
      let r := s.player n
      exec (.getPlayer tag (playerByte n)) s = .next (s.answered 0xCD tag
        ([0, r.state.code, bit8 r.advancing, match r.abortReason with
            | some x => x.code
            | none => 0xFF] ++ [r.routing.byte, bit8 r.haltOnError + (if r.stopOnSpeech then 2 else 0), u8 r.current] ++
          u24 r.played ++ u24 r.nextOffset ++ u16 (s.ramps.player[n]).ended ++ [u8 r.cue.length] ++
          r.cue.flatMap fun g => [u8 (g.clip.1 + 1)] ++ u24 g.start ++ u24 g.playLength ++
            [g.loopBlock.code, i8 g.gain, g.nextAction.code]))) ∧
  (let bit (b : Bool) (n : Nat) : Nat := if b then n else 0
   (∀ r : Reasons, r.byte = u8 (bit r.key 1 + bit r.host 2 + bit r.chair 4 + bit r.fault 8)) ∧
   (∀ r : RecordSetting, r.flagsByte = u8 (bit r.room 1 + bit r.far 2 + bit r.prompt 4)) ∧
   (∀ r : Routing, r.byte = u8 (bit r.pod 1 + bit r.trunk 2 + bit r.record 4)) ∧
   (let down (a : Sign) (n : Nat) : Nat := bit (decide (a = .down)) n
    historyByte [] = 0 ∧ (∀ later : Sign, historyByte [later] = u8 (1 + down later 8)) ∧
    ∀ older later : Sign, historyByte [older, later] = u8 (2 + down older 4 + down later 8)) ∧
   [none, some Sign.up, some .down].map signCode = [0, 1, 2] ∧
   [Led.off, .red, .redBlink, .amber, .green, .greenBlink].map Led.code = [0, 1, 2, 3, 4, 5] ∧
   [KeyMode.toggle, .pushToTalk, .pushToMute].map KeyMode.code = [0, 1, 2] ∧
   [LoopBlock.none, .b256, .b512, .b1024, .b2048].map LoopBlock.code = [0, 1, 2, 3, 4] ∧
   [NextAction.next, .wait, .stop].map NextAction.code = [0, 1, 2] ∧
   [LinkState.off, .absent, .acquiring, .settling, .locked, .coasting].map LinkState.code = [0, 1, 2, 3, 4, 5] ∧
   [GateMode.auto, .bypass].map GateMode.code = [0, 1] ∧
   [GateState.closed, .pending, .waiting, .opened, .hold, .bypass].map GateState.code = [0, 1, 2, 3, 4, 5] ∧
   [ClipState.empty, .loading, .ready, .damaged].map ClipState.code = [0, 1, 2, 3] ∧
   [PlayerState.idle, .cued, .playing, .paused, .aborting].map PlayerState.code = [0, 1, 2, 3, 4] ∧
   [DoneReason.completed, .aborted, .speech, .fault, .stopped].map DoneReason.code = [0, 1, 2, 3, 4] ∧
   [MixerState.stopped, .starting, .running, .stopping].map MixerState.code = [0, 1, 2, 3] ∧
   [StartReason.power, .pin, .soft].map StartReason.code = [0, 1, 2] ∧
   [Category.link, .key, .gate, .alc, .player, .clip, .mixer].map Category.bit = [0, 1, 2, 3, 4, 5, 6]) ∧
  bit8 false = 0 ∧ bit8 true = 1 ∧
  (∀ n : Nat, n < 256 → (u8 n).toNat = n) ∧ (∀ n : Nat, n < 2 ^ 16 → u16 n = [u8 (n / 256), u8 (n % 256)]) ∧
  (∀ n : Nat, n < 2 ^ 24 → u24 n = [u8 (n / 65536), u8 (n / 256 % 256), u8 (n % 256)]) ∧
  (∀ x : Int, -128 ≤ x → x ≤ 127 → (i8 x).toInt = x) ∧
  (∀ x : Int, -(2 ^ 15) ≤ x → x < 2 ^ 15 → ∃ hi lo : Byte, i16 x = [hi, lo] ∧ (hi ++ lo).toInt = x) ∧
  (∀ p : Pod, (podByte p).toNat = p.1 + 1) ∧ (∀ k : Trunk, (trunkByte k).toNat = k.1 + 25) ∧
  (∀ n : Player, (playerByte n).toNat = n.1 + 1) ∧ ∀ c : ClipId, (clipByte c).toNat = c.1 + 1

/-! ### What every step keeps -/

/-- R21, R23, R27, R38, R113, R132, R136 to R140, R161, R196: every step keeps the ramps in 0..32768, the outbound queue
within 8 answers and 32 reports, each FIFO within 4 frames, the link counters within two bytes, and each ALC gain and
history, each fader, volume, gain and duck depth in its range. -/
def Obligations.StepKeepsTheRanges : Prop :=
  ∀ s t : State, RampsBounded s → QueueBounded s → LinksBounded s → AlcBounded s → GainsBounded s → step s = .next t →
    RampsBounded t ∧ QueueBounded t ∧ LinksBounded t ∧ AlcBounded t ∧ GainsBounded t

/-- R19, R176: every step keeps the master ramp at rest at 0 while the mixer is STOPPED, so the boundary then hands out
zeros, and every output meter stays as it is. -/
def Obligations.StepKeepsAStoppedMixerSilent : Prop :=
  (∀ s t : State, StoppedAtZero s → step s = .next t → StoppedAtZero t) ∧
  ∀ (order : List Work) (trunks : Vector Frame 4) (s : State), s.outOfReset → StoppedAtZero s →
    s.session.mixer = .stopped →
    ∃ t : State, exec (.mixPeriodBoundary order trunks) s = .next t ∧ t.outputMeters = s.outputMeters ∧
      ∀ (o : Output) (i : Fin 16), (t.outputs[o])[i] = 0

/-- R53: the smoothed levels and noise floors lie in -120..0 after reset, and every step keeps them there. -/
def Obligations.StepKeepsTheLevels : Prop :=
  LevelsBounded State.reset ∧ ∀ s t : State, LevelsBounded s → step s = .next t → LevelsBounded t

/-- Every step keeps the clip memory in its canonical form. -/
def Obligations.StepKeepsTheMemoryCanonical : Prop :=
  ∀ s t : State, MemoryCanonical s → step s = .next t → MemoryCanonical t

/-- R100: every step keeps the talk-request list at no more than 22 channels, each once and each carrying CHAIR. -/
def Obligations.StepKeepsTheTalkList : Prop :=
  ∀ s t : State, TalkListSound s → step s = .next t → TalkListSound t

/-- R62, R69, R72, R73: every step keeps the muted channels CLOSED or in BYPASS, the wait queue equal to the WAITING
channels, and the holders within the limit in force. -/
def Obligations.StepKeepsTheGates : Prop :=
  ∀ s t : State, GatesSound s → step s = .next t → GatesSound t

/-- R29, R35, R42, R89: every step keeps FAULT on exactly the pods whose link is in neither LOCKED nor COASTING, and the
link OFF on exactly the pods outside the roster. -/
def Obligations.StepKeepsTheFaultReason : Prop :=
  ∀ s t : State, FaultSound s → step s = .next t → FaultSound t

/-- R144, R145: every step keeps each of the 512 pages either free or in the page list of exactly one clip, the free set in
ascending order, and every clip record sound in its state. -/
def Obligations.StepKeepsThePages : Prop :=
  ∀ s t : State, PagesSound s → step s = .next t → PagesSound t

/-- R152: every step keeps each clip's reference count equal to the number of segments naming it, and a clip with a
non-zero count READY or DAMAGED. -/
def Obligations.StepKeepsTheReferences : Prop :=
  ∀ s t : State, ReferencesSound s → step s = .next t → ReferencesSound t

/-- R158, R160: every step keeps the two player records sound in their states. -/
def Obligations.StepKeepsThePlayers : Prop :=
  ∀ s t : State, PlayersSound s → step s = .next t → PlayersSound t

end
end

