-- ==== Sys2Proof/Config.lean ====
section
/-! DEFINITION. What the spec leaves open and the model does not fix: nothing. Every value that a rule leaves open is a
command's operand (log entries 3 and 16) or is settled by the model and marked in a log entry. -/
end

