-- ==== Sys2Proof/Laws/State.lean ====
section
/-! SUPPORT. What each update of State leaves as it was: one lemma per field per update. -/

namespace Sys2Proof.Machine

@[simp] theorem State.onGateRamp_inputs (p : Pod) (f : Ramp → Ramp) (s : State) : (s.onGateRamp p f).inputs = s.inputs :=
  rfl
@[simp] theorem State.onGateRamp_inForce (p : Pod) (f : Ramp → Ramp) (s : State) : (s.onGateRamp p f).inForce = s.inForce :=
  rfl
@[simp] theorem State.onGateRamp_outputs (p : Pod) (f : Ramp → Ramp) (s : State) : (s.onGateRamp p f).outputs = s.outputs :=
  rfl
@[simp] theorem State.onGateRamp_links (p : Pod) (f : Ramp → Ramp) (s : State) : (s.onGateRamp p f).links = s.links :=
  rfl
@[simp] theorem State.onGateRamp_linkParams (p : Pod) (f : Ramp → Ramp) (s : State) : (s.onGateRamp p f).linkParams = s.linkParams :=
  rfl
@[simp] theorem State.onGateRamp_feedFrames (p : Pod) (f : Ramp → Ramp) (s : State) : (s.onGateRamp p f).feedFrames = s.feedFrames :=
  rfl
@[simp] theorem State.onGateRamp_detectors (p : Pod) (f : Ramp → Ramp) (s : State) : (s.onGateRamp p f).detectors = s.detectors :=
  rfl
@[simp] theorem State.onGateRamp_outputMeters (p : Pod) (f : Ramp → Ramp) (s : State) : (s.onGateRamp p f).outputMeters = s.outputMeters :=
  rfl
@[simp] theorem State.onGateRamp_automixer (p : Pod) (f : Ramp → Ramp) (s : State) : (s.onGateRamp p f).automixer = s.automixer :=
  rfl
@[simp] theorem State.onGateRamp_mutes (p : Pod) (f : Ramp → Ramp) (s : State) : (s.onGateRamp p f).mutes = s.mutes :=
  rfl
@[simp] theorem State.onGateRamp_alc (p : Pod) (f : Ramp → Ramp) (s : State) : (s.onGateRamp p f).alc = s.alc := rfl
@[simp] theorem State.onGateRamp_router (p : Pod) (f : Ramp → Ramp) (s : State) : (s.onGateRamp p f).router = s.router :=
  rfl
@[simp] theorem State.onGateRamp_store (p : Pod) (f : Ramp → Ramp) (s : State) : (s.onGateRamp p f).store = s.store :=
  rfl
@[simp] theorem State.onGateRamp_players (p : Pod) (f : Ramp → Ramp) (s : State) : (s.onGateRamp p f).players = s.players :=
  rfl
@[simp] theorem State.onGateRamp_session (p : Pod) (f : Ramp → Ramp) (s : State) : (s.onGateRamp p f).session = s.session :=
  rfl
@[simp] theorem State.onGateRamp_control (p : Pod) (f : Ramp → Ramp) (s : State) : (s.onGateRamp p f).control = s.control :=
  rfl
@[simp] theorem State.onGateRamp_pending (p : Pod) (f : Ramp → Ramp) (s : State) : (s.onGateRamp p f).pending = s.pending :=
  rfl

@[simp] theorem State.onLocalMuteRamp_inputs (p : Pod) (f : Ramp → Ramp) (s : State) : (s.onLocalMuteRamp p f).inputs = s.inputs :=
  rfl
@[simp] theorem State.onLocalMuteRamp_inForce (p : Pod) (f : Ramp → Ramp) (s : State) : (s.onLocalMuteRamp p f).inForce = s.inForce :=
  rfl
@[simp] theorem State.onLocalMuteRamp_outputs (p : Pod) (f : Ramp → Ramp) (s : State) : (s.onLocalMuteRamp p f).outputs = s.outputs :=
  rfl
@[simp] theorem State.onLocalMuteRamp_links (p : Pod) (f : Ramp → Ramp) (s : State) : (s.onLocalMuteRamp p f).links = s.links :=
  rfl
@[simp] theorem State.onLocalMuteRamp_linkParams (p : Pod) (f : Ramp → Ramp) (s : State) : (s.onLocalMuteRamp p f).linkParams = s.linkParams :=
  rfl
@[simp] theorem State.onLocalMuteRamp_feedFrames (p : Pod) (f : Ramp → Ramp) (s : State) : (s.onLocalMuteRamp p f).feedFrames = s.feedFrames :=
  rfl
@[simp] theorem State.onLocalMuteRamp_detectors (p : Pod) (f : Ramp → Ramp) (s : State) : (s.onLocalMuteRamp p f).detectors = s.detectors :=
  rfl
@[simp] theorem State.onLocalMuteRamp_outputMeters (p : Pod) (f : Ramp → Ramp) (s : State) : (s.onLocalMuteRamp p f).outputMeters = s.outputMeters :=
  rfl
@[simp] theorem State.onLocalMuteRamp_automixer (p : Pod) (f : Ramp → Ramp) (s : State) : (s.onLocalMuteRamp p f).automixer = s.automixer :=
  rfl
@[simp] theorem State.onLocalMuteRamp_mutes (p : Pod) (f : Ramp → Ramp) (s : State) : (s.onLocalMuteRamp p f).mutes = s.mutes :=
  rfl
@[simp] theorem State.onLocalMuteRamp_alc (p : Pod) (f : Ramp → Ramp) (s : State) : (s.onLocalMuteRamp p f).alc = s.alc :=
  rfl
@[simp] theorem State.onLocalMuteRamp_router (p : Pod) (f : Ramp → Ramp) (s : State) : (s.onLocalMuteRamp p f).router = s.router :=
  rfl
@[simp] theorem State.onLocalMuteRamp_store (p : Pod) (f : Ramp → Ramp) (s : State) : (s.onLocalMuteRamp p f).store = s.store :=
  rfl
@[simp] theorem State.onLocalMuteRamp_players (p : Pod) (f : Ramp → Ramp) (s : State) : (s.onLocalMuteRamp p f).players = s.players :=
  rfl
@[simp] theorem State.onLocalMuteRamp_session (p : Pod) (f : Ramp → Ramp) (s : State) : (s.onLocalMuteRamp p f).session = s.session :=
  rfl
@[simp] theorem State.onLocalMuteRamp_control (p : Pod) (f : Ramp → Ramp) (s : State) : (s.onLocalMuteRamp p f).control = s.control :=
  rfl
@[simp] theorem State.onLocalMuteRamp_pending (p : Pod) (f : Ramp → Ramp) (s : State) : (s.onLocalMuteRamp p f).pending = s.pending :=
  rfl

@[simp] theorem State.onPrivacyRamps_inputs (f : Ramp → Ramp) (s : State) : (s.onPrivacyRamps f).inputs = s.inputs :=
  rfl
@[simp] theorem State.onPrivacyRamps_inForce (f : Ramp → Ramp) (s : State) : (s.onPrivacyRamps f).inForce = s.inForce :=
  rfl
@[simp] theorem State.onPrivacyRamps_outputs (f : Ramp → Ramp) (s : State) : (s.onPrivacyRamps f).outputs = s.outputs :=
  rfl
@[simp] theorem State.onPrivacyRamps_links (f : Ramp → Ramp) (s : State) : (s.onPrivacyRamps f).links = s.links := rfl
@[simp] theorem State.onPrivacyRamps_linkParams (f : Ramp → Ramp) (s : State) : (s.onPrivacyRamps f).linkParams = s.linkParams :=
  rfl
@[simp] theorem State.onPrivacyRamps_feedFrames (f : Ramp → Ramp) (s : State) : (s.onPrivacyRamps f).feedFrames = s.feedFrames :=
  rfl
@[simp] theorem State.onPrivacyRamps_detectors (f : Ramp → Ramp) (s : State) : (s.onPrivacyRamps f).detectors = s.detectors :=
  rfl
@[simp] theorem State.onPrivacyRamps_outputMeters (f : Ramp → Ramp) (s : State) : (s.onPrivacyRamps f).outputMeters = s.outputMeters :=
  rfl
@[simp] theorem State.onPrivacyRamps_automixer (f : Ramp → Ramp) (s : State) : (s.onPrivacyRamps f).automixer = s.automixer :=
  rfl
@[simp] theorem State.onPrivacyRamps_mutes (f : Ramp → Ramp) (s : State) : (s.onPrivacyRamps f).mutes = s.mutes := rfl
@[simp] theorem State.onPrivacyRamps_alc (f : Ramp → Ramp) (s : State) : (s.onPrivacyRamps f).alc = s.alc := rfl
@[simp] theorem State.onPrivacyRamps_router (f : Ramp → Ramp) (s : State) : (s.onPrivacyRamps f).router = s.router :=
  rfl
@[simp] theorem State.onPrivacyRamps_store (f : Ramp → Ramp) (s : State) : (s.onPrivacyRamps f).store = s.store := rfl
@[simp] theorem State.onPrivacyRamps_players (f : Ramp → Ramp) (s : State) : (s.onPrivacyRamps f).players = s.players :=
  rfl
@[simp] theorem State.onPrivacyRamps_session (f : Ramp → Ramp) (s : State) : (s.onPrivacyRamps f).session = s.session :=
  rfl
@[simp] theorem State.onPrivacyRamps_control (f : Ramp → Ramp) (s : State) : (s.onPrivacyRamps f).control = s.control :=
  rfl
@[simp] theorem State.onPrivacyRamps_pending (f : Ramp → Ramp) (s : State) : (s.onPrivacyRamps f).pending = s.pending :=
  rfl

@[simp] theorem State.onDuckRamp_inputs (p : Pod) (f : Ramp → Ramp) (s : State) : (s.onDuckRamp p f).inputs = s.inputs :=
  rfl
@[simp] theorem State.onDuckRamp_inForce (p : Pod) (f : Ramp → Ramp) (s : State) : (s.onDuckRamp p f).inForce = s.inForce :=
  rfl
@[simp] theorem State.onDuckRamp_outputs (p : Pod) (f : Ramp → Ramp) (s : State) : (s.onDuckRamp p f).outputs = s.outputs :=
  rfl
@[simp] theorem State.onDuckRamp_links (p : Pod) (f : Ramp → Ramp) (s : State) : (s.onDuckRamp p f).links = s.links :=
  rfl
@[simp] theorem State.onDuckRamp_linkParams (p : Pod) (f : Ramp → Ramp) (s : State) : (s.onDuckRamp p f).linkParams = s.linkParams :=
  rfl
@[simp] theorem State.onDuckRamp_feedFrames (p : Pod) (f : Ramp → Ramp) (s : State) : (s.onDuckRamp p f).feedFrames = s.feedFrames :=
  rfl
@[simp] theorem State.onDuckRamp_detectors (p : Pod) (f : Ramp → Ramp) (s : State) : (s.onDuckRamp p f).detectors = s.detectors :=
  rfl
@[simp] theorem State.onDuckRamp_outputMeters (p : Pod) (f : Ramp → Ramp) (s : State) : (s.onDuckRamp p f).outputMeters = s.outputMeters :=
  rfl
@[simp] theorem State.onDuckRamp_automixer (p : Pod) (f : Ramp → Ramp) (s : State) : (s.onDuckRamp p f).automixer = s.automixer :=
  rfl
@[simp] theorem State.onDuckRamp_mutes (p : Pod) (f : Ramp → Ramp) (s : State) : (s.onDuckRamp p f).mutes = s.mutes :=
  rfl
@[simp] theorem State.onDuckRamp_alc (p : Pod) (f : Ramp → Ramp) (s : State) : (s.onDuckRamp p f).alc = s.alc := rfl
@[simp] theorem State.onDuckRamp_router (p : Pod) (f : Ramp → Ramp) (s : State) : (s.onDuckRamp p f).router = s.router :=
  rfl
@[simp] theorem State.onDuckRamp_store (p : Pod) (f : Ramp → Ramp) (s : State) : (s.onDuckRamp p f).store = s.store :=
  rfl
@[simp] theorem State.onDuckRamp_players (p : Pod) (f : Ramp → Ramp) (s : State) : (s.onDuckRamp p f).players = s.players :=
  rfl
@[simp] theorem State.onDuckRamp_session (p : Pod) (f : Ramp → Ramp) (s : State) : (s.onDuckRamp p f).session = s.session :=
  rfl
@[simp] theorem State.onDuckRamp_control (p : Pod) (f : Ramp → Ramp) (s : State) : (s.onDuckRamp p f).control = s.control :=
  rfl
@[simp] theorem State.onDuckRamp_pending (p : Pod) (f : Ramp → Ramp) (s : State) : (s.onDuckRamp p f).pending = s.pending :=
  rfl

@[simp] theorem State.onTrunkMuteRamp_inputs (k : Trunk) (f : Ramp → Ramp) (s : State) : (s.onTrunkMuteRamp k f).inputs = s.inputs :=
  rfl
@[simp] theorem State.onTrunkMuteRamp_inForce (k : Trunk) (f : Ramp → Ramp) (s : State) : (s.onTrunkMuteRamp k f).inForce = s.inForce :=
  rfl
@[simp] theorem State.onTrunkMuteRamp_outputs (k : Trunk) (f : Ramp → Ramp) (s : State) : (s.onTrunkMuteRamp k f).outputs = s.outputs :=
  rfl
@[simp] theorem State.onTrunkMuteRamp_links (k : Trunk) (f : Ramp → Ramp) (s : State) : (s.onTrunkMuteRamp k f).links = s.links :=
  rfl
@[simp] theorem State.onTrunkMuteRamp_linkParams (k : Trunk) (f : Ramp → Ramp) (s : State) : (s.onTrunkMuteRamp k f).linkParams = s.linkParams :=
  rfl
@[simp] theorem State.onTrunkMuteRamp_feedFrames (k : Trunk) (f : Ramp → Ramp) (s : State) : (s.onTrunkMuteRamp k f).feedFrames = s.feedFrames :=
  rfl
@[simp] theorem State.onTrunkMuteRamp_detectors (k : Trunk) (f : Ramp → Ramp) (s : State) : (s.onTrunkMuteRamp k f).detectors = s.detectors :=
  rfl
@[simp] theorem State.onTrunkMuteRamp_outputMeters (k : Trunk) (f : Ramp → Ramp) (s : State) : (s.onTrunkMuteRamp k f).outputMeters = s.outputMeters :=
  rfl
@[simp] theorem State.onTrunkMuteRamp_automixer (k : Trunk) (f : Ramp → Ramp) (s : State) : (s.onTrunkMuteRamp k f).automixer = s.automixer :=
  rfl
@[simp] theorem State.onTrunkMuteRamp_mutes (k : Trunk) (f : Ramp → Ramp) (s : State) : (s.onTrunkMuteRamp k f).mutes = s.mutes :=
  rfl
@[simp] theorem State.onTrunkMuteRamp_alc (k : Trunk) (f : Ramp → Ramp) (s : State) : (s.onTrunkMuteRamp k f).alc = s.alc :=
  rfl
@[simp] theorem State.onTrunkMuteRamp_router (k : Trunk) (f : Ramp → Ramp) (s : State) : (s.onTrunkMuteRamp k f).router = s.router :=
  rfl
@[simp] theorem State.onTrunkMuteRamp_store (k : Trunk) (f : Ramp → Ramp) (s : State) : (s.onTrunkMuteRamp k f).store = s.store :=
  rfl
@[simp] theorem State.onTrunkMuteRamp_players (k : Trunk) (f : Ramp → Ramp) (s : State) : (s.onTrunkMuteRamp k f).players = s.players :=
  rfl
@[simp] theorem State.onTrunkMuteRamp_session (k : Trunk) (f : Ramp → Ramp) (s : State) : (s.onTrunkMuteRamp k f).session = s.session :=
  rfl
@[simp] theorem State.onTrunkMuteRamp_control (k : Trunk) (f : Ramp → Ramp) (s : State) : (s.onTrunkMuteRamp k f).control = s.control :=
  rfl
@[simp] theorem State.onTrunkMuteRamp_pending (k : Trunk) (f : Ramp → Ramp) (s : State) : (s.onTrunkMuteRamp k f).pending = s.pending :=
  rfl

@[simp] theorem State.onPlayerRamp_inputs (n : Player) (f : Ramp → Ramp) (s : State) : (s.onPlayerRamp n f).inputs = s.inputs :=
  rfl
@[simp] theorem State.onPlayerRamp_inForce (n : Player) (f : Ramp → Ramp) (s : State) : (s.onPlayerRamp n f).inForce = s.inForce :=
  rfl
@[simp] theorem State.onPlayerRamp_outputs (n : Player) (f : Ramp → Ramp) (s : State) : (s.onPlayerRamp n f).outputs = s.outputs :=
  rfl
@[simp] theorem State.onPlayerRamp_links (n : Player) (f : Ramp → Ramp) (s : State) : (s.onPlayerRamp n f).links = s.links :=
  rfl
@[simp] theorem State.onPlayerRamp_linkParams (n : Player) (f : Ramp → Ramp) (s : State) : (s.onPlayerRamp n f).linkParams = s.linkParams :=
  rfl
@[simp] theorem State.onPlayerRamp_feedFrames (n : Player) (f : Ramp → Ramp) (s : State) : (s.onPlayerRamp n f).feedFrames = s.feedFrames :=
  rfl
@[simp] theorem State.onPlayerRamp_detectors (n : Player) (f : Ramp → Ramp) (s : State) : (s.onPlayerRamp n f).detectors = s.detectors :=
  rfl
@[simp] theorem State.onPlayerRamp_outputMeters (n : Player) (f : Ramp → Ramp) (s : State) : (s.onPlayerRamp n f).outputMeters = s.outputMeters :=
  rfl
@[simp] theorem State.onPlayerRamp_automixer (n : Player) (f : Ramp → Ramp) (s : State) : (s.onPlayerRamp n f).automixer = s.automixer :=
  rfl
@[simp] theorem State.onPlayerRamp_mutes (n : Player) (f : Ramp → Ramp) (s : State) : (s.onPlayerRamp n f).mutes = s.mutes :=
  rfl
@[simp] theorem State.onPlayerRamp_alc (n : Player) (f : Ramp → Ramp) (s : State) : (s.onPlayerRamp n f).alc = s.alc :=
  rfl
@[simp] theorem State.onPlayerRamp_router (n : Player) (f : Ramp → Ramp) (s : State) : (s.onPlayerRamp n f).router = s.router :=
  rfl
@[simp] theorem State.onPlayerRamp_store (n : Player) (f : Ramp → Ramp) (s : State) : (s.onPlayerRamp n f).store = s.store :=
  rfl
@[simp] theorem State.onPlayerRamp_players (n : Player) (f : Ramp → Ramp) (s : State) : (s.onPlayerRamp n f).players = s.players :=
  rfl
@[simp] theorem State.onPlayerRamp_session (n : Player) (f : Ramp → Ramp) (s : State) : (s.onPlayerRamp n f).session = s.session :=
  rfl
@[simp] theorem State.onPlayerRamp_control (n : Player) (f : Ramp → Ramp) (s : State) : (s.onPlayerRamp n f).control = s.control :=
  rfl
@[simp] theorem State.onPlayerRamp_pending (n : Player) (f : Ramp → Ramp) (s : State) : (s.onPlayerRamp n f).pending = s.pending :=
  rfl

@[simp] theorem State.onMasterRamp_inputs (f : Ramp → Ramp) (s : State) : (s.onMasterRamp f).inputs = s.inputs := rfl
@[simp] theorem State.onMasterRamp_inForce (f : Ramp → Ramp) (s : State) : (s.onMasterRamp f).inForce = s.inForce :=
  rfl
@[simp] theorem State.onMasterRamp_outputs (f : Ramp → Ramp) (s : State) : (s.onMasterRamp f).outputs = s.outputs :=
  rfl
@[simp] theorem State.onMasterRamp_links (f : Ramp → Ramp) (s : State) : (s.onMasterRamp f).links = s.links := rfl
@[simp] theorem State.onMasterRamp_linkParams (f : Ramp → Ramp) (s : State) : (s.onMasterRamp f).linkParams = s.linkParams :=
  rfl
@[simp] theorem State.onMasterRamp_feedFrames (f : Ramp → Ramp) (s : State) : (s.onMasterRamp f).feedFrames = s.feedFrames :=
  rfl
@[simp] theorem State.onMasterRamp_detectors (f : Ramp → Ramp) (s : State) : (s.onMasterRamp f).detectors = s.detectors :=
  rfl
@[simp] theorem State.onMasterRamp_outputMeters (f : Ramp → Ramp) (s : State) : (s.onMasterRamp f).outputMeters = s.outputMeters :=
  rfl
@[simp] theorem State.onMasterRamp_automixer (f : Ramp → Ramp) (s : State) : (s.onMasterRamp f).automixer = s.automixer :=
  rfl
@[simp] theorem State.onMasterRamp_mutes (f : Ramp → Ramp) (s : State) : (s.onMasterRamp f).mutes = s.mutes := rfl
@[simp] theorem State.onMasterRamp_alc (f : Ramp → Ramp) (s : State) : (s.onMasterRamp f).alc = s.alc := rfl
@[simp] theorem State.onMasterRamp_router (f : Ramp → Ramp) (s : State) : (s.onMasterRamp f).router = s.router := rfl
@[simp] theorem State.onMasterRamp_store (f : Ramp → Ramp) (s : State) : (s.onMasterRamp f).store = s.store := rfl
@[simp] theorem State.onMasterRamp_players (f : Ramp → Ramp) (s : State) : (s.onMasterRamp f).players = s.players :=
  rfl
@[simp] theorem State.onMasterRamp_session (f : Ramp → Ramp) (s : State) : (s.onMasterRamp f).session = s.session :=
  rfl
@[simp] theorem State.onMasterRamp_control (f : Ramp → Ramp) (s : State) : (s.onMasterRamp f).control = s.control :=
  rfl
@[simp] theorem State.onMasterRamp_pending (f : Ramp → Ramp) (s : State) : (s.onMasterRamp f).pending = s.pending :=
  rfl

@[simp] theorem State.postAlways_ramps (ty : Byte) (l : List Byte) (s : State) : (s.postAlways ty l).ramps = s.ramps :=
  rfl
@[simp] theorem State.postAlways_inputs (ty : Byte) (l : List Byte) (s : State) : (s.postAlways ty l).inputs = s.inputs :=
  rfl
@[simp] theorem State.postAlways_inForce (ty : Byte) (l : List Byte) (s : State) : (s.postAlways ty l).inForce = s.inForce :=
  rfl
@[simp] theorem State.postAlways_outputs (ty : Byte) (l : List Byte) (s : State) : (s.postAlways ty l).outputs = s.outputs :=
  rfl
@[simp] theorem State.postAlways_links (ty : Byte) (l : List Byte) (s : State) : (s.postAlways ty l).links = s.links :=
  rfl
@[simp] theorem State.postAlways_linkParams (ty : Byte) (l : List Byte) (s : State) : (s.postAlways ty l).linkParams = s.linkParams :=
  rfl
@[simp] theorem State.postAlways_feedFrames (ty : Byte) (l : List Byte) (s : State) : (s.postAlways ty l).feedFrames = s.feedFrames :=
  rfl
@[simp] theorem State.postAlways_detectors (ty : Byte) (l : List Byte) (s : State) : (s.postAlways ty l).detectors = s.detectors :=
  rfl
@[simp] theorem State.postAlways_outputMeters (ty : Byte) (l : List Byte) (s : State) : (s.postAlways ty l).outputMeters = s.outputMeters :=
  rfl
@[simp] theorem State.postAlways_automixer (ty : Byte) (l : List Byte) (s : State) : (s.postAlways ty l).automixer = s.automixer :=
  rfl
@[simp] theorem State.postAlways_mutes (ty : Byte) (l : List Byte) (s : State) : (s.postAlways ty l).mutes = s.mutes :=
  rfl
@[simp] theorem State.postAlways_alc (ty : Byte) (l : List Byte) (s : State) : (s.postAlways ty l).alc = s.alc := rfl
@[simp] theorem State.postAlways_router (ty : Byte) (l : List Byte) (s : State) : (s.postAlways ty l).router = s.router :=
  rfl
@[simp] theorem State.postAlways_store (ty : Byte) (l : List Byte) (s : State) : (s.postAlways ty l).store = s.store :=
  rfl
@[simp] theorem State.postAlways_players (ty : Byte) (l : List Byte) (s : State) : (s.postAlways ty l).players = s.players :=
  rfl
@[simp] theorem State.postAlways_session (ty : Byte) (l : List Byte) (s : State) : (s.postAlways ty l).session = s.session :=
  rfl
@[simp] theorem State.postAlways_pending (ty : Byte) (l : List Byte) (s : State) : (s.postAlways ty l).pending = s.pending :=
  rfl

@[simp] theorem State.controlError_ramps (c : ControlCause) (n : Nat) (ty tag : Byte) (s : State) : (s.controlError c n ty tag).ramps = s.ramps :=
  rfl
@[simp] theorem State.controlError_inputs (c : ControlCause) (n : Nat) (ty tag : Byte) (s : State) : (s.controlError c n ty tag).inputs = s.inputs :=
  rfl
@[simp] theorem State.controlError_inForce (c : ControlCause) (n : Nat) (ty tag : Byte) (s : State) : (s.controlError c n ty tag).inForce = s.inForce :=
  rfl
@[simp] theorem State.controlError_outputs (c : ControlCause) (n : Nat) (ty tag : Byte) (s : State) : (s.controlError c n ty tag).outputs = s.outputs :=
  rfl
@[simp] theorem State.controlError_links (c : ControlCause) (n : Nat) (ty tag : Byte) (s : State) : (s.controlError c n ty tag).links = s.links :=
  rfl
@[simp] theorem State.controlError_linkParams (c : ControlCause) (n : Nat) (ty tag : Byte) (s : State) : (s.controlError c n ty tag).linkParams = s.linkParams :=
  rfl
@[simp] theorem State.controlError_feedFrames (c : ControlCause) (n : Nat) (ty tag : Byte) (s : State) : (s.controlError c n ty tag).feedFrames = s.feedFrames :=
  rfl
@[simp] theorem State.controlError_detectors (c : ControlCause) (n : Nat) (ty tag : Byte) (s : State) : (s.controlError c n ty tag).detectors = s.detectors :=
  rfl
@[simp] theorem State.controlError_outputMeters (c : ControlCause) (n : Nat) (ty tag : Byte) (s : State) : (s.controlError c n ty tag).outputMeters = s.outputMeters :=
  rfl
@[simp] theorem State.controlError_automixer (c : ControlCause) (n : Nat) (ty tag : Byte) (s : State) : (s.controlError c n ty tag).automixer = s.automixer :=
  rfl
@[simp] theorem State.controlError_mutes (c : ControlCause) (n : Nat) (ty tag : Byte) (s : State) : (s.controlError c n ty tag).mutes = s.mutes :=
  rfl
@[simp] theorem State.controlError_alc (c : ControlCause) (n : Nat) (ty tag : Byte) (s : State) : (s.controlError c n ty tag).alc = s.alc :=
  rfl
@[simp] theorem State.controlError_router (c : ControlCause) (n : Nat) (ty tag : Byte) (s : State) : (s.controlError c n ty tag).router = s.router :=
  rfl
@[simp] theorem State.controlError_store (c : ControlCause) (n : Nat) (ty tag : Byte) (s : State) : (s.controlError c n ty tag).store = s.store :=
  rfl
@[simp] theorem State.controlError_players (c : ControlCause) (n : Nat) (ty tag : Byte) (s : State) : (s.controlError c n ty tag).players = s.players :=
  rfl
@[simp] theorem State.controlError_session (c : ControlCause) (n : Nat) (ty tag : Byte) (s : State) : (s.controlError c n ty tag).session = s.session :=
  rfl
@[simp] theorem State.controlError_pending (c : ControlCause) (n : Nat) (ty tag : Byte) (s : State) : (s.controlError c n ty tag).pending = s.pending :=
  rfl

@[simp] theorem State.queueAnswer_ramps (ty tag : Byte) (st : Status) (l : List Byte) (s : State) : (s.queueAnswer ty tag st l).ramps = s.ramps :=
  rfl
@[simp] theorem State.queueAnswer_inputs (ty tag : Byte) (st : Status) (l : List Byte) (s : State) : (s.queueAnswer ty tag st l).inputs = s.inputs :=
  rfl
@[simp] theorem State.queueAnswer_inForce (ty tag : Byte) (st : Status) (l : List Byte) (s : State) : (s.queueAnswer ty tag st l).inForce = s.inForce :=
  rfl
@[simp] theorem State.queueAnswer_outputs (ty tag : Byte) (st : Status) (l : List Byte) (s : State) : (s.queueAnswer ty tag st l).outputs = s.outputs :=
  rfl
@[simp] theorem State.queueAnswer_links (ty tag : Byte) (st : Status) (l : List Byte) (s : State) : (s.queueAnswer ty tag st l).links = s.links :=
  rfl
@[simp] theorem State.queueAnswer_linkParams (ty tag : Byte) (st : Status) (l : List Byte) (s : State) : (s.queueAnswer ty tag st l).linkParams = s.linkParams :=
  rfl
@[simp] theorem State.queueAnswer_feedFrames (ty tag : Byte) (st : Status) (l : List Byte) (s : State) : (s.queueAnswer ty tag st l).feedFrames = s.feedFrames :=
  rfl
@[simp] theorem State.queueAnswer_detectors (ty tag : Byte) (st : Status) (l : List Byte) (s : State) : (s.queueAnswer ty tag st l).detectors = s.detectors :=
  rfl
@[simp] theorem State.queueAnswer_outputMeters (ty tag : Byte) (st : Status) (l : List Byte) (s : State) : (s.queueAnswer ty tag st l).outputMeters = s.outputMeters :=
  rfl
@[simp] theorem State.queueAnswer_automixer (ty tag : Byte) (st : Status) (l : List Byte) (s : State) : (s.queueAnswer ty tag st l).automixer = s.automixer :=
  rfl
@[simp] theorem State.queueAnswer_mutes (ty tag : Byte) (st : Status) (l : List Byte) (s : State) : (s.queueAnswer ty tag st l).mutes = s.mutes :=
  rfl
@[simp] theorem State.queueAnswer_alc (ty tag : Byte) (st : Status) (l : List Byte) (s : State) : (s.queueAnswer ty tag st l).alc = s.alc :=
  rfl
@[simp] theorem State.queueAnswer_router (ty tag : Byte) (st : Status) (l : List Byte) (s : State) : (s.queueAnswer ty tag st l).router = s.router :=
  rfl
@[simp] theorem State.queueAnswer_store (ty tag : Byte) (st : Status) (l : List Byte) (s : State) : (s.queueAnswer ty tag st l).store = s.store :=
  rfl
@[simp] theorem State.queueAnswer_players (ty tag : Byte) (st : Status) (l : List Byte) (s : State) : (s.queueAnswer ty tag st l).players = s.players :=
  rfl
@[simp] theorem State.queueAnswer_session (ty tag : Byte) (st : Status) (l : List Byte) (s : State) : (s.queueAnswer ty tag st l).session = s.session :=
  rfl
@[simp] theorem State.queueAnswer_pending (ty tag : Byte) (st : Status) (l : List Byte) (s : State) : (s.queueAnswer ty tag st l).pending = s.pending :=
  rfl

@[simp] theorem State.hunt_ramps (s : State) : (s.hunt).ramps = s.ramps := rfl
@[simp] theorem State.hunt_inputs (s : State) : (s.hunt).inputs = s.inputs := rfl
@[simp] theorem State.hunt_inForce (s : State) : (s.hunt).inForce = s.inForce := rfl
@[simp] theorem State.hunt_outputs (s : State) : (s.hunt).outputs = s.outputs := rfl
@[simp] theorem State.hunt_links (s : State) : (s.hunt).links = s.links := rfl
@[simp] theorem State.hunt_linkParams (s : State) : (s.hunt).linkParams = s.linkParams := rfl
@[simp] theorem State.hunt_feedFrames (s : State) : (s.hunt).feedFrames = s.feedFrames := rfl
@[simp] theorem State.hunt_detectors (s : State) : (s.hunt).detectors = s.detectors := rfl
@[simp] theorem State.hunt_outputMeters (s : State) : (s.hunt).outputMeters = s.outputMeters := rfl
@[simp] theorem State.hunt_automixer (s : State) : (s.hunt).automixer = s.automixer := rfl
@[simp] theorem State.hunt_mutes (s : State) : (s.hunt).mutes = s.mutes := rfl
@[simp] theorem State.hunt_alc (s : State) : (s.hunt).alc = s.alc := rfl
@[simp] theorem State.hunt_router (s : State) : (s.hunt).router = s.router := rfl
@[simp] theorem State.hunt_store (s : State) : (s.hunt).store = s.store := rfl
@[simp] theorem State.hunt_players (s : State) : (s.hunt).players = s.players := rfl
@[simp] theorem State.hunt_session (s : State) : (s.hunt).session = s.session := rfl
@[simp] theorem State.hunt_pending (s : State) : (s.hunt).pending = s.pending := rfl

@[simp] theorem State.setGateState_ramps (p : Pod) (g : GateState) (n : Nat) (s : State) : (s.setGateState p g n).ramps = s.ramps :=
  rfl
@[simp] theorem State.setGateState_inputs (p : Pod) (g : GateState) (n : Nat) (s : State) : (s.setGateState p g n).inputs = s.inputs :=
  rfl
@[simp] theorem State.setGateState_inForce (p : Pod) (g : GateState) (n : Nat) (s : State) : (s.setGateState p g n).inForce = s.inForce :=
  rfl
@[simp] theorem State.setGateState_outputs (p : Pod) (g : GateState) (n : Nat) (s : State) : (s.setGateState p g n).outputs = s.outputs :=
  rfl
@[simp] theorem State.setGateState_links (p : Pod) (g : GateState) (n : Nat) (s : State) : (s.setGateState p g n).links = s.links :=
  rfl
@[simp] theorem State.setGateState_linkParams (p : Pod) (g : GateState) (n : Nat) (s : State) : (s.setGateState p g n).linkParams = s.linkParams :=
  rfl
@[simp] theorem State.setGateState_feedFrames (p : Pod) (g : GateState) (n : Nat) (s : State) : (s.setGateState p g n).feedFrames = s.feedFrames :=
  rfl
@[simp] theorem State.setGateState_detectors (p : Pod) (g : GateState) (n : Nat) (s : State) : (s.setGateState p g n).detectors = s.detectors :=
  rfl
@[simp] theorem State.setGateState_outputMeters (p : Pod) (g : GateState) (n : Nat) (s : State) : (s.setGateState p g n).outputMeters = s.outputMeters :=
  rfl
@[simp] theorem State.setGateState_mutes (p : Pod) (g : GateState) (n : Nat) (s : State) : (s.setGateState p g n).mutes = s.mutes :=
  rfl
@[simp] theorem State.setGateState_alc (p : Pod) (g : GateState) (n : Nat) (s : State) : (s.setGateState p g n).alc = s.alc :=
  rfl
@[simp] theorem State.setGateState_router (p : Pod) (g : GateState) (n : Nat) (s : State) : (s.setGateState p g n).router = s.router :=
  rfl
@[simp] theorem State.setGateState_store (p : Pod) (g : GateState) (n : Nat) (s : State) : (s.setGateState p g n).store = s.store :=
  rfl
@[simp] theorem State.setGateState_players (p : Pod) (g : GateState) (n : Nat) (s : State) : (s.setGateState p g n).players = s.players :=
  rfl
@[simp] theorem State.setGateState_session (p : Pod) (g : GateState) (n : Nat) (s : State) : (s.setGateState p g n).session = s.session :=
  rfl
@[simp] theorem State.setGateState_control (p : Pod) (g : GateState) (n : Nat) (s : State) : (s.setGateState p g n).control = s.control :=
  rfl
@[simp] theorem State.setGateState_pending (p : Pod) (g : GateState) (n : Nat) (s : State) : (s.setGateState p g n).pending = s.pending :=
  rfl

@[simp] theorem State.setPriority_ramps (p : Pod) (n : Nat) (s : State) : (s.setPriority p n).ramps = s.ramps := rfl
@[simp] theorem State.setPriority_inputs (p : Pod) (n : Nat) (s : State) : (s.setPriority p n).inputs = s.inputs :=
  rfl
@[simp] theorem State.setPriority_inForce (p : Pod) (n : Nat) (s : State) : (s.setPriority p n).inForce = s.inForce :=
  rfl
@[simp] theorem State.setPriority_outputs (p : Pod) (n : Nat) (s : State) : (s.setPriority p n).outputs = s.outputs :=
  rfl
@[simp] theorem State.setPriority_links (p : Pod) (n : Nat) (s : State) : (s.setPriority p n).links = s.links := rfl
@[simp] theorem State.setPriority_linkParams (p : Pod) (n : Nat) (s : State) : (s.setPriority p n).linkParams = s.linkParams :=
  rfl
@[simp] theorem State.setPriority_feedFrames (p : Pod) (n : Nat) (s : State) : (s.setPriority p n).feedFrames = s.feedFrames :=
  rfl
@[simp] theorem State.setPriority_detectors (p : Pod) (n : Nat) (s : State) : (s.setPriority p n).detectors = s.detectors :=
  rfl
@[simp] theorem State.setPriority_outputMeters (p : Pod) (n : Nat) (s : State) : (s.setPriority p n).outputMeters = s.outputMeters :=
  rfl
@[simp] theorem State.setPriority_mutes (p : Pod) (n : Nat) (s : State) : (s.setPriority p n).mutes = s.mutes := rfl
@[simp] theorem State.setPriority_alc (p : Pod) (n : Nat) (s : State) : (s.setPriority p n).alc = s.alc := rfl
@[simp] theorem State.setPriority_router (p : Pod) (n : Nat) (s : State) : (s.setPriority p n).router = s.router :=
  rfl
@[simp] theorem State.setPriority_store (p : Pod) (n : Nat) (s : State) : (s.setPriority p n).store = s.store := rfl
@[simp] theorem State.setPriority_players (p : Pod) (n : Nat) (s : State) : (s.setPriority p n).players = s.players :=
  rfl
@[simp] theorem State.setPriority_session (p : Pod) (n : Nat) (s : State) : (s.setPriority p n).session = s.session :=
  rfl
@[simp] theorem State.setPriority_control (p : Pod) (n : Nat) (s : State) : (s.setPriority p n).control = s.control :=
  rfl
@[simp] theorem State.setPriority_pending (p : Pod) (n : Nat) (s : State) : (s.setPriority p n).pending = s.pending :=
  rfl

@[simp] theorem State.dequeueGate_ramps (p : Pod) (s : State) : (s.dequeueGate p).ramps = s.ramps := rfl
@[simp] theorem State.dequeueGate_inputs (p : Pod) (s : State) : (s.dequeueGate p).inputs = s.inputs := rfl
@[simp] theorem State.dequeueGate_inForce (p : Pod) (s : State) : (s.dequeueGate p).inForce = s.inForce := rfl
@[simp] theorem State.dequeueGate_outputs (p : Pod) (s : State) : (s.dequeueGate p).outputs = s.outputs := rfl
@[simp] theorem State.dequeueGate_links (p : Pod) (s : State) : (s.dequeueGate p).links = s.links := rfl
@[simp] theorem State.dequeueGate_linkParams (p : Pod) (s : State) : (s.dequeueGate p).linkParams = s.linkParams :=
  rfl
@[simp] theorem State.dequeueGate_feedFrames (p : Pod) (s : State) : (s.dequeueGate p).feedFrames = s.feedFrames :=
  rfl
@[simp] theorem State.dequeueGate_detectors (p : Pod) (s : State) : (s.dequeueGate p).detectors = s.detectors := rfl
@[simp] theorem State.dequeueGate_outputMeters (p : Pod) (s : State) : (s.dequeueGate p).outputMeters = s.outputMeters :=
  rfl
@[simp] theorem State.dequeueGate_mutes (p : Pod) (s : State) : (s.dequeueGate p).mutes = s.mutes := rfl
@[simp] theorem State.dequeueGate_alc (p : Pod) (s : State) : (s.dequeueGate p).alc = s.alc := rfl
@[simp] theorem State.dequeueGate_router (p : Pod) (s : State) : (s.dequeueGate p).router = s.router := rfl
@[simp] theorem State.dequeueGate_store (p : Pod) (s : State) : (s.dequeueGate p).store = s.store := rfl
@[simp] theorem State.dequeueGate_players (p : Pod) (s : State) : (s.dequeueGate p).players = s.players := rfl
@[simp] theorem State.dequeueGate_session (p : Pod) (s : State) : (s.dequeueGate p).session = s.session := rfl
@[simp] theorem State.dequeueGate_control (p : Pod) (s : State) : (s.dequeueGate p).control = s.control := rfl
@[simp] theorem State.dequeueGate_pending (p : Pod) (s : State) : (s.dequeueGate p).pending = s.pending := rfl

@[simp] theorem State.setTalkList_ramps (l : List Pod) (s : State) : (s.setTalkList l).ramps = s.ramps := rfl
@[simp] theorem State.setTalkList_inputs (l : List Pod) (s : State) : (s.setTalkList l).inputs = s.inputs := rfl
@[simp] theorem State.setTalkList_inForce (l : List Pod) (s : State) : (s.setTalkList l).inForce = s.inForce := rfl
@[simp] theorem State.setTalkList_outputs (l : List Pod) (s : State) : (s.setTalkList l).outputs = s.outputs := rfl
@[simp] theorem State.setTalkList_links (l : List Pod) (s : State) : (s.setTalkList l).links = s.links := rfl
@[simp] theorem State.setTalkList_linkParams (l : List Pod) (s : State) : (s.setTalkList l).linkParams = s.linkParams :=
  rfl
@[simp] theorem State.setTalkList_feedFrames (l : List Pod) (s : State) : (s.setTalkList l).feedFrames = s.feedFrames :=
  rfl
@[simp] theorem State.setTalkList_detectors (l : List Pod) (s : State) : (s.setTalkList l).detectors = s.detectors :=
  rfl
@[simp] theorem State.setTalkList_outputMeters (l : List Pod) (s : State) : (s.setTalkList l).outputMeters = s.outputMeters :=
  rfl
@[simp] theorem State.setTalkList_automixer (l : List Pod) (s : State) : (s.setTalkList l).automixer = s.automixer :=
  rfl
@[simp] theorem State.setTalkList_alc (l : List Pod) (s : State) : (s.setTalkList l).alc = s.alc := rfl
@[simp] theorem State.setTalkList_router (l : List Pod) (s : State) : (s.setTalkList l).router = s.router := rfl
@[simp] theorem State.setTalkList_store (l : List Pod) (s : State) : (s.setTalkList l).store = s.store := rfl
@[simp] theorem State.setTalkList_players (l : List Pod) (s : State) : (s.setTalkList l).players = s.players := rfl
@[simp] theorem State.setTalkList_session (l : List Pod) (s : State) : (s.setTalkList l).session = s.session := rfl
@[simp] theorem State.setTalkList_control (l : List Pod) (s : State) : (s.setTalkList l).control = s.control := rfl
@[simp] theorem State.setTalkList_pending (l : List Pod) (s : State) : (s.setTalkList l).pending = s.pending := rfl

end Sys2Proof.Machine
end

