-- ==== Sys2Proof/Laws/Frames.lean ====
section
/-! SUPPORT. What the shared operations over gates, mutes, key levels and link changes leave as it was: one lemma per
field per operation. -/

namespace Sys2Proof.Machine

/-- A field that every step of a fold leaves alone is left alone by the fold. -/
theorem foldl_keeps {α β γ : Type} (g : β → γ) (f : β → α → β) (h : ∀ b a, g (f b a) = g b) (l : List α) (b : β) :
    g (l.foldl f b) = g b := by
  induction l generalizing b with
  | nil => rfl
  | cons a rest ih => rw [List.foldl_cons, ih, h]

@[simp] theorem State.post_ramps (c : Category) (ty : Byte) (l : List Byte) (s : State) :
    (s.post c ty l).ramps = s.ramps := by
  simp only [State.post]
  (repeat' split) <;> simp

@[simp] theorem State.post_inputs (c : Category) (ty : Byte) (l : List Byte) (s : State) :
    (s.post c ty l).inputs = s.inputs := by
  simp only [State.post]
  (repeat' split) <;> simp

@[simp] theorem State.post_inForce (c : Category) (ty : Byte) (l : List Byte) (s : State) :
    (s.post c ty l).inForce = s.inForce := by
  simp only [State.post]
  (repeat' split) <;> simp

@[simp] theorem State.post_outputs (c : Category) (ty : Byte) (l : List Byte) (s : State) :
    (s.post c ty l).outputs = s.outputs := by
  simp only [State.post]
  (repeat' split) <;> simp

@[simp] theorem State.post_links (c : Category) (ty : Byte) (l : List Byte) (s : State) :
    (s.post c ty l).links = s.links := by
  simp only [State.post]
  (repeat' split) <;> simp

@[simp] theorem State.post_linkParams (c : Category) (ty : Byte) (l : List Byte) (s : State) :
    (s.post c ty l).linkParams = s.linkParams := by
  simp only [State.post]
  (repeat' split) <;> simp

@[simp] theorem State.post_feedFrames (c : Category) (ty : Byte) (l : List Byte) (s : State) :
    (s.post c ty l).feedFrames = s.feedFrames := by
  simp only [State.post]
  (repeat' split) <;> simp

@[simp] theorem State.post_detectors (c : Category) (ty : Byte) (l : List Byte) (s : State) :
    (s.post c ty l).detectors = s.detectors := by
  simp only [State.post]
  (repeat' split) <;> simp

@[simp] theorem State.post_outputMeters (c : Category) (ty : Byte) (l : List Byte) (s : State) :
    (s.post c ty l).outputMeters = s.outputMeters := by
  simp only [State.post]
  (repeat' split) <;> simp

@[simp] theorem State.post_automixer (c : Category) (ty : Byte) (l : List Byte) (s : State) :
    (s.post c ty l).automixer = s.automixer := by
  simp only [State.post]
  (repeat' split) <;> simp

@[simp] theorem State.post_mutes (c : Category) (ty : Byte) (l : List Byte) (s : State) :
    (s.post c ty l).mutes = s.mutes := by
  simp only [State.post]
  (repeat' split) <;> simp

@[simp] theorem State.post_alc (c : Category) (ty : Byte) (l : List Byte) (s : State) :
    (s.post c ty l).alc = s.alc := by
  simp only [State.post]
  (repeat' split) <;> simp

@[simp] theorem State.post_router (c : Category) (ty : Byte) (l : List Byte) (s : State) :
    (s.post c ty l).router = s.router := by
  simp only [State.post]
  (repeat' split) <;> simp

@[simp] theorem State.post_store (c : Category) (ty : Byte) (l : List Byte) (s : State) :
    (s.post c ty l).store = s.store := by
  simp only [State.post]
  (repeat' split) <;> simp

@[simp] theorem State.post_players (c : Category) (ty : Byte) (l : List Byte) (s : State) :
    (s.post c ty l).players = s.players := by
  simp only [State.post]
  (repeat' split) <;> simp

@[simp] theorem State.post_session (c : Category) (ty : Byte) (l : List Byte) (s : State) :
    (s.post c ty l).session = s.session := by
  simp only [State.post]
  (repeat' split) <;> simp

@[simp] theorem State.post_pending (c : Category) (ty : Byte) (l : List Byte) (s : State) :
    (s.post c ty l).pending = s.pending := by
  simp only [State.post]
  (repeat' split) <;> simp

@[simp] theorem State.gateEvent_ramps (p : Pod) (a b : GateState) (c : GateCause) (s : State) :
    (s.gateEvent p a b c).ramps = s.ramps := by
  simp [State.gateEvent]

@[simp] theorem State.gateEvent_inputs (p : Pod) (a b : GateState) (c : GateCause) (s : State) :
    (s.gateEvent p a b c).inputs = s.inputs := by
  simp [State.gateEvent]

@[simp] theorem State.gateEvent_inForce (p : Pod) (a b : GateState) (c : GateCause) (s : State) :
    (s.gateEvent p a b c).inForce = s.inForce := by
  simp [State.gateEvent]

@[simp] theorem State.gateEvent_outputs (p : Pod) (a b : GateState) (c : GateCause) (s : State) :
    (s.gateEvent p a b c).outputs = s.outputs := by
  simp [State.gateEvent]

@[simp] theorem State.gateEvent_links (p : Pod) (a b : GateState) (c : GateCause) (s : State) :
    (s.gateEvent p a b c).links = s.links := by
  simp [State.gateEvent]

@[simp] theorem State.gateEvent_linkParams (p : Pod) (a b : GateState) (c : GateCause) (s : State) :
    (s.gateEvent p a b c).linkParams = s.linkParams := by
  simp [State.gateEvent]

@[simp] theorem State.gateEvent_feedFrames (p : Pod) (a b : GateState) (c : GateCause) (s : State) :
    (s.gateEvent p a b c).feedFrames = s.feedFrames := by
  simp [State.gateEvent]

@[simp] theorem State.gateEvent_detectors (p : Pod) (a b : GateState) (c : GateCause) (s : State) :
    (s.gateEvent p a b c).detectors = s.detectors := by
  simp [State.gateEvent]

@[simp] theorem State.gateEvent_outputMeters (p : Pod) (a b : GateState) (c : GateCause) (s : State) :
    (s.gateEvent p a b c).outputMeters = s.outputMeters := by
  simp [State.gateEvent]

@[simp] theorem State.gateEvent_automixer (p : Pod) (a b : GateState) (c : GateCause) (s : State) :
    (s.gateEvent p a b c).automixer = s.automixer := by
  simp [State.gateEvent]

@[simp] theorem State.gateEvent_mutes (p : Pod) (a b : GateState) (c : GateCause) (s : State) :
    (s.gateEvent p a b c).mutes = s.mutes := by
  simp [State.gateEvent]

@[simp] theorem State.gateEvent_alc (p : Pod) (a b : GateState) (c : GateCause) (s : State) :
    (s.gateEvent p a b c).alc = s.alc := by
  simp [State.gateEvent]

@[simp] theorem State.gateEvent_router (p : Pod) (a b : GateState) (c : GateCause) (s : State) :
    (s.gateEvent p a b c).router = s.router := by
  simp [State.gateEvent]

@[simp] theorem State.gateEvent_store (p : Pod) (a b : GateState) (c : GateCause) (s : State) :
    (s.gateEvent p a b c).store = s.store := by
  simp [State.gateEvent]

@[simp] theorem State.gateEvent_players (p : Pod) (a b : GateState) (c : GateCause) (s : State) :
    (s.gateEvent p a b c).players = s.players := by
  simp [State.gateEvent]

@[simp] theorem State.gateEvent_session (p : Pod) (a b : GateState) (c : GateCause) (s : State) :
    (s.gateEvent p a b c).session = s.session := by
  simp [State.gateEvent]

@[simp] theorem State.gateEvent_pending (p : Pod) (a b : GateState) (c : GateCause) (s : State) :
    (s.gateEvent p a b c).pending = s.pending := by
  simp [State.gateEvent]

@[simp] theorem State.linkEvent_ramps (p : Pod) (c : LinkChange) (s : State) :
    (s.linkEvent p c).ramps = s.ramps := by
  simp [State.linkEvent]

@[simp] theorem State.linkEvent_inputs (p : Pod) (c : LinkChange) (s : State) :
    (s.linkEvent p c).inputs = s.inputs := by
  simp [State.linkEvent]

@[simp] theorem State.linkEvent_inForce (p : Pod) (c : LinkChange) (s : State) :
    (s.linkEvent p c).inForce = s.inForce := by
  simp [State.linkEvent]

@[simp] theorem State.linkEvent_outputs (p : Pod) (c : LinkChange) (s : State) :
    (s.linkEvent p c).outputs = s.outputs := by
  simp [State.linkEvent]

@[simp] theorem State.linkEvent_links (p : Pod) (c : LinkChange) (s : State) :
    (s.linkEvent p c).links = s.links := by
  simp [State.linkEvent]

@[simp] theorem State.linkEvent_linkParams (p : Pod) (c : LinkChange) (s : State) :
    (s.linkEvent p c).linkParams = s.linkParams := by
  simp [State.linkEvent]

@[simp] theorem State.linkEvent_feedFrames (p : Pod) (c : LinkChange) (s : State) :
    (s.linkEvent p c).feedFrames = s.feedFrames := by
  simp [State.linkEvent]

@[simp] theorem State.linkEvent_detectors (p : Pod) (c : LinkChange) (s : State) :
    (s.linkEvent p c).detectors = s.detectors := by
  simp [State.linkEvent]

@[simp] theorem State.linkEvent_outputMeters (p : Pod) (c : LinkChange) (s : State) :
    (s.linkEvent p c).outputMeters = s.outputMeters := by
  simp [State.linkEvent]

@[simp] theorem State.linkEvent_automixer (p : Pod) (c : LinkChange) (s : State) :
    (s.linkEvent p c).automixer = s.automixer := by
  simp [State.linkEvent]

@[simp] theorem State.linkEvent_mutes (p : Pod) (c : LinkChange) (s : State) :
    (s.linkEvent p c).mutes = s.mutes := by
  simp [State.linkEvent]

@[simp] theorem State.linkEvent_alc (p : Pod) (c : LinkChange) (s : State) :
    (s.linkEvent p c).alc = s.alc := by
  simp [State.linkEvent]

@[simp] theorem State.linkEvent_router (p : Pod) (c : LinkChange) (s : State) :
    (s.linkEvent p c).router = s.router := by
  simp [State.linkEvent]

@[simp] theorem State.linkEvent_store (p : Pod) (c : LinkChange) (s : State) :
    (s.linkEvent p c).store = s.store := by
  simp [State.linkEvent]

@[simp] theorem State.linkEvent_players (p : Pod) (c : LinkChange) (s : State) :
    (s.linkEvent p c).players = s.players := by
  simp [State.linkEvent]

@[simp] theorem State.linkEvent_session (p : Pod) (c : LinkChange) (s : State) :
    (s.linkEvent p c).session = s.session := by
  simp [State.linkEvent]

@[simp] theorem State.linkEvent_pending (p : Pod) (c : LinkChange) (s : State) :
    (s.linkEvent p c).pending = s.pending := by
  simp [State.linkEvent]

@[simp] theorem State.talkReport_ramps (a : TalkAction) (b : Byte) (s : State) :
    (s.talkReport a b).ramps = s.ramps := by
  simp [State.talkReport]

@[simp] theorem State.talkReport_inputs (a : TalkAction) (b : Byte) (s : State) :
    (s.talkReport a b).inputs = s.inputs := by
  simp [State.talkReport]

@[simp] theorem State.talkReport_inForce (a : TalkAction) (b : Byte) (s : State) :
    (s.talkReport a b).inForce = s.inForce := by
  simp [State.talkReport]

@[simp] theorem State.talkReport_outputs (a : TalkAction) (b : Byte) (s : State) :
    (s.talkReport a b).outputs = s.outputs := by
  simp [State.talkReport]

@[simp] theorem State.talkReport_links (a : TalkAction) (b : Byte) (s : State) :
    (s.talkReport a b).links = s.links := by
  simp [State.talkReport]

@[simp] theorem State.talkReport_linkParams (a : TalkAction) (b : Byte) (s : State) :
    (s.talkReport a b).linkParams = s.linkParams := by
  simp [State.talkReport]

@[simp] theorem State.talkReport_feedFrames (a : TalkAction) (b : Byte) (s : State) :
    (s.talkReport a b).feedFrames = s.feedFrames := by
  simp [State.talkReport]

@[simp] theorem State.talkReport_detectors (a : TalkAction) (b : Byte) (s : State) :
    (s.talkReport a b).detectors = s.detectors := by
  simp [State.talkReport]

@[simp] theorem State.talkReport_outputMeters (a : TalkAction) (b : Byte) (s : State) :
    (s.talkReport a b).outputMeters = s.outputMeters := by
  simp [State.talkReport]

@[simp] theorem State.talkReport_automixer (a : TalkAction) (b : Byte) (s : State) :
    (s.talkReport a b).automixer = s.automixer := by
  simp [State.talkReport]

@[simp] theorem State.talkReport_mutes (a : TalkAction) (b : Byte) (s : State) :
    (s.talkReport a b).mutes = s.mutes := by
  simp [State.talkReport]

@[simp] theorem State.talkReport_alc (a : TalkAction) (b : Byte) (s : State) :
    (s.talkReport a b).alc = s.alc := by
  simp [State.talkReport]

@[simp] theorem State.talkReport_router (a : TalkAction) (b : Byte) (s : State) :
    (s.talkReport a b).router = s.router := by
  simp [State.talkReport]

@[simp] theorem State.talkReport_store (a : TalkAction) (b : Byte) (s : State) :
    (s.talkReport a b).store = s.store := by
  simp [State.talkReport]

@[simp] theorem State.talkReport_players (a : TalkAction) (b : Byte) (s : State) :
    (s.talkReport a b).players = s.players := by
  simp [State.talkReport]

@[simp] theorem State.talkReport_session (a : TalkAction) (b : Byte) (s : State) :
    (s.talkReport a b).session = s.session := by
  simp [State.talkReport]

@[simp] theorem State.talkReport_pending (a : TalkAction) (b : Byte) (s : State) :
    (s.talkReport a b).pending = s.pending := by
  simp [State.talkReport]

@[simp] theorem State.leaveTalkList_ramps (p : Pod) (a : TalkAction) (s : State) :
    (s.leaveTalkList p a).ramps = s.ramps := by
  simp only [State.leaveTalkList]
  (repeat' split) <;> simp

@[simp] theorem State.leaveTalkList_inputs (p : Pod) (a : TalkAction) (s : State) :
    (s.leaveTalkList p a).inputs = s.inputs := by
  simp only [State.leaveTalkList]
  (repeat' split) <;> simp

@[simp] theorem State.leaveTalkList_inForce (p : Pod) (a : TalkAction) (s : State) :
    (s.leaveTalkList p a).inForce = s.inForce := by
  simp only [State.leaveTalkList]
  (repeat' split) <;> simp

@[simp] theorem State.leaveTalkList_outputs (p : Pod) (a : TalkAction) (s : State) :
    (s.leaveTalkList p a).outputs = s.outputs := by
  simp only [State.leaveTalkList]
  (repeat' split) <;> simp

@[simp] theorem State.leaveTalkList_links (p : Pod) (a : TalkAction) (s : State) :
    (s.leaveTalkList p a).links = s.links := by
  simp only [State.leaveTalkList]
  (repeat' split) <;> simp

@[simp] theorem State.leaveTalkList_linkParams (p : Pod) (a : TalkAction) (s : State) :
    (s.leaveTalkList p a).linkParams = s.linkParams := by
  simp only [State.leaveTalkList]
  (repeat' split) <;> simp

@[simp] theorem State.leaveTalkList_feedFrames (p : Pod) (a : TalkAction) (s : State) :
    (s.leaveTalkList p a).feedFrames = s.feedFrames := by
  simp only [State.leaveTalkList]
  (repeat' split) <;> simp

@[simp] theorem State.leaveTalkList_detectors (p : Pod) (a : TalkAction) (s : State) :
    (s.leaveTalkList p a).detectors = s.detectors := by
  simp only [State.leaveTalkList]
  (repeat' split) <;> simp

@[simp] theorem State.leaveTalkList_outputMeters (p : Pod) (a : TalkAction) (s : State) :
    (s.leaveTalkList p a).outputMeters = s.outputMeters := by
  simp only [State.leaveTalkList]
  (repeat' split) <;> simp

@[simp] theorem State.leaveTalkList_automixer (p : Pod) (a : TalkAction) (s : State) :
    (s.leaveTalkList p a).automixer = s.automixer := by
  simp only [State.leaveTalkList]
  (repeat' split) <;> simp

@[simp] theorem State.leaveTalkList_alc (p : Pod) (a : TalkAction) (s : State) :
    (s.leaveTalkList p a).alc = s.alc := by
  simp only [State.leaveTalkList]
  (repeat' split) <;> simp

@[simp] theorem State.leaveTalkList_router (p : Pod) (a : TalkAction) (s : State) :
    (s.leaveTalkList p a).router = s.router := by
  simp only [State.leaveTalkList]
  (repeat' split) <;> simp

@[simp] theorem State.leaveTalkList_store (p : Pod) (a : TalkAction) (s : State) :
    (s.leaveTalkList p a).store = s.store := by
  simp only [State.leaveTalkList]
  (repeat' split) <;> simp

@[simp] theorem State.leaveTalkList_players (p : Pod) (a : TalkAction) (s : State) :
    (s.leaveTalkList p a).players = s.players := by
  simp only [State.leaveTalkList]
  (repeat' split) <;> simp

@[simp] theorem State.leaveTalkList_session (p : Pod) (a : TalkAction) (s : State) :
    (s.leaveTalkList p a).session = s.session := by
  simp only [State.leaveTalkList]
  (repeat' split) <;> simp

@[simp] theorem State.leaveTalkList_pending (p : Pod) (a : TalkAction) (s : State) :
    (s.leaveTalkList p a).pending = s.pending := by
  simp only [State.leaveTalkList]
  (repeat' split) <;> simp

@[simp] theorem State.retargetGate_inputs (p : Pod) (s : State) :
    (s.retargetGate p).inputs = s.inputs := by
  simp only [State.retargetGate]
  (repeat' split) <;> simp

@[simp] theorem State.retargetGate_inForce (p : Pod) (s : State) :
    (s.retargetGate p).inForce = s.inForce := by
  simp only [State.retargetGate]
  (repeat' split) <;> simp

@[simp] theorem State.retargetGate_outputs (p : Pod) (s : State) :
    (s.retargetGate p).outputs = s.outputs := by
  simp only [State.retargetGate]
  (repeat' split) <;> simp

@[simp] theorem State.retargetGate_links (p : Pod) (s : State) :
    (s.retargetGate p).links = s.links := by
  simp only [State.retargetGate]
  (repeat' split) <;> simp

@[simp] theorem State.retargetGate_linkParams (p : Pod) (s : State) :
    (s.retargetGate p).linkParams = s.linkParams := by
  simp only [State.retargetGate]
  (repeat' split) <;> simp

@[simp] theorem State.retargetGate_feedFrames (p : Pod) (s : State) :
    (s.retargetGate p).feedFrames = s.feedFrames := by
  simp only [State.retargetGate]
  (repeat' split) <;> simp

@[simp] theorem State.retargetGate_detectors (p : Pod) (s : State) :
    (s.retargetGate p).detectors = s.detectors := by
  simp only [State.retargetGate]
  (repeat' split) <;> simp

@[simp] theorem State.retargetGate_outputMeters (p : Pod) (s : State) :
    (s.retargetGate p).outputMeters = s.outputMeters := by
  simp only [State.retargetGate]
  (repeat' split) <;> simp

@[simp] theorem State.retargetGate_automixer (p : Pod) (s : State) :
    (s.retargetGate p).automixer = s.automixer := by
  simp only [State.retargetGate]
  (repeat' split) <;> simp

@[simp] theorem State.retargetGate_mutes (p : Pod) (s : State) :
    (s.retargetGate p).mutes = s.mutes := by
  simp only [State.retargetGate]
  (repeat' split) <;> simp

@[simp] theorem State.retargetGate_alc (p : Pod) (s : State) :
    (s.retargetGate p).alc = s.alc := by
  simp only [State.retargetGate]
  (repeat' split) <;> simp

@[simp] theorem State.retargetGate_router (p : Pod) (s : State) :
    (s.retargetGate p).router = s.router := by
  simp only [State.retargetGate]
  (repeat' split) <;> simp

@[simp] theorem State.retargetGate_store (p : Pod) (s : State) :
    (s.retargetGate p).store = s.store := by
  simp only [State.retargetGate]
  (repeat' split) <;> simp

@[simp] theorem State.retargetGate_players (p : Pod) (s : State) :
    (s.retargetGate p).players = s.players := by
  simp only [State.retargetGate]
  (repeat' split) <;> simp

@[simp] theorem State.retargetGate_session (p : Pod) (s : State) :
    (s.retargetGate p).session = s.session := by
  simp only [State.retargetGate]
  (repeat' split) <;> simp

@[simp] theorem State.retargetGate_control (p : Pod) (s : State) :
    (s.retargetGate p).control = s.control := by
  simp only [State.retargetGate]
  (repeat' split) <;> simp

@[simp] theorem State.retargetGate_pending (p : Pod) (s : State) :
    (s.retargetGate p).pending = s.pending := by
  simp only [State.retargetGate]
  (repeat' split) <;> simp

@[simp] theorem State.releaseGate_ramps (p : Pod) (c : GateCause) (s : State) :
    (s.releaseGate p c).ramps = s.ramps := by
  simp [State.releaseGate]

@[simp] theorem State.releaseGate_inputs (p : Pod) (c : GateCause) (s : State) :
    (s.releaseGate p c).inputs = s.inputs := by
  simp [State.releaseGate]

@[simp] theorem State.releaseGate_inForce (p : Pod) (c : GateCause) (s : State) :
    (s.releaseGate p c).inForce = s.inForce := by
  simp [State.releaseGate]

@[simp] theorem State.releaseGate_outputs (p : Pod) (c : GateCause) (s : State) :
    (s.releaseGate p c).outputs = s.outputs := by
  simp [State.releaseGate]

@[simp] theorem State.releaseGate_links (p : Pod) (c : GateCause) (s : State) :
    (s.releaseGate p c).links = s.links := by
  simp [State.releaseGate]

@[simp] theorem State.releaseGate_linkParams (p : Pod) (c : GateCause) (s : State) :
    (s.releaseGate p c).linkParams = s.linkParams := by
  simp [State.releaseGate]

@[simp] theorem State.releaseGate_feedFrames (p : Pod) (c : GateCause) (s : State) :
    (s.releaseGate p c).feedFrames = s.feedFrames := by
  simp [State.releaseGate]

@[simp] theorem State.releaseGate_detectors (p : Pod) (c : GateCause) (s : State) :
    (s.releaseGate p c).detectors = s.detectors := by
  simp [State.releaseGate]

@[simp] theorem State.releaseGate_outputMeters (p : Pod) (c : GateCause) (s : State) :
    (s.releaseGate p c).outputMeters = s.outputMeters := by
  simp [State.releaseGate]

@[simp] theorem State.releaseGate_mutes (p : Pod) (c : GateCause) (s : State) :
    (s.releaseGate p c).mutes = s.mutes := by
  simp [State.releaseGate]

@[simp] theorem State.releaseGate_alc (p : Pod) (c : GateCause) (s : State) :
    (s.releaseGate p c).alc = s.alc := by
  simp [State.releaseGate]

@[simp] theorem State.releaseGate_router (p : Pod) (c : GateCause) (s : State) :
    (s.releaseGate p c).router = s.router := by
  simp [State.releaseGate]

@[simp] theorem State.releaseGate_store (p : Pod) (c : GateCause) (s : State) :
    (s.releaseGate p c).store = s.store := by
  simp [State.releaseGate]

@[simp] theorem State.releaseGate_players (p : Pod) (c : GateCause) (s : State) :
    (s.releaseGate p c).players = s.players := by
  simp [State.releaseGate]

@[simp] theorem State.releaseGate_session (p : Pod) (c : GateCause) (s : State) :
    (s.releaseGate p c).session = s.session := by
  simp [State.releaseGate]

@[simp] theorem State.releaseGate_pending (p : Pod) (c : GateCause) (s : State) :
    (s.releaseGate p c).pending = s.pending := by
  simp [State.releaseGate]

@[simp] theorem State.closeForMute_inputs (p : Pod) (s : State) :
    (s.closeForMute p).inputs = s.inputs := by
  simp only [State.closeForMute]
  (repeat' split) <;> simp

@[simp] theorem State.closeForMute_inForce (p : Pod) (s : State) :
    (s.closeForMute p).inForce = s.inForce := by
  simp only [State.closeForMute]
  (repeat' split) <;> simp

@[simp] theorem State.closeForMute_outputs (p : Pod) (s : State) :
    (s.closeForMute p).outputs = s.outputs := by
  simp only [State.closeForMute]
  (repeat' split) <;> simp

@[simp] theorem State.closeForMute_links (p : Pod) (s : State) :
    (s.closeForMute p).links = s.links := by
  simp only [State.closeForMute]
  (repeat' split) <;> simp

@[simp] theorem State.closeForMute_linkParams (p : Pod) (s : State) :
    (s.closeForMute p).linkParams = s.linkParams := by
  simp only [State.closeForMute]
  (repeat' split) <;> simp

@[simp] theorem State.closeForMute_feedFrames (p : Pod) (s : State) :
    (s.closeForMute p).feedFrames = s.feedFrames := by
  simp only [State.closeForMute]
  (repeat' split) <;> simp

@[simp] theorem State.closeForMute_detectors (p : Pod) (s : State) :
    (s.closeForMute p).detectors = s.detectors := by
  simp only [State.closeForMute]
  (repeat' split) <;> simp

@[simp] theorem State.closeForMute_outputMeters (p : Pod) (s : State) :
    (s.closeForMute p).outputMeters = s.outputMeters := by
  simp only [State.closeForMute]
  (repeat' split) <;> simp

@[simp] theorem State.closeForMute_mutes (p : Pod) (s : State) :
    (s.closeForMute p).mutes = s.mutes := by
  simp only [State.closeForMute]
  (repeat' split) <;> simp

@[simp] theorem State.closeForMute_alc (p : Pod) (s : State) :
    (s.closeForMute p).alc = s.alc := by
  simp only [State.closeForMute]
  (repeat' split) <;> simp

@[simp] theorem State.closeForMute_router (p : Pod) (s : State) :
    (s.closeForMute p).router = s.router := by
  simp only [State.closeForMute]
  (repeat' split) <;> simp

@[simp] theorem State.closeForMute_store (p : Pod) (s : State) :
    (s.closeForMute p).store = s.store := by
  simp only [State.closeForMute]
  (repeat' split) <;> simp

@[simp] theorem State.closeForMute_players (p : Pod) (s : State) :
    (s.closeForMute p).players = s.players := by
  simp only [State.closeForMute]
  (repeat' split) <;> simp

@[simp] theorem State.closeForMute_session (p : Pod) (s : State) :
    (s.closeForMute p).session = s.session := by
  simp only [State.closeForMute]
  (repeat' split) <;> simp

@[simp] theorem State.closeForMute_pending (p : Pod) (s : State) :
    (s.closeForMute p).pending = s.pending := by
  simp only [State.closeForMute]
  (repeat' split) <;> simp

@[simp] theorem State.setReasons_inputs (p : Pod) (r : Reasons) (s : State) :
    (s.setReasons p r).inputs = s.inputs := by
  simp only [State.setReasons]
  (repeat' split) <;> simp

@[simp] theorem State.setReasons_inForce (p : Pod) (r : Reasons) (s : State) :
    (s.setReasons p r).inForce = s.inForce := by
  simp only [State.setReasons]
  (repeat' split) <;> simp

@[simp] theorem State.setReasons_outputs (p : Pod) (r : Reasons) (s : State) :
    (s.setReasons p r).outputs = s.outputs := by
  simp only [State.setReasons]
  (repeat' split) <;> simp

@[simp] theorem State.setReasons_links (p : Pod) (r : Reasons) (s : State) :
    (s.setReasons p r).links = s.links := by
  simp only [State.setReasons]
  (repeat' split) <;> simp

@[simp] theorem State.setReasons_linkParams (p : Pod) (r : Reasons) (s : State) :
    (s.setReasons p r).linkParams = s.linkParams := by
  simp only [State.setReasons]
  (repeat' split) <;> simp

@[simp] theorem State.setReasons_feedFrames (p : Pod) (r : Reasons) (s : State) :
    (s.setReasons p r).feedFrames = s.feedFrames := by
  simp only [State.setReasons]
  (repeat' split) <;> simp

@[simp] theorem State.setReasons_detectors (p : Pod) (r : Reasons) (s : State) :
    (s.setReasons p r).detectors = s.detectors := by
  simp only [State.setReasons]
  (repeat' split) <;> simp

@[simp] theorem State.setReasons_outputMeters (p : Pod) (r : Reasons) (s : State) :
    (s.setReasons p r).outputMeters = s.outputMeters := by
  simp only [State.setReasons]
  (repeat' split) <;> simp

@[simp] theorem State.setReasons_alc (p : Pod) (r : Reasons) (s : State) :
    (s.setReasons p r).alc = s.alc := by
  simp only [State.setReasons]
  (repeat' split) <;> simp

@[simp] theorem State.setReasons_router (p : Pod) (r : Reasons) (s : State) :
    (s.setReasons p r).router = s.router := by
  simp only [State.setReasons]
  (repeat' split) <;> simp

@[simp] theorem State.setReasons_store (p : Pod) (r : Reasons) (s : State) :
    (s.setReasons p r).store = s.store := by
  simp only [State.setReasons]
  (repeat' split) <;> simp

@[simp] theorem State.setReasons_players (p : Pod) (r : Reasons) (s : State) :
    (s.setReasons p r).players = s.players := by
  simp only [State.setReasons]
  (repeat' split) <;> simp

@[simp] theorem State.setReasons_session (p : Pod) (r : Reasons) (s : State) :
    (s.setReasons p r).session = s.session := by
  simp only [State.setReasons]
  (repeat' split) <;> simp

@[simp] theorem State.setReasons_pending (p : Pod) (r : Reasons) (s : State) :
    (s.setReasons p r).pending = s.pending := by
  simp only [State.setReasons]
  (repeat' split) <;> simp

@[simp] theorem State.setKey_inputs (p : Pod) (b : Bool) (s : State) :
    (s.setKey p b).inputs = s.inputs := by
  simp [State.setKey]

@[simp] theorem State.setKey_inForce (p : Pod) (b : Bool) (s : State) :
    (s.setKey p b).inForce = s.inForce := by
  simp [State.setKey]

@[simp] theorem State.setKey_outputs (p : Pod) (b : Bool) (s : State) :
    (s.setKey p b).outputs = s.outputs := by
  simp [State.setKey]

@[simp] theorem State.setKey_links (p : Pod) (b : Bool) (s : State) :
    (s.setKey p b).links = s.links := by
  simp [State.setKey]

@[simp] theorem State.setKey_linkParams (p : Pod) (b : Bool) (s : State) :
    (s.setKey p b).linkParams = s.linkParams := by
  simp [State.setKey]

@[simp] theorem State.setKey_feedFrames (p : Pod) (b : Bool) (s : State) :
    (s.setKey p b).feedFrames = s.feedFrames := by
  simp [State.setKey]

@[simp] theorem State.setKey_detectors (p : Pod) (b : Bool) (s : State) :
    (s.setKey p b).detectors = s.detectors := by
  simp [State.setKey]

@[simp] theorem State.setKey_outputMeters (p : Pod) (b : Bool) (s : State) :
    (s.setKey p b).outputMeters = s.outputMeters := by
  simp [State.setKey]

@[simp] theorem State.setKey_alc (p : Pod) (b : Bool) (s : State) :
    (s.setKey p b).alc = s.alc := by
  simp [State.setKey]

@[simp] theorem State.setKey_router (p : Pod) (b : Bool) (s : State) :
    (s.setKey p b).router = s.router := by
  simp [State.setKey]

@[simp] theorem State.setKey_store (p : Pod) (b : Bool) (s : State) :
    (s.setKey p b).store = s.store := by
  simp [State.setKey]

@[simp] theorem State.setKey_players (p : Pod) (b : Bool) (s : State) :
    (s.setKey p b).players = s.players := by
  simp [State.setKey]

@[simp] theorem State.setKey_session (p : Pod) (b : Bool) (s : State) :
    (s.setKey p b).session = s.session := by
  simp [State.setKey]

@[simp] theorem State.setKey_pending (p : Pod) (b : Bool) (s : State) :
    (s.setKey p b).pending = s.pending := by
  simp [State.setKey]

@[simp] theorem State.setHost_inputs (p : Pod) (b : Bool) (s : State) :
    (s.setHost p b).inputs = s.inputs := by
  simp [State.setHost]

@[simp] theorem State.setHost_inForce (p : Pod) (b : Bool) (s : State) :
    (s.setHost p b).inForce = s.inForce := by
  simp [State.setHost]

@[simp] theorem State.setHost_outputs (p : Pod) (b : Bool) (s : State) :
    (s.setHost p b).outputs = s.outputs := by
  simp [State.setHost]

@[simp] theorem State.setHost_links (p : Pod) (b : Bool) (s : State) :
    (s.setHost p b).links = s.links := by
  simp [State.setHost]

@[simp] theorem State.setHost_linkParams (p : Pod) (b : Bool) (s : State) :
    (s.setHost p b).linkParams = s.linkParams := by
  simp [State.setHost]

@[simp] theorem State.setHost_feedFrames (p : Pod) (b : Bool) (s : State) :
    (s.setHost p b).feedFrames = s.feedFrames := by
  simp [State.setHost]

@[simp] theorem State.setHost_detectors (p : Pod) (b : Bool) (s : State) :
    (s.setHost p b).detectors = s.detectors := by
  simp [State.setHost]

@[simp] theorem State.setHost_outputMeters (p : Pod) (b : Bool) (s : State) :
    (s.setHost p b).outputMeters = s.outputMeters := by
  simp [State.setHost]

@[simp] theorem State.setHost_alc (p : Pod) (b : Bool) (s : State) :
    (s.setHost p b).alc = s.alc := by
  simp [State.setHost]

@[simp] theorem State.setHost_router (p : Pod) (b : Bool) (s : State) :
    (s.setHost p b).router = s.router := by
  simp [State.setHost]

@[simp] theorem State.setHost_store (p : Pod) (b : Bool) (s : State) :
    (s.setHost p b).store = s.store := by
  simp [State.setHost]

@[simp] theorem State.setHost_players (p : Pod) (b : Bool) (s : State) :
    (s.setHost p b).players = s.players := by
  simp [State.setHost]

@[simp] theorem State.setHost_session (p : Pod) (b : Bool) (s : State) :
    (s.setHost p b).session = s.session := by
  simp [State.setHost]

@[simp] theorem State.setHost_pending (p : Pod) (b : Bool) (s : State) :
    (s.setHost p b).pending = s.pending := by
  simp [State.setHost]

@[simp] theorem State.setChair_inputs (p : Pod) (b : Bool) (s : State) :
    (s.setChair p b).inputs = s.inputs := by
  simp [State.setChair]

@[simp] theorem State.setChair_inForce (p : Pod) (b : Bool) (s : State) :
    (s.setChair p b).inForce = s.inForce := by
  simp [State.setChair]

@[simp] theorem State.setChair_outputs (p : Pod) (b : Bool) (s : State) :
    (s.setChair p b).outputs = s.outputs := by
  simp [State.setChair]

@[simp] theorem State.setChair_links (p : Pod) (b : Bool) (s : State) :
    (s.setChair p b).links = s.links := by
  simp [State.setChair]

@[simp] theorem State.setChair_linkParams (p : Pod) (b : Bool) (s : State) :
    (s.setChair p b).linkParams = s.linkParams := by
  simp [State.setChair]

@[simp] theorem State.setChair_feedFrames (p : Pod) (b : Bool) (s : State) :
    (s.setChair p b).feedFrames = s.feedFrames := by
  simp [State.setChair]

@[simp] theorem State.setChair_detectors (p : Pod) (b : Bool) (s : State) :
    (s.setChair p b).detectors = s.detectors := by
  simp [State.setChair]

@[simp] theorem State.setChair_outputMeters (p : Pod) (b : Bool) (s : State) :
    (s.setChair p b).outputMeters = s.outputMeters := by
  simp [State.setChair]

@[simp] theorem State.setChair_alc (p : Pod) (b : Bool) (s : State) :
    (s.setChair p b).alc = s.alc := by
  simp [State.setChair]

@[simp] theorem State.setChair_router (p : Pod) (b : Bool) (s : State) :
    (s.setChair p b).router = s.router := by
  simp [State.setChair]

@[simp] theorem State.setChair_store (p : Pod) (b : Bool) (s : State) :
    (s.setChair p b).store = s.store := by
  simp [State.setChair]

@[simp] theorem State.setChair_players (p : Pod) (b : Bool) (s : State) :
    (s.setChair p b).players = s.players := by
  simp [State.setChair]

@[simp] theorem State.setChair_session (p : Pod) (b : Bool) (s : State) :
    (s.setChair p b).session = s.session := by
  simp [State.setChair]

@[simp] theorem State.setChair_pending (p : Pod) (b : Bool) (s : State) :
    (s.setChair p b).pending = s.pending := by
  simp [State.setChair]

@[simp] theorem State.gainFault_inputs (p : Pod) (s : State) :
    (s.gainFault p).inputs = s.inputs := by
  simp [State.gainFault]

@[simp] theorem State.gainFault_inForce (p : Pod) (s : State) :
    (s.gainFault p).inForce = s.inForce := by
  simp [State.gainFault]

@[simp] theorem State.gainFault_outputs (p : Pod) (s : State) :
    (s.gainFault p).outputs = s.outputs := by
  simp [State.gainFault]

@[simp] theorem State.gainFault_links (p : Pod) (s : State) :
    (s.gainFault p).links = s.links := by
  simp [State.gainFault]

@[simp] theorem State.gainFault_linkParams (p : Pod) (s : State) :
    (s.gainFault p).linkParams = s.linkParams := by
  simp [State.gainFault]

@[simp] theorem State.gainFault_feedFrames (p : Pod) (s : State) :
    (s.gainFault p).feedFrames = s.feedFrames := by
  simp [State.gainFault]

@[simp] theorem State.gainFault_detectors (p : Pod) (s : State) :
    (s.gainFault p).detectors = s.detectors := by
  simp [State.gainFault]

@[simp] theorem State.gainFault_outputMeters (p : Pod) (s : State) :
    (s.gainFault p).outputMeters = s.outputMeters := by
  simp [State.gainFault]

@[simp] theorem State.gainFault_alc (p : Pod) (s : State) :
    (s.gainFault p).alc = s.alc := by
  simp [State.gainFault]

@[simp] theorem State.gainFault_router (p : Pod) (s : State) :
    (s.gainFault p).router = s.router := by
  simp [State.gainFault]

@[simp] theorem State.gainFault_store (p : Pod) (s : State) :
    (s.gainFault p).store = s.store := by
  simp [State.gainFault]

@[simp] theorem State.gainFault_players (p : Pod) (s : State) :
    (s.gainFault p).players = s.players := by
  simp [State.gainFault]

@[simp] theorem State.gainFault_session (p : Pod) (s : State) :
    (s.gainFault p).session = s.session := by
  simp [State.gainFault]

@[simp] theorem State.gainFault_pending (p : Pod) (s : State) :
    (s.gainFault p).pending = s.pending := by
  simp [State.gainFault]

@[simp] theorem State.loseFault_inputs (p : Pod) (s : State) :
    (s.loseFault p).inputs = s.inputs := by
  simp [State.loseFault]

@[simp] theorem State.loseFault_inForce (p : Pod) (s : State) :
    (s.loseFault p).inForce = s.inForce := by
  simp [State.loseFault]

@[simp] theorem State.loseFault_outputs (p : Pod) (s : State) :
    (s.loseFault p).outputs = s.outputs := by
  simp [State.loseFault]

@[simp] theorem State.loseFault_links (p : Pod) (s : State) :
    (s.loseFault p).links = s.links := by
  simp [State.loseFault]

@[simp] theorem State.loseFault_linkParams (p : Pod) (s : State) :
    (s.loseFault p).linkParams = s.linkParams := by
  simp [State.loseFault]

@[simp] theorem State.loseFault_feedFrames (p : Pod) (s : State) :
    (s.loseFault p).feedFrames = s.feedFrames := by
  simp [State.loseFault]

@[simp] theorem State.loseFault_detectors (p : Pod) (s : State) :
    (s.loseFault p).detectors = s.detectors := by
  simp [State.loseFault]

@[simp] theorem State.loseFault_outputMeters (p : Pod) (s : State) :
    (s.loseFault p).outputMeters = s.outputMeters := by
  simp [State.loseFault]

@[simp] theorem State.loseFault_alc (p : Pod) (s : State) :
    (s.loseFault p).alc = s.alc := by
  simp [State.loseFault]

@[simp] theorem State.loseFault_router (p : Pod) (s : State) :
    (s.loseFault p).router = s.router := by
  simp [State.loseFault]

@[simp] theorem State.loseFault_store (p : Pod) (s : State) :
    (s.loseFault p).store = s.store := by
  simp [State.loseFault]

@[simp] theorem State.loseFault_players (p : Pod) (s : State) :
    (s.loseFault p).players = s.players := by
  simp [State.loseFault]

@[simp] theorem State.loseFault_session (p : Pod) (s : State) :
    (s.loseFault p).session = s.session := by
  simp [State.loseFault]

@[simp] theorem State.loseFault_pending (p : Pod) (s : State) :
    (s.loseFault p).pending = s.pending := by
  simp [State.loseFault]

@[simp] theorem State.keyFollows_inputs (p : Pod) (b : Bool) (s : State) :
    (s.keyFollows p b).inputs = s.inputs := by
  simp only [State.keyFollows]
  (repeat' split) <;> simp

@[simp] theorem State.keyFollows_inForce (p : Pod) (b : Bool) (s : State) :
    (s.keyFollows p b).inForce = s.inForce := by
  simp only [State.keyFollows]
  (repeat' split) <;> simp

@[simp] theorem State.keyFollows_outputs (p : Pod) (b : Bool) (s : State) :
    (s.keyFollows p b).outputs = s.outputs := by
  simp only [State.keyFollows]
  (repeat' split) <;> simp

@[simp] theorem State.keyFollows_links (p : Pod) (b : Bool) (s : State) :
    (s.keyFollows p b).links = s.links := by
  simp only [State.keyFollows]
  (repeat' split) <;> simp

@[simp] theorem State.keyFollows_linkParams (p : Pod) (b : Bool) (s : State) :
    (s.keyFollows p b).linkParams = s.linkParams := by
  simp only [State.keyFollows]
  (repeat' split) <;> simp

@[simp] theorem State.keyFollows_feedFrames (p : Pod) (b : Bool) (s : State) :
    (s.keyFollows p b).feedFrames = s.feedFrames := by
  simp only [State.keyFollows]
  (repeat' split) <;> simp

@[simp] theorem State.keyFollows_detectors (p : Pod) (b : Bool) (s : State) :
    (s.keyFollows p b).detectors = s.detectors := by
  simp only [State.keyFollows]
  (repeat' split) <;> simp

@[simp] theorem State.keyFollows_outputMeters (p : Pod) (b : Bool) (s : State) :
    (s.keyFollows p b).outputMeters = s.outputMeters := by
  simp only [State.keyFollows]
  (repeat' split) <;> simp

@[simp] theorem State.keyFollows_alc (p : Pod) (b : Bool) (s : State) :
    (s.keyFollows p b).alc = s.alc := by
  simp only [State.keyFollows]
  (repeat' split) <;> simp

@[simp] theorem State.keyFollows_router (p : Pod) (b : Bool) (s : State) :
    (s.keyFollows p b).router = s.router := by
  simp only [State.keyFollows]
  (repeat' split) <;> simp

@[simp] theorem State.keyFollows_store (p : Pod) (b : Bool) (s : State) :
    (s.keyFollows p b).store = s.store := by
  simp only [State.keyFollows]
  (repeat' split) <;> simp

@[simp] theorem State.keyFollows_players (p : Pod) (b : Bool) (s : State) :
    (s.keyFollows p b).players = s.players := by
  simp only [State.keyFollows]
  (repeat' split) <;> simp

@[simp] theorem State.keyFollows_session (p : Pod) (b : Bool) (s : State) :
    (s.keyFollows p b).session = s.session := by
  simp only [State.keyFollows]
  (repeat' split) <;> simp

@[simp] theorem State.keyFollows_pending (p : Pod) (b : Bool) (s : State) :
    (s.keyFollows p b).pending = s.pending := by
  simp only [State.keyFollows]
  (repeat' split) <;> simp

@[simp] theorem State.revertKeys_inputs (p : Pod) (s : State) :
    (s.revertKeys p).inputs = s.inputs := by
  simp [State.revertKeys]

@[simp] theorem State.revertKeys_inForce (p : Pod) (s : State) :
    (s.revertKeys p).inForce = s.inForce := by
  simp [State.revertKeys]

@[simp] theorem State.revertKeys_outputs (p : Pod) (s : State) :
    (s.revertKeys p).outputs = s.outputs := by
  simp [State.revertKeys]

@[simp] theorem State.revertKeys_links (p : Pod) (s : State) :
    (s.revertKeys p).links = s.links := by
  simp [State.revertKeys]

@[simp] theorem State.revertKeys_linkParams (p : Pod) (s : State) :
    (s.revertKeys p).linkParams = s.linkParams := by
  simp [State.revertKeys]

@[simp] theorem State.revertKeys_feedFrames (p : Pod) (s : State) :
    (s.revertKeys p).feedFrames = s.feedFrames := by
  simp [State.revertKeys]

@[simp] theorem State.revertKeys_detectors (p : Pod) (s : State) :
    (s.revertKeys p).detectors = s.detectors := by
  simp [State.revertKeys]

@[simp] theorem State.revertKeys_outputMeters (p : Pod) (s : State) :
    (s.revertKeys p).outputMeters = s.outputMeters := by
  simp [State.revertKeys]

@[simp] theorem State.revertKeys_alc (p : Pod) (s : State) :
    (s.revertKeys p).alc = s.alc := by
  simp [State.revertKeys]

@[simp] theorem State.revertKeys_router (p : Pod) (s : State) :
    (s.revertKeys p).router = s.router := by
  simp [State.revertKeys]

@[simp] theorem State.revertKeys_store (p : Pod) (s : State) :
    (s.revertKeys p).store = s.store := by
  simp [State.revertKeys]

@[simp] theorem State.revertKeys_players (p : Pod) (s : State) :
    (s.revertKeys p).players = s.players := by
  simp [State.revertKeys]

@[simp] theorem State.revertKeys_session (p : Pod) (s : State) :
    (s.revertKeys p).session = s.session := by
  simp [State.revertKeys]

@[simp] theorem State.revertKeys_pending (p : Pod) (s : State) :
    (s.revertKeys p).pending = s.pending := by
  simp [State.revertKeys]

@[simp] theorem State.faultFollows_inputs (p : Pod) (c : LinkChange) (s : State) :
    (s.faultFollows p c).inputs = s.inputs := by
  simp only [State.faultFollows]
  (repeat' split) <;> simp

@[simp] theorem State.faultFollows_inForce (p : Pod) (c : LinkChange) (s : State) :
    (s.faultFollows p c).inForce = s.inForce := by
  simp only [State.faultFollows]
  (repeat' split) <;> simp

@[simp] theorem State.faultFollows_outputs (p : Pod) (c : LinkChange) (s : State) :
    (s.faultFollows p c).outputs = s.outputs := by
  simp only [State.faultFollows]
  (repeat' split) <;> simp

@[simp] theorem State.faultFollows_links (p : Pod) (c : LinkChange) (s : State) :
    (s.faultFollows p c).links = s.links := by
  simp only [State.faultFollows]
  (repeat' split) <;> simp

@[simp] theorem State.faultFollows_linkParams (p : Pod) (c : LinkChange) (s : State) :
    (s.faultFollows p c).linkParams = s.linkParams := by
  simp only [State.faultFollows]
  (repeat' split) <;> simp

@[simp] theorem State.faultFollows_feedFrames (p : Pod) (c : LinkChange) (s : State) :
    (s.faultFollows p c).feedFrames = s.feedFrames := by
  simp only [State.faultFollows]
  (repeat' split) <;> simp

@[simp] theorem State.faultFollows_detectors (p : Pod) (c : LinkChange) (s : State) :
    (s.faultFollows p c).detectors = s.detectors := by
  simp only [State.faultFollows]
  (repeat' split) <;> simp

@[simp] theorem State.faultFollows_outputMeters (p : Pod) (c : LinkChange) (s : State) :
    (s.faultFollows p c).outputMeters = s.outputMeters := by
  simp only [State.faultFollows]
  (repeat' split) <;> simp

@[simp] theorem State.faultFollows_alc (p : Pod) (c : LinkChange) (s : State) :
    (s.faultFollows p c).alc = s.alc := by
  simp only [State.faultFollows]
  (repeat' split) <;> simp

@[simp] theorem State.faultFollows_router (p : Pod) (c : LinkChange) (s : State) :
    (s.faultFollows p c).router = s.router := by
  simp only [State.faultFollows]
  (repeat' split) <;> simp

@[simp] theorem State.faultFollows_store (p : Pod) (c : LinkChange) (s : State) :
    (s.faultFollows p c).store = s.store := by
  simp only [State.faultFollows]
  (repeat' split) <;> simp

@[simp] theorem State.faultFollows_players (p : Pod) (c : LinkChange) (s : State) :
    (s.faultFollows p c).players = s.players := by
  simp only [State.faultFollows]
  (repeat' split) <;> simp

@[simp] theorem State.faultFollows_session (p : Pod) (c : LinkChange) (s : State) :
    (s.faultFollows p c).session = s.session := by
  simp only [State.faultFollows]
  (repeat' split) <;> simp

@[simp] theorem State.faultFollows_pending (p : Pod) (c : LinkChange) (s : State) :
    (s.faultFollows p c).pending = s.pending := by
  simp only [State.faultFollows]
  (repeat' split) <;> simp

@[simp] theorem State.keysFollow_inputs (p : Pod) (c : LinkChange) (s : State) :
    (s.keysFollow p c).inputs = s.inputs := by
  simp only [State.keysFollow]
  (repeat' split) <;> simp

@[simp] theorem State.keysFollow_inForce (p : Pod) (c : LinkChange) (s : State) :
    (s.keysFollow p c).inForce = s.inForce := by
  simp only [State.keysFollow]
  (repeat' split) <;> simp

@[simp] theorem State.keysFollow_outputs (p : Pod) (c : LinkChange) (s : State) :
    (s.keysFollow p c).outputs = s.outputs := by
  simp only [State.keysFollow]
  (repeat' split) <;> simp

@[simp] theorem State.keysFollow_links (p : Pod) (c : LinkChange) (s : State) :
    (s.keysFollow p c).links = s.links := by
  simp only [State.keysFollow]
  (repeat' split) <;> simp

@[simp] theorem State.keysFollow_linkParams (p : Pod) (c : LinkChange) (s : State) :
    (s.keysFollow p c).linkParams = s.linkParams := by
  simp only [State.keysFollow]
  (repeat' split) <;> simp

@[simp] theorem State.keysFollow_feedFrames (p : Pod) (c : LinkChange) (s : State) :
    (s.keysFollow p c).feedFrames = s.feedFrames := by
  simp only [State.keysFollow]
  (repeat' split) <;> simp

@[simp] theorem State.keysFollow_detectors (p : Pod) (c : LinkChange) (s : State) :
    (s.keysFollow p c).detectors = s.detectors := by
  simp only [State.keysFollow]
  (repeat' split) <;> simp

@[simp] theorem State.keysFollow_outputMeters (p : Pod) (c : LinkChange) (s : State) :
    (s.keysFollow p c).outputMeters = s.outputMeters := by
  simp only [State.keysFollow]
  (repeat' split) <;> simp

@[simp] theorem State.keysFollow_alc (p : Pod) (c : LinkChange) (s : State) :
    (s.keysFollow p c).alc = s.alc := by
  simp only [State.keysFollow]
  (repeat' split) <;> simp

@[simp] theorem State.keysFollow_router (p : Pod) (c : LinkChange) (s : State) :
    (s.keysFollow p c).router = s.router := by
  simp only [State.keysFollow]
  (repeat' split) <;> simp

@[simp] theorem State.keysFollow_store (p : Pod) (c : LinkChange) (s : State) :
    (s.keysFollow p c).store = s.store := by
  simp only [State.keysFollow]
  (repeat' split) <;> simp

@[simp] theorem State.keysFollow_players (p : Pod) (c : LinkChange) (s : State) :
    (s.keysFollow p c).players = s.players := by
  simp only [State.keysFollow]
  (repeat' split) <;> simp

@[simp] theorem State.keysFollow_session (p : Pod) (c : LinkChange) (s : State) :
    (s.keysFollow p c).session = s.session := by
  simp only [State.keysFollow]
  (repeat' split) <;> simp

@[simp] theorem State.keysFollow_pending (p : Pod) (c : LinkChange) (s : State) :
    (s.keysFollow p c).pending = s.pending := by
  simp only [State.keysFollow]
  (repeat' split) <;> simp

@[simp] theorem State.handOn_inputs (p : Pod) (s : State) (c : LinkChange) : (s.handOn p c).inputs = s.inputs := by
  simp [State.handOn]

@[simp] theorem State.handOn_inForce (p : Pod) (s : State) (c : LinkChange) : (s.handOn p c).inForce = s.inForce := by
  simp [State.handOn]

@[simp] theorem State.handOn_outputs (p : Pod) (s : State) (c : LinkChange) : (s.handOn p c).outputs = s.outputs := by
  simp [State.handOn]

@[simp] theorem State.handOn_links (p : Pod) (s : State) (c : LinkChange) : (s.handOn p c).links = s.links := by
  simp [State.handOn]

@[simp] theorem State.handOn_linkParams (p : Pod) (s : State) (c : LinkChange) : (s.handOn p c).linkParams = s.linkParams := by
  simp [State.handOn]

@[simp] theorem State.handOn_feedFrames (p : Pod) (s : State) (c : LinkChange) : (s.handOn p c).feedFrames = s.feedFrames := by
  simp [State.handOn]

@[simp] theorem State.handOn_detectors (p : Pod) (s : State) (c : LinkChange) : (s.handOn p c).detectors = s.detectors := by
  simp [State.handOn]

@[simp] theorem State.handOn_outputMeters (p : Pod) (s : State) (c : LinkChange) : (s.handOn p c).outputMeters = s.outputMeters := by
  simp [State.handOn]

@[simp] theorem State.handOn_alc (p : Pod) (s : State) (c : LinkChange) : (s.handOn p c).alc = s.alc := by
  simp [State.handOn]

@[simp] theorem State.handOn_router (p : Pod) (s : State) (c : LinkChange) : (s.handOn p c).router = s.router := by
  simp [State.handOn]

@[simp] theorem State.handOn_store (p : Pod) (s : State) (c : LinkChange) : (s.handOn p c).store = s.store := by
  simp [State.handOn]

@[simp] theorem State.handOn_players (p : Pod) (s : State) (c : LinkChange) : (s.handOn p c).players = s.players := by
  simp [State.handOn]

@[simp] theorem State.handOn_session (p : Pod) (s : State) (c : LinkChange) : (s.handOn p c).session = s.session := by
  simp [State.handOn]

@[simp] theorem State.handOn_pending (p : Pod) (s : State) (c : LinkChange) : (s.handOn p c).pending = s.pending := by
  simp [State.handOn]

@[simp] theorem State.moveLink_inputs (p : Pod) (l : Link) (ch : List LinkChange) (s : State) :
    (s.moveLink p l ch).inputs = s.inputs := by
  unfold State.moveLink
  exact foldl_keeps State.inputs _ (fun b a => by simp) ch _

@[simp] theorem State.moveLink_inForce (p : Pod) (l : Link) (ch : List LinkChange) (s : State) :
    (s.moveLink p l ch).inForce = s.inForce := by
  unfold State.moveLink
  exact foldl_keeps State.inForce _ (fun b a => by simp) ch _

@[simp] theorem State.moveLink_outputs (p : Pod) (l : Link) (ch : List LinkChange) (s : State) :
    (s.moveLink p l ch).outputs = s.outputs := by
  unfold State.moveLink
  exact foldl_keeps State.outputs _ (fun b a => by simp) ch _

@[simp] theorem State.moveLink_linkParams (p : Pod) (l : Link) (ch : List LinkChange) (s : State) :
    (s.moveLink p l ch).linkParams = s.linkParams := by
  unfold State.moveLink
  exact foldl_keeps State.linkParams _ (fun b a => by simp) ch _

@[simp] theorem State.moveLink_feedFrames (p : Pod) (l : Link) (ch : List LinkChange) (s : State) :
    (s.moveLink p l ch).feedFrames = s.feedFrames := by
  unfold State.moveLink
  exact foldl_keeps State.feedFrames _ (fun b a => by simp) ch _

@[simp] theorem State.moveLink_detectors (p : Pod) (l : Link) (ch : List LinkChange) (s : State) :
    (s.moveLink p l ch).detectors = s.detectors := by
  unfold State.moveLink
  exact foldl_keeps State.detectors _ (fun b a => by simp) ch _

@[simp] theorem State.moveLink_outputMeters (p : Pod) (l : Link) (ch : List LinkChange) (s : State) :
    (s.moveLink p l ch).outputMeters = s.outputMeters := by
  unfold State.moveLink
  exact foldl_keeps State.outputMeters _ (fun b a => by simp) ch _

@[simp] theorem State.moveLink_alc (p : Pod) (l : Link) (ch : List LinkChange) (s : State) :
    (s.moveLink p l ch).alc = s.alc := by
  unfold State.moveLink
  exact foldl_keeps State.alc _ (fun b a => by simp) ch _

@[simp] theorem State.moveLink_router (p : Pod) (l : Link) (ch : List LinkChange) (s : State) :
    (s.moveLink p l ch).router = s.router := by
  unfold State.moveLink
  exact foldl_keeps State.router _ (fun b a => by simp) ch _

@[simp] theorem State.moveLink_store (p : Pod) (l : Link) (ch : List LinkChange) (s : State) :
    (s.moveLink p l ch).store = s.store := by
  unfold State.moveLink
  exact foldl_keeps State.store _ (fun b a => by simp) ch _

@[simp] theorem State.moveLink_players (p : Pod) (l : Link) (ch : List LinkChange) (s : State) :
    (s.moveLink p l ch).players = s.players := by
  unfold State.moveLink
  exact foldl_keeps State.players _ (fun b a => by simp) ch _

@[simp] theorem State.moveLink_session (p : Pod) (l : Link) (ch : List LinkChange) (s : State) :
    (s.moveLink p l ch).session = s.session := by
  unfold State.moveLink
  exact foldl_keeps State.session _ (fun b a => by simp) ch _

@[simp] theorem State.moveLink_pending (p : Pod) (l : Link) (ch : List LinkChange) (s : State) :
    (s.moveLink p l ch).pending = s.pending := by
  unfold State.moveLink
  exact foldl_keeps State.pending _ (fun b a => by simp) ch _

@[simp] theorem State.moveLink_links (p : Pod) (l : Link) (ch : List LinkChange) (s : State) :
    (s.moveLink p l ch).links = Vec.put s.links p l := by
  unfold State.moveLink
  exact foldl_keeps State.links _ (fun b a => by simp) ch _

end Sys2Proof.Machine
end

