-- ==== Sys2Proof/Laws/Memory.lean ====
section
/-! SUPPORT. The laws of clip memory: every operation keeps the canonical form, and what each byte and sample reads
after a write or a clear. -/

namespace Sys2Proof.Machine

theorem Memory.wfFrom_mono {lo lo' : Nat} (hle : lo' ≤ lo) :
    ∀ {m : List Host.Cell}, Memory.wfFrom lo m = true → Memory.wfFrom lo' m = true
  | [], _ => rfl
  | (a, v) :: rest, h => by
    simp only [Memory.wfFrom, Bool.and_eq_true, decide_eq_true_eq] at h ⊢
    exact ⟨⟨⟨by omega, h.1.1.2⟩, h.1.2⟩, h.2⟩

/-- An address below the first listed one reads 0. -/
theorem Memory.read_below {a : Nat} :
    ∀ {lo : Nat} {m : List Host.Cell}, Memory.wfFrom lo m = true → a < lo → Memory.read m a = 0
  | _, [], _, _ => rfl
  | lo, (b, v) :: rest, h, hlt => by
    simp only [Memory.wfFrom, Bool.and_eq_true, decide_eq_true_eq] at h
    rw [Memory.read, if_neg (by omega)]
    exact Memory.read_below h.2 (by omega)

theorem Memory.wfFrom_cons {lo a : Nat} {v : Byte} {rest : List Host.Cell} (hlo : lo ≤ a) (ha : a < memorySize)
    (h : Memory.wfFrom (a + 1) rest = true) : Memory.wfFrom lo (Memory.cons a v rest) = true := by
  unfold Memory.cons
  split
  · exact Memory.wfFrom_mono (by omega) h
  · simp only [Memory.wfFrom, Bool.and_eq_true, decide_eq_true_eq]
    exact ⟨⟨⟨hlo, ha⟩, ‹_›⟩, h⟩

/-- A write keeps the canonical form. -/
theorem Memory.wfFrom_write {a : Nat} {v : Byte} (ha : a < memorySize) :
    ∀ {lo : Nat} {m : List Host.Cell}, Memory.wfFrom lo m = true → lo ≤ a → Memory.wfFrom lo (Memory.write m a v) = true
  | _, [], _, hlo => Memory.wfFrom_cons hlo ha rfl
  | lo, (b, w) :: rest, h, hlo => by
    simp only [Memory.wfFrom, Bool.and_eq_true, decide_eq_true_eq] at h
    unfold Memory.write
    split
    · refine Memory.wfFrom_cons hlo ha ?_
      simp only [Memory.wfFrom, Bool.and_eq_true, decide_eq_true_eq]
      exact ⟨⟨⟨by omega, h.1.1.2⟩, h.1.2⟩, h.2⟩
    · split
      · subst_vars
        exact Memory.wfFrom_cons hlo ha h.2
      · simp only [Memory.wfFrom, Bool.and_eq_true, decide_eq_true_eq]
        exact ⟨h.1, Memory.wfFrom_write ha h.2 (by omega)⟩

theorem Memory.wf_write {m : List Host.Cell} {a : Nat} {v : Byte} (h : Memory.wf m = true) (ha : a < memorySize) :
    Memory.wf (Memory.write m a v) = true := Memory.wfFrom_write ha h (Nat.zero_le a)

theorem Memory.read_cons {lo a b : Nat} {v : Byte} {rest : List Host.Cell} (h : Memory.wfFrom lo rest = true)
    (ha : a < lo) : Memory.read (Memory.cons a v rest) b = if b = a then v else Memory.read rest b := by
  unfold Memory.cons
  split
  · split
    · subst_vars
      exact Memory.read_below h ha
    · rfl
  · rw [Memory.read]

/-- What each byte reads after a write. -/
theorem Memory.read_write {a b : Nat} {v : Byte} :
    ∀ {lo : Nat} {m : List Host.Cell}, Memory.wfFrom lo m = true →
      Memory.read (Memory.write m a v) b = if b = a then v else Memory.read m b
  | _, [], _ => Memory.read_cons (lo := a + 1) rfl (by omega)
  | lo, (c, w) :: rest, h => by
    simp only [Memory.wfFrom, Bool.and_eq_true, decide_eq_true_eq] at h
    unfold Memory.write
    split
    · refine Memory.read_cons (lo := c) ?_ ‹_›
      simp only [Memory.wfFrom, Bool.and_eq_true, decide_eq_true_eq]
      exact ⟨⟨⟨Nat.le_refl c, h.1.1.2⟩, h.1.2⟩, h.2⟩
    · split
      · subst_vars
        rw [Memory.read_cons h.2 (by omega), Memory.read]
        split <;> simp_all
      · rw [Memory.read, Memory.read, Memory.read_write h.2]
        split <;> split <;> simp_all

theorem Memory.wfFrom_clear {x y : Nat} :
    ∀ {lo : Nat} {m : List Host.Cell}, Memory.wfFrom lo m = true → Memory.wfFrom lo (Memory.clear m x y) = true
  | _, [], _ => rfl
  | lo, (a, v) :: rest, h => by
    simp only [Memory.wfFrom, Bool.and_eq_true, decide_eq_true_eq] at h
    have ih := Memory.wfFrom_clear (x := x) (y := y) h.2
    unfold Memory.clear at ih ⊢
    rw [List.filter_cons]
    split
    · simp only [Memory.wfFrom, Bool.and_eq_true, decide_eq_true_eq]
      exact ⟨h.1, ih⟩
    · exact Memory.wfFrom_mono (by omega) ih

/-- A clear keeps the canonical form. -/
theorem Memory.wf_clear {m : List Host.Cell} {x y : Nat} (h : Memory.wf m = true) :
    Memory.wf (Memory.clear m x y) = true := Memory.wfFrom_clear h

/-- What each byte reads after a clear. -/
theorem Memory.read_clear (x y a : Nat) :
    ∀ m : List Host.Cell, Memory.read (Memory.clear m x y) a = if x ≤ a ∧ a < y then 0 else Memory.read m a
  | [] => by simp [Memory.clear, Memory.read]
  | (b, v) :: rest => by
    have ih := Memory.read_clear x y a rest
    unfold Memory.clear at ih ⊢
    rw [List.filter_cons]
    by_cases hb : x ≤ b ∧ b < y
    · rw [if_neg (by simp [hb]), ih, Memory.read]
      split
      · rfl
      · rw [if_neg (by rintro rfl; exact absurd hb ‹_›)]
    · rw [if_pos (by simp only [Bool.not_eq_true', Bool.and_eq_false_iff, decide_eq_false_iff_not]; omega), Memory.read,
        Memory.read, ih]
      split
      · subst_vars
        rw [if_neg hb]
      · rfl

theorem slotAddress_lt (page : PageNumber) (offset : Fin 256) : slotAddress page offset + 1 < memorySize := by
  have := page.2
  have := offset.2
  unfold slotAddress memorySize
  omega

/-- A sample written keeps the canonical form. -/
theorem Memory.wf_writeSample {m : List Host.Cell} (page : PageNumber) (offset : Fin 256) (x : Sample)
    (h : Memory.wf m = true) : Memory.wf (Memory.writeSample m page offset x) = true := by
  have hlt := slotAddress_lt page offset
  exact Memory.wf_write (Memory.wf_write h (by omega)) hlt

theorem Memory.wf_clearPage {m : List Host.Cell} (page : PageNumber) (h : Memory.wf m = true) :
    Memory.wf (Memory.clearPage m page) = true := Memory.wf_clear h

theorem slotAddress_ne {p q : PageNumber} {o r : Fin 256} (h : p ≠ q ∨ o ≠ r) :
    slotAddress p o ≠ slotAddress q r := by
  have := o.2
  have := r.2
  intro he
  unfold slotAddress at he
  rcases h with h | h
  · exact h (Fin.ext (by omega))
  · exact h (Fin.ext (by omega))

/-- The sample in a slot after a sample is written. -/
theorem Memory.sample_writeSample {m : List Host.Cell} (page q : PageNumber) (offset r : Fin 256) (x : Sample)
    (h : Memory.wf m = true) :
    Memory.sample (Memory.writeSample m page offset x) q r =
      if q = page ∧ r = offset then x else Memory.sample m q r := by
  have hlt := slotAddress_lt page offset
  have h1 : Memory.wf (Memory.write m (slotAddress page offset) (x.extractLsb' 8 8)) = true :=
    Memory.wf_write h (by omega)
  unfold Memory.sample Memory.writeSample
  simp only [Memory.read_write h1, Memory.read_write h]
  by_cases heq : q = page ∧ r = offset
  · obtain ⟨rfl, rfl⟩ := heq
    simp only [and_self, if_true]
    rw [if_neg (by omega)]
    ext i hi
    simp only [BitVec.getElem_append, BitVec.getElem_extractLsb']
    split
    · simp [BitVec.getLsbD_eq_getElem hi]
    · rw [BitVec.getLsbD_eq_getElem (by omega)]
      congr 1
      omega
  · rw [if_neg heq]
    have hne : slotAddress q r ≠ slotAddress page offset := slotAddress_ne (by
      by_contra hc
      push Not at hc
      exact heq hc)
    have hpar : ∀ p : PageNumber, ∀ o : Fin 256, slotAddress p o % 2 = 0 := fun p o => by unfold slotAddress; omega
    have e1 := hpar q r
    have e2 := hpar page offset
    rw [if_neg (by omega), if_neg (by omega), if_neg (by omega), if_neg (by omega)]

/-- Samples written to the pages of a clip keep the canonical form. -/
theorem wf_writeSamples (pages : List PageNumber) :
    ∀ (offset : Nat) (l : List Sample) {m : List Host.Cell}, Memory.wf m = true →
      Memory.wf (writeSamples pages offset l m) = true
  | _, [], _, h => h
  | offset, x :: rest, m, h => by
    unfold writeSamples
    refine wf_writeSamples pages (offset + 1) rest ?_
    split
    · exact Memory.wf_writeSample _ _ _ h
    · exact h

theorem wf_clearPages (pages : List PageNumber) {m : List Host.Cell} (h : Memory.wf m = true) :
    Memory.wf (pages.foldl Memory.clearPage m) = true := by
  induction pages generalizing m with
  | nil => exact h
  | cons p rest ih => exact ih (Memory.wf_clearPage p h)

/-- The memory of the reset state is in canonical form. -/
theorem reset_memory_wf : Memory.wf State.reset.store.memory = true := rfl

end Sys2Proof.Machine
end

