-- ==== Sys2Proof/Laws/Shared.lean ====
section
/-! SUPPORT. What the shared operations can do, each said once: numbers read back, the taking of a request, the posting
of a report, the reason set, the ramps' bounds, the frames sent and the page checks. -/

namespace Sys2Proof.Machine

/-! ### Numbers -/

@[simp] theorem podOf_podByte (p : Pod) : podOf (podByte p) = some p := by revert p; decide

@[simp] theorem trunkOf_trunkByte (k : Trunk) : trunkOf (trunkByte k) = some k := by revert k; decide

@[simp] theorem podOf_trunkByte (k : Trunk) : podOf (trunkByte k) = none := by revert k; decide

@[simp] theorem playerOf_playerByte (n : Player) : playerOf (playerByte n) = some n := by revert n; decide

@[simp] theorem clipOf_clipByte (c : ClipId) : clipOf (clipByte c) = some c := by revert c; decide

theorem podOf_eq_none {b : Byte} (h : b.toNat = 0 ∨ 24 < b.toNat) : podOf b = none := by
  unfold podOf
  rw [dif_neg (by omega)]

theorem trunkOf_eq_none {b : Byte} (h : b.toNat < 25 ∨ 28 < b.toNat) : trunkOf b = none := by
  unfold trunkOf
  rw [dif_neg (by omega)]

theorem playerOf_eq_none {b : Byte} (h : b.toNat = 0 ∨ 2 < b.toNat) : playerOf b = none := by
  unfold playerOf
  rw [dif_neg (by omega)]

theorem clipOf_eq_none {b : Byte} (h : b.toNat = 0 ∨ 32 < b.toNat) : clipOf b = none := by
  unfold clipOf
  rw [dif_neg (by omega)]

theorem clampNat_mem (lo hi n : Nat) (h : lo ≤ hi) : lo ≤ clampNat lo hi n ∧ clampNat lo hi n ≤ hi := by
  unfold clampNat
  omega

theorem clampInt_mem (lo hi x : Int) (h : lo ≤ hi) : lo ≤ clampInt lo hi x ∧ clampInt lo hi x ≤ hi := by
  unfold clampInt
  omega

/-! ### Requests (R193) -/

theorem unlessInReset_of_outOfReset {f : State → State} {s : State} (h : s.outOfReset) : unlessInReset f s = f s := by
  unfold unlessInReset
  rcases h with h | h <;> rw [h]

theorem unlessInReset_of_reset {f : State → State} {s : State}
    (h : s.session.phase = .inSoftReset ∨ s.session.phase = .inHardReset) : unlessInReset f s = s := by
  unfold unlessInReset
  rcases h with h | h <;> rw [h]

/-- A request is executed where the part takes it: the answer is queued, then the effect comes. -/
theorem takeRequest_of_takes {ty tag : Byte} {n : Nat} {judge : State → Verdict} {s : State} (h : s.takes) :
    takeRequest ty tag n judge s =
      (judge s.hunt).effect (s.hunt.queueAnswer ty tag (judge s.hunt).status (judge s.hunt).fields) := by
  unfold takeRequest
  rw [if_pos h.1, if_neg (by have := h.2; simp only [State.hunt]; omega)]

/-- With 8 answers queued the request is not executed. -/
theorem takeRequest_overrun {ty tag : Byte} {n : Nat} {judge : State → Verdict} {s : State}
    (hp : s.session.phase = .running) (hq : 8 ≤ answerCount s.control.queue) :
    takeRequest ty tag n judge s = s.hunt.controlError .overrun (n + 4) ty tag := by
  unfold takeRequest
  rw [if_pos hp, if_pos (show 8 ≤ answerCount s.hunt.control.queue from hq)]

theorem takeRequest_not_running {ty tag : Byte} {n : Nat} {judge : State → Verdict} {s : State}
    (h : s.session.phase ≠ .running) : takeRequest ty tag n judge s = s := by
  unfold takeRequest
  rw [if_neg h]

/-- The three things the taking of a request can do. -/
theorem takeRequest_cases (ty tag : Byte) (n : Nat) (judge : State → Verdict) (s : State) :
    (s.session.phase ≠ .running ∧ takeRequest ty tag n judge s = s) ∨
    (8 ≤ answerCount s.control.queue ∧
      takeRequest ty tag n judge s = s.hunt.controlError .overrun (n + 4) ty tag) ∨
    (s.takes ∧ takeRequest ty tag n judge s =
      (judge s.hunt).effect (s.hunt.queueAnswer ty tag (judge s.hunt).status (judge s.hunt).fields)) := by
  by_cases hp : s.session.phase = .running
  · by_cases hq : 8 ≤ answerCount s.control.queue
    · exact .inr (.inl ⟨hq, takeRequest_overrun hp hq⟩)
    · have ht : s.takes := ⟨hp, by omega⟩
      exact .inr (.inr ⟨ht, takeRequest_of_takes ht⟩)
  · exact .inl ⟨hp, takeRequest_not_running hp⟩

theorem hunt_queueAnswer (ty tag : Byte) (st : Status) (l : List Byte) (s : State) :
    s.hunt.queueAnswer ty tag st l = s.answered (answerType ty) tag (st.code :: l) := rfl

/-! ### Reports (R196, R198) -/

theorem enqueueReport_of_room {ty : Byte} {l : List Byte} {c : Control} (h : reportCount c.queue < 32) :
    c.enqueueReport ty l =
      { c with queue := c.queue ++ [{ isReport := true, type := ty, tag := 0, payload := bit8 c.lost :: l }],
               lost := false } := by
  unfold Control.enqueueReport
  rw [if_pos h]

theorem enqueueReport_of_full {ty : Byte} {l : List Byte} {c : Control} (h : 32 ≤ reportCount c.queue) :
    c.enqueueReport ty l = { c with lost := true } := by
  unfold Control.enqueueReport
  rw [if_neg (by omega)]

@[simp] theorem enqueueReport_mask (ty : Byte) (l : List Byte) (c : Control) : (c.enqueueReport ty l).mask = c.mask := by
  unfold Control.enqueueReport
  split <;> rfl

@[simp] theorem enqueueReport_receiver (ty : Byte) (l : List Byte) (c : Control) :
    (c.enqueueReport ty l).receiver = c.receiver := by
  unfold Control.enqueueReport
  split <;> rfl

@[simp] theorem answerCount_enqueueReport (ty : Byte) (l : List Byte) (c : Control) :
    answerCount (c.enqueueReport ty l).queue = answerCount c.queue := by
  unfold Control.enqueueReport
  split <;> simp [answerCount]

theorem reportCount_enqueueReport_le (ty : Byte) (l : List Byte) (c : Control) (h : reportCount c.queue ≤ 32) :
    reportCount (c.enqueueReport ty l).queue ≤ 32 := by
  unfold Control.enqueueReport
  split
  · simp only [reportCount, List.filter_append, List.length_append] at *
    simp
    omega
  · exact h

theorem post_of_off {c : Category} {ty : Byte} {l : List Byte} {s : State}
    (h : s.control.mask.getLsbD c.bit = false) : s.post c ty l = s := by
  unfold State.post
  rw [if_neg (by simp [h])]

theorem post_of_on {c : Category} {ty : Byte} {l : List Byte} {s : State}
    (h : s.control.mask.getLsbD c.bit = true) : s.post c ty l = s.postAlways ty l := by
  unfold State.post
  rw [if_pos h]

/-- A posted report leaves the answers as they were and no more than 32 reports. -/
theorem post_queue (c : Category) (ty : Byte) (l : List Byte) (s : State) (h : QueueBounded s) :
    QueueBounded (s.post c ty l) := by
  unfold State.post
  split
  · exact ⟨by simpa [State.postAlways] using h.1, reportCount_enqueueReport_le ty l s.control h.2⟩
  · exact h

/-! ### Reason sets (R87) -/

@[simp] theorem State.setReasons_reasons (p : Pod) (r : Reasons) (s : State) :
    (s.setReasons p r).mutes.reasons = Vec.put s.mutes.reasons p r := by
  unfold State.setReasons
  simp only
  split
  · rfl
  · split
    · simp
    · rfl

/-- A channel whose set stays empty or stays non-empty keeps its gate, and no ramp is retargeted. -/
theorem setReasons_of_same {p : Pod} {r : Reasons} {s : State} (h : (s.mutes.reasons[p]).muted = r.muted) :
    s.setReasons p r = { s with mutes := { s.mutes with reasons := Vec.put s.mutes.reasons p r } } := by
  unfold State.setReasons
  simp only
  rw [if_pos h]

/-- A channel whose set becomes empty has its local mute ramp sent to full scale, and no gate changes. -/
theorem setReasons_of_cleared {p : Pod} {r : Reasons} {s : State} (h : (s.mutes.reasons[p]).muted = true)
    (hr : r.muted = false) :
    s.setReasons p r =
      { s with mutes := { s.mutes with reasons := Vec.put s.mutes.reasons p r } }.onLocalMuteRamp p
        (·.setTarget fullScale s.mutes.rampLength) := by
  unfold State.setReasons
  simp only
  rw [if_neg (by rw [h, hr]; decide), if_neg (by simp [hr])]

/-- A channel that gains its first reason has its local mute ramp sent to 0 and its gate closed. -/
theorem setReasons_of_muted {p : Pod} {r : Reasons} {s : State} (h : (s.mutes.reasons[p]).muted = false)
    (hr : r.muted = true) :
    s.setReasons p r =
      ({ s with mutes := { s.mutes with reasons := Vec.put s.mutes.reasons p r } }.onLocalMuteRamp p
        (·.setTarget 0 s.mutes.rampLength)).closeForMute p := by
  unfold State.setReasons
  simp only
  rw [if_neg (by rw [h, hr]; decide), if_pos hr]

/-! ### Ramps (section 1.8) -/

theorem Ramp.setTarget_bounded {t len : Nat} {r : Ramp} (ht : t ≤ fullScale) (h : r.Bounded) :
    (r.setTarget t len).Bounded := by
  unfold Ramp.setTarget
  split
  · exact h
  · exact ⟨h.1, h.2.1, h.2.2.1, ht, h.2.2.2.2⟩

theorem Ramp.jump_bounded {v : Nat} {r : Ramp} (hv : v ≤ fullScale) (h : r.Bounded) : (r.jump v).Bounded :=
  ⟨h.1, h.2.1, h.2.2.1, by simp [Ramp.jump], hv⟩

theorem Ramp.takeJump_bounded {r : Ramp} (h : r.Bounded) : r.takeJump.Bounded := by
  unfold Ramp.takeJump
  split
  · exact h
  · rename_i v hv
    have hb : v ≤ fullScale := by simpa [hv] using h.2.2.2.2
    exact ⟨hb, hb, h.2.2.1, h.2.2.2.1, by simp⟩

theorem Ramp.takeTarget_bounded {r : Ramp} (h : r.Bounded) : r.takeTarget.Bounded := by
  unfold Ramp.takeTarget
  split
  · exact h
  · rename_i t len ht
    have hb : t ≤ fullScale := by simpa [ht] using h.2.2.2.1
    exact ⟨h.1, hb, h.2.2.1, by simp, h.2.2.2.2⟩

theorem Ramp.comeInForce_bounded {r : Ramp} (h : r.Bounded) : r.comeInForce.Bounded :=
  Ramp.takeTarget_bounded (Ramp.takeJump_bounded h)

/-- R23: a move does not pass the target. -/
theorem Ramp.move_between (r : Ramp) :
    (r.value ≤ r.target → r.value ≤ r.move.value ∧ r.move.value ≤ r.target) ∧
      (r.target ≤ r.value → r.target ≤ r.move.value ∧ r.move.value ≤ r.value) := by
  unfold Ramp.move
  split <;> constructor <;> intro h <;> simp <;> omega

theorem Ramp.move_bounded {r : Ramp} (h : r.Bounded) : r.move.Bounded := by
  have hb := r.move_between
  have hv : r.move.value ≤ fullScale := by
    rcases Nat.le_total r.value r.target with hle | hle
    · exact (hb.1 hle).2.trans h.2.1
    · exact (hb.2 hle).2.trans h.1
  have hrest : r.move.target = r.target ∧ r.move.ended = r.ended ∧ r.move.pendingTarget = r.pendingTarget ∧
      r.move.pendingJump = r.pendingJump := by
    unfold Ramp.move
    split <;> simp
  exact ⟨hv, by rw [hrest.1]; exact h.2.1, by rw [hrest.2.1]; exact h.2.2.1, by rw [hrest.2.2.1]; exact h.2.2.2.1,
    by rw [hrest.2.2.2]; exact h.2.2.2.2⟩

theorem Ramp.clearArrival_bounded {r : Ramp} (h : r.Bounded) : r.clearArrival.Bounded := by
  unfold Ramp.clearArrival
  split
  · exact h
  · exact h

theorem Ramp.endPeriod_bounded {r : Ramp} (h : r.Bounded) : r.endPeriod.Bounded :=
  ⟨h.1, h.2.1, h.1, h.2.2.2.1, h.2.2.2.2⟩

/-- The root found bit by bit has its 40th power at most `y`. -/
theorem root40_pow_le (y : Nat) : root40 y ^ 40 ≤ y := by
  have h : ∀ (l : List Nat) (r : Nat), r ^ 40 ≤ y →
      (l.foldl (fun r b => if (r + 2 ^ b) ^ 40 ≤ y then r + 2 ^ b else r) r) ^ 40 ≤ y := by
    intro l
    induction l with
    | nil => intro r h; exact h
    | cons b rest ih =>
      intro r h
      rw [List.foldl_cons]
      refine ih _ ?_
      split
      · assumption
      · exact h
  exact h _ 0 (by simp)

/-- Every entry of the Lin15 table lies in 0..32768. -/
theorem lin15_le (k : Int) : lin15 k ≤ fullScale := by
  have hk := clampInt_mem (-120) 0 k (by omega)
  have hroot : ∀ y, y ≤ (2 * 32768) ^ 40 → root40 y ≤ 2 * 32768 := fun y hy =>
    (Nat.pow_le_pow_iff_left (by omega : (40 : Nat) ≠ 0)).1 ((root40_pow_le y).trans hy)
  unfold lin15 scaledPower fullScale
  split
  · rename_i h0
    have : clampInt (-120) 0 k = 0 := by omega
    rw [this]
    have := hroot ((2 * 32768) ^ 40 * 10 ^ (0 : Int).toNat) (by simp)
    omega
  · have := hroot ((2 * 32768) ^ 40 / 10 ^ (-clampInt (-120) 0 k).toNat) (Nat.div_le_self _ _)
    omega

/-! ### Frames sent and page checks -/

/-- R196: the transmit line carries the frame of the first message queued. -/
@[simp] theorem transmitted_of_cons {s : State} {m : Message} {rest : List Message} (h : s.control.queue = m :: rest) :
    s.transmitted = m.bytes := by
  simp [State.transmitted, h]

/-- R196: the transmit line is idle while no message is queued. -/
@[simp] theorem transmitted_of_nil {s : State} (h : s.control.queue = []) : s.transmitted = [] := by
  simp [State.transmitted, h]

/-- R44: the feed frame sent at the last boundary. -/
@[simp] theorem feedBytes_of_some {s : State} {p : Pod} {f : FeedFrame} (h : s.feedFrames[p] = some f) :
    s.feedBytes p = f.bytes := by
  simp [State.feedBytes, h]

/-- R149, R153: a page that carries no failed mark passes its read once its check has been formed. -/
theorem ClipStore.passes_of_formCheck {c : ClipId} {pos : Nat} {page : PageNumber} {st : ClipStore}
    (h : (st.clips[c]).pages[pos]? = some page) (hm : st.failed[page] = false) :
    (st.formCheck c pos).passes c pos = true := by
  rw [Fin.getElem_fin] at h hm
  simp [ClipStore.passes, ClipStore.formCheck, h, hm]

/-- R20: 16 bits for a sample. -/
@[simp] theorem sampleBits_length (x : Sample) : (sampleBits x).length = 16 := by simp [sampleBits]

/-! ### Gate ramp targets and KEY -/

/-- R74, R78: retargeting a gate sets the target that its state calls for, and none with FAULT. -/
theorem State.retargetGate_eq (p : Pod) (s : State) :
    s.retargetGate p = if (s.mutes.reasons[p]).fault then s
      else s.onGateRamp p (Ramp.calledFor s.automixer.params (s.automixer.gates[p]).state) := by
  unfold State.retargetGate
  split
  · rfl
  · cases (s.automixer.gates[p]).state <;> rfl

/-- R92, R94, R95: KEY as the key mode gives it for a level taken without an edge. -/
theorem KeyMode.keyAfter_eq (mode : KeyMode) (old pressed : Bool) :
    mode.keyAfter old pressed = (mode.keyFor pressed).getD old := by
  cases mode <;> rfl

end Sys2Proof.Machine
end

