-- ==== Sys2Proof/Tests/Slice0.lean ====
section
/-! SUPPORT. Tests: an ill-formed command for each check of WellFormed, the spec's worked values, one step of the
commands on small states, and for each statement of the certificate that has hypotheses a state that meets them. -/

namespace Sys2Proof.Tests

open Sys2Proof Sys2Proof.Machine

-- One theorem after another: each evaluation in the kernel waits for those before it.
set_option Elab.async false

/-! ### Well-formedness -/

/-- R203: 3 counts and 238 entries need 241 bytes. -/
theorem test_wellFormed_setRoster : (Instr.setRoster 0 (List.replicate 238 1) [] []).wellFormed = false := by decide +kernel

/-- R193, R203: a CLIP_DATA carries at least one sample. -/
theorem test_wellFormed_clipData : (Instr.clipData 0 1 0 []).wellFormed = false := by decide

/-- R203: 24 segments need 243 bytes. -/
theorem test_wellFormed_cue :
    (Instr.cue 0 1 0 0 (List.replicate 24 ⟨1, 0, 1, 0, 0, 2⟩)).wellFormed = false := by decide +kernel

/-- R203: 0x02 is START. -/
theorem test_wellFormed_unknownRequest : (Instr.unknownRequest 0x02 0 []).wellFormed = false := by decide +kernel

/-- R189: C3 02 01 07 F6 has a sum of 0. -/
theorem test_wellFormed_badCheckFrame : (Instr.badCheckFrame [0x01, 0x07] 0xF6).wellFormed = false := by decide +kernel

/-- R190: 2 and 242 are lengths of frames. -/
theorem test_wellFormed_badFrameLength :
    (Instr.badFrameLength 2).wellFormed = false ∧ (Instr.badFrameLength 242).wellFormed = false := by decide

/-! ### The spec's tables and worked values -/

/-- Lin12, as the Introduction tabulates it. -/
theorem test_lin12 :
    [lin12 (-40), lin12 (-30), lin12 (-12), lin12 0, lin12 12, lin12 24, lin12 48] =
      [410, 728, 2053, 4096, 8173, 16306, 64917] := by decide +kernel

/-- Lin15, as the Introduction tabulates it. -/
theorem test_lin15 : [lin15 (-40), lin15 (-30), lin15 (-12), lin15 0] = [3277, 5827, 16423, 32768] := by decide +kernel

/-- R22: a target set with 2 frames moves in steps of 1024, one set with 50 in steps of 41. -/
theorem test_rampStep : rampStep 2 = 1024 ∧ rampStep 50 = 41 := by decide

/-- The worked case of Chapter 1: the ducked feed. -/
theorem test_rampScale_duck : rampScale 4000 16423 = 2005 := by decide

/-- R19. -/
theorem test_saturate : (saturate 40000).toInt = 32767 ∧ (saturate (-40000)).toInt = -32768 := by decide

/-- R50: 16 samples of -32768 reach step 0; 16 of 32767 do not. -/
theorem test_levelOfFrame :
    levelOfFrame (Vec.tab fun _ => 0x8000) = 0 ∧ levelOfFrame (Vec.tab fun _ => 0x7FFF) = -1 := by decide +kernel

/-- R51's worked values. -/
theorem test_smooth : smooth (-40) (-96) = -68 ∧ smooth (-38) (-68) = -53 ∧ smooth (-97) (-44) = -48 := by decide

/-- R120's worked values. -/
theorem test_alcStep :
    alcStep 1 2 10 = 2 ∧ alcStep 1 24 10 = 5 ∧ alcStep 1 24 (-3) = -1 ∧ alcStep 1 24 (-1) = -1 ∧ alcStep 3 24 7 = 1 ∧
      alcStep 0 24 (-60) = -24 := by decide

/-- R117: the mean of 16 levels that sum to -805 is -51. -/
theorem test_meanLevel : { AlcRecord.reset with qualifying := 16, levelSum := -805 }.meanLevel = -51 := by decide

/-- R144: a clip of 1000 samples takes 4 pages, of 300 takes 2, of 600 takes 3. -/
theorem test_pagesFor : pagesFor 1000 = 4 ∧ pagesFor 300 = 2 ∧ pagesFor 600 = 3 := by decide

/-- R189's example: SET_PRIVACY on, tag 0x17. -/
theorem test_encode_setPrivacy :
    (encodeRequest (.setPrivacy 0x17 1)).map RequestFrame.bytes = some [0xC3, 0x03, 0x22, 0x17, 0x01, 0xC3] := by
  decide +kernel

/-- R189's example: the answer to it, privacy flag 1. -/
theorem test_message_bytes :
    Message.bytes { isReport := false, type := 0xA2, tag := 0x17, payload := [0, 1] } =
      [0xC3, 0x04, 0xA2, 0x17, 0x00, 0x01, 0x42] := by decide +kernel

/-- R202: feed sequence 3 with LED code RED_BLINK and samples of 0x0100. -/
theorem test_feed_bytes :
    FeedFrame.bytes { sequence := 3, led := .redBlink, samples := Vec.tab fun i => if i = 0 then 0x0100 else 0 } =
      [0x3C, 0x5A, 0x32, 0x01] ++ List.replicate 31 0 ++ [0xCD] := by decide +kernel

/-- R149: the remainder of one sample of 0 behind 0xFFFF, divided by hand. -/
theorem test_crc16 : crc16 (bytesOfSamples [0]) = 0x1D0F := by decide +kernel

/-- R203: the SET_PRIVACY of that example is read from its type, tag and payload. -/
theorem test_decode_setPrivacy : decodeRequest 0x22 0x17 [0x01] = .request (.setPrivacy 0x17 1) := by decide +kernel

/-! ### One step on small states -/

/-- The state after a command. -/
def after (c : Instr) (s : State) : State :=
  match exec c s with
  | .next t => t
  | .fault _ | .refused _ => s

/-- Type, tag and payload of the messages of the outbound queue after the START_UP report. -/
def sent (s : State) : List (Byte × Byte × List Byte) := (s.control.queue.drop 1).map fun m => (m.type, m.tag, m.payload)

/-- A vector that holds the elements given, then copies of another. -/
def vec {α : Type} {n : Nat} (l : List α) (x : α) : Vector α n := Vec.tab fun i => l.getD i.1 x

/-- A state of pod 1's link on the reset state. -/
def withLink (l : Link) : State := { State.reset with links := vec [l] Link.reset }

/-- A ramp at rest, reached after a target. -/
def atRest (v : Nat) : Ramp := { Ramp.atRest v with lastSetting := .target v 8 }

/-- The worked case of Chapter 1, "one sample position with privacy on": the values in force. -/
def privacyCase : InForce :=
  { roster := { pods := vec [true, true, true, true] false, chairs := vec [] false, trunks := vec [true] false }
    feeds := { Feeds.reset with zone := vec [1, 1] 0, podFader := vec [0, -6] 0 }
    alcGain := vec [6] 0, routing := vec [] { pod := true, trunk := true, record := true } }

/-- The same case: the samples of pods 1 and 2 and of T1. -/
def privacyInputs : Inputs :=
  { Inputs.reset with
    pods := vec [vec [] 8000, vec [] (BitVec.ofInt 16 (-3000))] silentFrame, trunks := vec [vec [] 4000] silentFrame }

/-- The same case: the ramps. -/
def privacyRamps : Ramps :=
  { Ramps.reset with
    gate := vec [atRest 32768] (atRest 5827), localMute := vec [] (atRest 32768), privacy := vec [] (atRest 16384)
    duck := vec [atRest 16423, atRest 16423] (atRest 32768), master := atRest 32768 }

/-- Chapter 1's table of composition and scaling: feeds 1 to 5, sends T1 and T2, REC-A and REC-B. -/
theorem test_privacyCase :
    let y := scaledOutputs privacyCase privacyInputs privacyRamps 15
    [y[0], y[1], y[2], y[3], y[4], y[24], y[25], y[28], y[29]] =
      [2005, 2005, 14923, 14923, 0, 5462, 0, 9462, 5462] := by decide +kernel

/-- Chapter 1's saturation case: pods 1 to 3 at 20000 with an ALC gain of 12, the volume of pod 4 at -40, feed 1 ducked. -/
theorem test_saturationCase :
    let v := { privacyCase with feeds := { Feeds.reset with volume := vec [0, 0, 0, -40] 0 }, alcGain := vec [12, 12, 12] 0 }
    let x := { Inputs.reset with pods := vec [vec [] 20000, vec [] 20000, vec [] 20000] silentFrame }
    let r := { privacyRamps with gate := vec [] (atRest 32768), privacy := vec [] (atRest 32768) }
    let y := scaledOutputs v x r 0
    [y[3], y[0]] = [11984, 40002] ∧ saturates y[0] = true ∧ saturates y[3] = false := by decide +kernel

/-- Chapter 1's ramp case: after 16 moves from 5827 the value is 22211, and 400 moves at 41 bring it back to 5827. -/
theorem test_rampCase :
    let opening := (((Ramp.atRest 5827).setTarget 32768 2).comeInForce)
    let opened := Ramp.move^[16] opening
    let closing := (opened.setTarget 5827 50).comeInForce
    opened.value = 22211 ∧ (Ramp.move^[399] closing).value = 5852 ∧ (Ramp.move^[400] closing).value = 5827 := by
  decide +kernel

/-- R1, R20: the boundary right after a reset opens the first period and hands out zeros. -/
theorem test_mixPeriodBoundary :
    let t := after (.mixPeriodBoundary [] (vec [] silentFrame)) State.reset
    t.inForce.isSome = true ∧ t.outputs = State.reset.outputs ∧ t.alc.position = 1 := by decide +kernel

/-- R20: REC-B sends its sample 0x8003 from the most significant bit, as the first of 16. -/
theorem test_recordLine :
    let s := { State.reset with outputs := Vec.put State.reset.outputs 29 (vec [0x8003] 0) }
    (s.recordLine 1).take 17 = [true] ++ List.replicate 13 false ++ [true, true, false] ∧
      (s.recordLine 0).length = 256 := by decide +kernel

/-- R29, R36: the first frame of an ABSENT link starts to acquire; a frame with a wrong check is counted as bad. -/
theorem test_micFrameArrival :
    let f : MicFrame := { MicFrame.blank with sequence := 9 }
    let s := withLink { Link.reset with state := .absent }
    (after (.micFrameArrival 0 (encodeMicFrame f) true) s).links[0] =
        { Link.reset with state := .acquiring, goodCount := 1, expected := 10, arrivalSeen := true } ∧
      ((after (.micFrameArrival 0 ((encodeMicFrame f).set 35 0) true) s).links[0]).badFrames = 1 := by decide +kernel

/-- R30, R32: with lock count 16 the sixteenth good frame locks the sequence and settling begins. -/
theorem test_lockCount :
    let f : MicFrame := { MicFrame.blank with sequence := 3 }
    let t := after (.lockCount 0 f) (withLink { Link.reset with state := .acquiring, goodCount := 15, expected := 3 })
    (t.links[0]).state = .settling ∧ (t.links[0]).fifo = [f] ∧ sent t = [(0xE2, 0, [0, 1, 2, 3, 2])] := by decide +kernel

/-- R32, R89: the two-hundredth take locks the link, and FAULT leaves the pod. -/
theorem test_settleDone :
    let t := after (.settleDone 0)
      (withLink { Link.reset with state := .settling, settleCounter := 199, fifo := [MicFrame.blank] })
    (t.links[0]).state = .locked ∧ (t.mutes.reasons[0]).fault = false ∧ (t.mutes.reasons[1]).fault = true := by
  decide +kernel

/-- R31: the fiftieth silent boundary loses the link. -/
theorem test_silence :
    let t := after (.silence 0) (withLink { Link.reset with state := .acquiring, silenceRun := 49 })
    (t.links[0]).state = .absent ∧ sent t = [(0xE2, 0, [0, 1, 2, 1, 6])] := by decide +kernel

/-- R34: the fiftieth empty take in succession loses the lock. -/
theorem test_unlock :
    let t := after (.unlock 0) (withLink { Link.reset with state := .coasting, coastRun := 49 })
    (t.links[0]).state = .absent ∧ (t.mutes.reasons[0]).fault = true := by decide +kernel

/-- R36: the fourth frame of a rising foreign sequence restarts the link. -/
theorem test_restart :
    let t := after (.restart 0 { MicFrame.blank with sequence := 11 })
      (withLink { Link.reset with state := .locked, restartRun := 3, lastRestart := 10, expected := 3 })
    (t.links[0]).state = .acquiring ∧ (t.links[0]).goodCount = 1 ∧ (t.links[0]).expected = 12 := by decide +kernel

/-- Pod 1 in the roster, LOCKED and without a mute reason, its gate and S as given over a floor of -96. -/
def withGate (state : GateState) (count : Nat) (smoothed : Int) : State :=
  { State.reset with
    session := { State.reset.session with roster := { Roster.reset with pods := vec [true] false } }
    links := vec [{ Link.reset with state := .locked }] Link.reset
    detectors := vec [{ Detector.reset with smoothed := smoothed, noiseFloor := -96 }] Detector.reset
    mutes := { Mutes.reset with
      reasons := vec [{ key := false, host := false, chair := false, fault := false }]
        { key := false, host := false, chair := false, fault := true } }
    automixer := { Automixer.reset with
      gates := vec [{ mode := .auto, priority := 0, state := state, count := count }]
        { mode := .auto, priority := 0, state := .closed, count := 0 }
      waitQueue := if state = .waiting then [0] else [] } }

/-- R65: the third judgement above the threshold, at -76 over a floor of -96, collects the request. -/
theorem test_openCountReached :
    (after (.openCountReached 0) (withGate .pending 2 (-76))).automixer.collected = [0] ∧
      (after (.openCountReached 0) (withGate .pending 2 (-77))).automixer.collected = [] := by decide +kernel

/-- R67: the last open microphone is held; without the last-mic hold it closes at 200 frames. -/
theorem test_holdExpiry :
    let s := withGate .hold 199 (-96)
    let loose := { s with automixer := { s.automixer with params := { s.automixer.params with lastMicHold := false } } }
    ((after (.holdExpiry 0) s).gate 0).state = .hold ∧ ((after (.holdExpiry 0) loose).gate 0).state = .closed := by
  decide +kernel

/-- R68: a wait ends after 200 frames below. -/
theorem test_waitTimeout :
    let t := after (.waitTimeout 0) (withGate .waiting 199 (-96))
    (t.gate 0).state = .closed ∧ t.automixer.waitQueue = [] := by decide +kernel

/-- R52: the floor rises one step at the sixty-fourth boundary. -/
theorem test_noiseFloorRise :
    let d := { Detector.reset with smoothed := -90, noiseFloor := -97, riseCounter := 63 }
    let s := { State.reset with detectors := vec [d] Detector.reset }
    ((after (.noiseFloorRise 0) s).detectors[0]).noiseFloor = -96 := by decide +kernel

/-- Pod 11's record in the worked case of Chapter 6, at the end of an interval of 16. -/
def withAlc (r : AlcRecord) : State :=
  { State.reset with
    alc := { Alc.reset with position := 15, records := vec [r] AlcRecord.reset } }

/-- Chapter 6's worked case, interval 3: the third +2 in a row is applied. -/
theorem test_intervalEnd_step :
    (after .intervalEnd (withAlc { AlcRecord.reset with
        qualifying := 10, levelSum := -510, agreementRun := 2, lastSign := some .up })).alc.records[0] =
      { AlcRecord.reset with gain := 2, lastSign := some .up, history := [.up] } := by decide +kernel

/-- Chapter 6's worked case, interval 5: the jump to 35. -/
theorem test_intervalEnd_jump :
    let r := { AlcRecord.reset with
      gain := 2, qualifying := 9, levelSum := -675, agreementRun := 1, lastSign := some .down, history := [.up] }
    (after .intervalEnd (withAlc r)).alc.records[0] = { AlcRecord.reset with gain := 35 } := by decide +kernel

/-- R177, R180: START from STOPPED is answered OK with STARTING, and reported with M 0. -/
theorem test_start :
    let t := after (.start 7) State.reset
    sent t = [(0x82, 7, [0, 1]), (0xEA, 0, [0, 0, 1, 0, 0, 0])] ∧ t.ramps.master.pendingTarget = some (32768, 32) := by
  decide +kernel

/-- The mixer in a state given, its ramp at `v` with an arrival at its target. -/
def withMixer (m : MixerState) (v : Nat) : State :=
  { State.reset with
    session := { State.reset.session with mixer := m }
    ramps := { Ramps.reset with master := { Ramp.atRest v with step := some 64, arrivalPending := true } } }

/-- R178, R180: Chapter 10's worked sequence, the STOP with M at 10240. -/
theorem test_stop :
    let t := after (.stop 7) (withMixer .starting 10240)
    sent t = [(0x83, 7, [0, 3]), (0xEA, 0, [0, 1, 3, 1, 0x28, 0x00])] ∧
      t.ramps.master.pendingTarget = some (0, 16) := by decide +kernel

/-- R179: the same sequence's end. -/
theorem test_masterRampArrival :
    sent (after .masterRampArrival (withMixer .stopping 0)) = [(0xEA, 0, [0, 3, 0, 2, 0, 0])] := by decide +kernel

/-- R191, R199: a frame whose sum is not 0 is reported with its 4 bytes after the start byte, its type and its tag. -/
theorem test_badCheckFrame :
    sent (after (.badCheckFrame [0x02, 0x07] 0xF6) State.reset) = [(0xE1, 0, [0, 0, 4, 0x02, 0x07])] := by decide +kernel

/-- A receiver in the middle of a frame of length 3: type 0x22 and tag 0x17 stored. -/
def inBody : State :=
  { State.reset with control := { State.reset.control with
      receiver := { state := .body, length := 3, body := [0x22, 0x17], sum := 0x3C, gapTimer := true } } }

/-- R192: the gap timer discards a frame of which 3 bytes have come after the start byte. -/
theorem test_gapTimerExpiry :
    let t := after .gapTimerExpiry inBody
    sent t = [(0xE1, 0, [0, 1, 3, 0x22, 0x17])] ∧ t.control.receiver.state = .hunt := by decide +kernel

/-- R189, R190, R199: a framing error discards the frame in progress, of which 4 bytes have come after the start byte. -/
theorem test_framingError :
    let t := after (.framingError 0x01) inBody
    sent t = [(0xE1, 0, [0, 2, 4, 0x22, 0x17])] ∧ t.control.receiver.state = .hunt := by decide +kernel

/-- R190: a length byte of 1 brings the receiver back to HUNT and nothing is reported. -/
theorem test_badFrameLength :
    let t := after (.badFrameLength 1) { State.reset with control := { State.reset.control with
      receiver := { state := .length, length := 0, body := [], sum := 0, gapTimer := true } } }
    t.control.receiver.state = .hunt ∧ sent t = [] := by decide +kernel

/-- R189's example byte by byte: the host's SET_PRIVACY is answered A2 17 00 01. -/
theorem test_controlByteReceived :
    let t := receiveAll [0xC3, 0x03, 0x22, 0x17, 0x01, 0xC3] State.reset
    t.mutes.privacy = true ∧ sent t = [(0xA2, 0x17, [0x00, 0x01])] := by decide +kernel

/-- R196: the START_UP report leaves the queue once it has been sent. -/
theorem test_messageSent : (after .messageSent State.reset).control.queue = [] := by decide +kernel

/-- R194: a request of type 0x00, and one of type 0x90. -/
theorem test_unknownRequest :
    sent (after (.unknownRequest 0x00 5 []) State.reset) = [(0x80, 5, [2])] ∧
      sent (after (.unknownRequest 0x90 5 []) State.reset) = [(0xFF, 5, [2])] := by decide +kernel

/-- R186, R187: a RESET is answered, takes effect once its answer is sent, and ends in a START_UP of reason SOFT. -/
theorem test_softReset :
    let t := after (.reset 1) (after .messageSent State.reset)
    (after .resetEnd (after .softReset t)).control.queue =
      [{ isReport := true, type := 0xE0, tag := 0, payload := [0, 2, 0, 2, 0] }] := by decide +kernel

/-- R181, R183: the roster in force is answered in ascending order (log entry 15). -/
theorem test_setRoster :
    let t := after (.setRoster 1 [3, 1] [3] [25]) State.reset
    sent (after (.getRoster 2) { t with control := State.reset.control }) = [(0x85, 2, [0, 2, 1, 3, 1, 3, 1, 25])] ∧
      (t.gate 2).priority = 3 ∧ (t.links[0]).state = .absent := by decide +kernel

/-- R181: a chair pod outside the enabled pods is refused. -/
theorem test_setRoster_refused :
    sent (after (.setRoster 1 [3, 1] [2] []) State.reset) = [(0x84, 1, [4])] := by decide +kernel

/-- R198: the previous mask and the new one. -/
theorem test_setReports : sent (after (.setReports 1 0x7F) State.reset) = [(0x87, 1, [0, 0x73, 0x7F])] := by decide +kernel

/-- R46, R195: lock count 65 is clamped to 64. -/
theorem test_setLinkParams :
    sent (after (.setLinkParams 1 65 1000 50 2) State.reset) = [(0x90, 1, [1, 64, 3, 232, 50, 2])] := by decide +kernel

/-- R47: the list is cut at pod 24. -/
theorem test_getLinks :
    sent (after (.getLinks 1 24 5 0) State.reset) = [(0x91, 1, [0, 1, 0, 0, 0, 0, 0, 0, 0, 0, 0])] := by decide +kernel

/-- R58: S and N of channel 30 after a reset, and its peak. -/
theorem test_getLevels : sent (after (.getLevels 1 30 1) State.reset) = [(0x94, 1, [0, 1, 0x88, 0, 0, 0])] := by decide +kernel

/-- R195: 40 entries from channel 27 are clamped to 30, and the 4 up to channel 30 follow (log entry 10). -/
theorem test_getLevels_clamped :
    sent (after (.getLevels 1 27 40) State.reset) = [(0x94, 1, [1, 4] ++ (List.replicate 4 [0x88, 0, 0, 0]).flatten)] := by
  decide +kernel

/-- R60. -/
theorem test_getOutputLevels : sent (after (.getOutputLevels 1 30 1) State.reset) = [(0x95, 1, [0, 1, 0, 0, 0])] := by
  decide +kernel

/-- R81, R195: limit 9 is clamped to 8, and the values wait for the next boundary. -/
theorem test_setAutomix :
    let t := after (.setAutomix 1 9 20 0xA6 3 200 2 50 0xE2 1) State.reset
    sent t = [(0x98, 1, [1, 8, 20, 0xA6, 3, 0, 200, 2, 50, 0xE2, 1])] ∧ t.automixer.limit = 4 ∧
      t.automixer.pendingLimit = some 8 := by decide +kernel

/-- R76, R78, R84: a channel in the roster goes to BYPASS, and its ramp is sent to full scale in 2 frames. -/
theorem test_setGate :
    let t := after (.setGate 1 1 1 2) (withGate .closed 0 (-96))
    (t.gate 0) = { mode := .bypass, priority := 2, state := .bypass, count := 0 } ∧
      (t.ramps.gate[0]).pendingTarget = some (32768, 2) := by decide +kernel

/-- R102, R87, R73: HOST mutes an open microphone, its gate closes and its local mute ramp falls in 8 frames. -/
theorem test_setMute :
    let t := after (.setMute 1 1 1) (withGate .opened 0 (-40))
    sent t = [(0xA0, 1, [0, 2])] ∧ (t.gate 0).state = .closed ∧
      (t.ramps.localMute[0]).pendingTarget = some (0, 8) := by decide +kernel

/-- R103, R101: the head of the talk-request list is admitted. -/
theorem test_clearReasons :
    let s := withGate .closed 0 (-96)
    let waiting := { s with mutes := { s.mutes with
      talkList := [0], reasons := Vec.put s.mutes.reasons 0 { key := false, host := false, chair := true, fault := false } } }
    let t := after (.clearReasons 1 1 4) waiting
    sent t = [(0xA1, 1, [0, 0]), (0xE4, 0, [0, 3, 1, 0])] ∧ t.mutes.talkList = [] := by decide +kernel

/-- R88: the example request's effect on the privacy ramps. -/
theorem test_setPrivacy :
    let t := after (.setPrivacy 0x17 1) State.reset
    (t.ramps.privacy[23]).pendingTarget = some (0, 8) ∧ sent t = [(0xA2, 0x17, [0, 1])] := by decide +kernel

/-- R97: CHAIR comes to the pods of the roster alone. -/
theorem test_setChairMute :
    let t := after (.setChairMute 1 1) (withGate .opened 0 (-40))
    (t.mutes.reasons[0]).chair = true ∧ (t.mutes.reasons[1]).chair = false ∧ (t.gate 0).state = .closed := by
  decide +kernel

/-- R104: PUSH_TO_TALK with the key released mutes. -/
theorem test_setKeyMode :
    sent (after (.setKeyMode 1 1 1) (withGate .closed 0 (-96))) = [(0xA4, 1, [0, 1])] := by decide +kernel

/-- R105: a guard of 101 is clamped. -/
theorem test_setKeyGuard : sent (after (.setKeyGuard 1 101) State.reset) = [(0xA5, 1, [1, 100])] := by decide +kernel

/-- R90: a mute ramp of 0 frames is clamped. -/
theorem test_setMuteRamp : sent (after (.setMuteRamp 1 0) State.reset) = [(0xA6, 1, [1, 1])] := by decide +kernel

/-- R126: an interval of 2 is no interval. -/
theorem test_setAlc : sent (after (.setAlc 1 1 0xD8 2 1 2 30 1 3 1) State.reset) = [(0xB0, 1, [4])] := by decide +kernel

/-- R125: a channel is held at its gain, which the answer gives. -/
theorem test_holdAlc :
    let t := after (.holdAlc 1 1 0) (withAlc { AlcRecord.reset with gain := -3 })
    sent t = [(0xB1, 1, [0, 1, 0xFD])] ∧ (t.alc.records[0]).held = true := by decide +kernel

/-- R132: zone 9 does not exist. -/
theorem test_setZone :
    sent (after (.setZone 1 24 9) State.reset) = [(0xB8, 1, [4])] ∧
      (after (.setZone 1 24 8) State.reset).router.feeds.zone[23] = 8 := by decide +kernel

/-- R136: a depth of -41 is clamped to -40. -/
theorem test_setDuck : sent (after (.setDuck 1 0xD7) State.reset) = [(0xB9, 1, [1, 0xD8])] := by decide +kernel

/-- R137: a fader of 25 is clamped to 24; channel 25 is trunk T1. -/
theorem test_setFader : (after (.setFader 1 25 25) State.reset).router.feeds.trunkFader[0] = 24 := by decide +kernel

/-- R138: a volume of 1 is clamped to 0. -/
theorem test_setVolume : sent (after (.setVolume 1 1 1) State.reset) = [(0xBB, 1, [1, 1, 0])] := by decide +kernel

/-- R139: pod 24 has no send gain. -/
theorem test_setSendGain : sent (after (.setSendGain 1 24 0) State.reset) = [(0xBC, 1, [4])] := by decide +kernel

/-- R140: flags 5 are ROOM and PROMPT. -/
theorem test_setRecord :
    (after (.setRecord 1 30 5 0) State.reset).router.feeds.record[1] =
      { room := true, far := false, prompt := true, gain := 0 } := by decide +kernel

/-- Clip 8 READY with 1024 samples on pages 0 to 3, as in Chapter 9's worked sequence, `references` segments naming it. -/
def toneStore (references : Nat) : ClipStore :=
  { ClipStore.reset with
    free := (List.finRange 512).drop 4
    clips := Vec.put ClipStore.reset.clips 7
      { state := .ready, declared := 1024, loaded := 1024, pages := [0, 1, 2, 3], references := references,
        faultPage := none } }

/-- Segment 1 of that sequence: 600 samples from 300 in a block of 256. -/
def tone : Segment :=
  { clip := 7, start := 300, playLength := 600, loopBlock := .b256, gain := -12, nextAction := .stop }

/-- Player P1 with that segment alone, in a state with a played count and next offset, its ramp at rest at `ramp`. -/
def withPlayer (state : PlayerState) (played offset ramp : Nat) : State :=
  { State.reset with
    store := toneStore 1
    session := { State.reset.session with mixer := .running }
    ramps := { Ramps.reset with player := vec [{ Ramp.atRest ramp with step := some 512, arrivalPending := true }] (Ramp.atRest 0) }
    players := vec [{ PlayerRecord.reset with
      state := state, cue := [tone], played := played, nextOffset := offset
      advancing := decide (state ≠ .cued)
      page := if state = .cued then none else some (offset / 256, true)
      routing := { pod := true, trunk := false, record := true }
      abortReason := if state = .aborting then some .aborted else none }] PlayerRecord.reset }

/-- Chapter 8's worked sequence: 1000 samples take pages 0 to 3, and 508 pages stay free. -/
theorem test_clipBegin :
    let t := after (.clipBegin 1 2 1000) State.reset
    sent t = [(0xC0, 1, [0, 2, 0, 4, 1, 252])] ∧ (t.store.clips[1]).pages = [0, 1, 2, 3] ∧ t.store.loading = some 1 := by
  decide +kernel

/-- A clip of 2 samples being loaded on page 0. -/
def loadingStore (loaded : Nat) : ClipStore :=
  { ClipStore.reset with
    free := (List.finRange 512).drop 1, loading := some 1
    clips := Vec.put ClipStore.reset.clips 1
      { state := .loading, declared := 2, loaded := loaded, pages := [0], references := 0, faultPage := none } }

/-- R148: a chunk of 2 samples, most significant byte first (log entry 7); three samples do not fit. -/
theorem test_clipData :
    let s := { State.reset with store := loadingStore 0 }
    let t := after (.clipData 1 2 0 [0x1234, 0xFF00]) s
    sent t = [(0xC1, 1, [0, 1, 0, 0, 2])] ∧ t.store.memory = [(0, 0x12), (1, 0x34), (2, 0xFF)] ∧
      sent (after (.clipData 1 2 0 [0, 0, 0]) s) = [(0xC1, 1, [3, 1, 0, 0, 0])] := by decide +kernel

/-- R149: a clip loaded whole is READY; one that is not is refused with its loaded count. -/
theorem test_clipEnd :
    let s (n : Nat) := { State.reset with store := loadingStore n }
    sent (after (.clipEnd 1 2) (s 2)) = [(0xC2, 1, [0, 2, 0, 0, 2])] ∧
      sent (after (.clipEnd 1 2) (s 1)) = [(0xC2, 1, [3, 0, 0, 1])] := by decide +kernel

/-- R151: a clip with a reference is in use; one without is deleted, and 512 pages are free. -/
theorem test_clipDelete :
    let s (n : Nat) := { State.reset with store := toneStore n }
    sent (after (.clipDelete 1 8) (s 1)) = [(0xC3, 1, [7])] ∧
      sent (after (.clipDelete 1 8) (s 0)) = [(0xC3, 1, [0, 2, 0])] := by decide +kernel

/-- R160, R161: Chapter 9's segment 1, alone and as the last, is CUED at its start. -/
theorem test_cue :
    let t := after (.cue 1 1 5 2 [⟨8, 300, 600, 1, 0xF4, 2⟩]) { State.reset with store := toneStore 0 }
    sent t = [(0xC8, 1, [0, 1, 1, 0xF4])] ∧ (t.player 0).state = .cued ∧ (t.player 0).nextOffset = 300 ∧
      (t.store.clips[7]).references = 1 := by decide +kernel

/-- R160: a block of 2048 does not lie within 1024 samples. -/
theorem test_cue_refused :
    sent (after (.cue 1 1 5 2 [⟨8, 300, 600, 4, 0xF4, 2⟩]) { State.reset with store := toneStore 0 }) =
      [(0xC8, 1, [4, 0])] := by decide +kernel

/-- R162: GO makes the ramp jump to 0 and rise in 4 frames. -/
theorem test_go :
    let t := after (.go 1 1) (withPlayer .cued 0 300 0)
    sent t = [(0xC9, 1, [0, 0])] ∧ (t.player 0).state = .playing ∧ (t.ramps.player[0]).pendingJump = some 0 ∧
      (t.ramps.player[0]).pendingTarget = some (32768, 4) := by decide +kernel

/-- R163: PAUSE answers the segment and the played count. -/
theorem test_pause :
    sent (after (.pause 1 1) (withPlayer .playing 216 260 32768)) = [(0xCA, 1, [0, 0, 0, 0, 216])] := by decide +kernel

/-- R164, R168: RESUME of a PLAYING player, ABORT of a CUED one. -/
theorem test_resume_abort :
    sent (after (.resume 1 1) (withPlayer .playing 0 300 0)) = [(0xCB, 1, [5])] ∧
      sent (after (.abort 1 1) (withPlayer .cued 0 300 0)) = [(0xCC, 1, [0]), (0xE8, 0, [0, 1, 1, 0, 0, 0, 0])] := by
  decide +kernel

/-- R167, R172: an ABORTING player whose ramp arrives at 0 is done. -/
theorem test_playerRampArrival :
    let t := after (.playerRampArrival 0) (withPlayer .aborting 8 308 0)
    (t.player 0) = PlayerRecord.reset ∧ sent t = [(0xE8, 0, [0, 1, 1, 0, 0, 0, 8])] ∧
      (t.store.clips[7]).references = 0 := by decide +kernel

/-- R166, R173: the six-hundredth sample, at offset 387, ends the cue list. -/
theorem test_segmentEnd :
    let t := after (.segmentEnd 0 15) (withPlayer .playing 599 387 32768)
    sent t = [(0xE7, 0, [0, 1, 0, 2]), (0xE8, 0, [0, 1, 0, 0, 0, 2, 88])] ∧ (t.player 0).state = .idle := by
  decide +kernel

/-! ### The hypotheses of the statements are met -/

/-- A store whose clips hold the first `n` pages, the others being free, has its pages in order. -/
theorem pagesSound_of_take (n : Nat) (s : State) (hfree : s.store.free = (List.finRange 512).drop n)
    (hheld : s.store.heldPages = (List.finRange 512).take n) (hclips : ∀ c : ClipId, (s.store.clips[c]).Sound)
    (hload : ∀ c : ClipId, (s.store.clips[c]).state = .loading ↔ s.store.loading = some c) : PagesSound s := by
  have hperm : (s.store.free ++ s.store.heldPages).Perm (List.finRange 512) := by
    rw [hfree, hheld]
    exact List.perm_append_comm.trans (by rw [List.take_append_drop])
  refine ⟨?_, hperm.nodup_iff.mpr (List.nodup_finRange 512), by simpa using hperm.length_eq, hclips, hload⟩
  rw [hfree]
  exact (List.pairwise_lt_finRange 512).sublist (List.drop_sublist n _)

/-- The pages of clip 2 while its 2 samples are loaded. -/
theorem pagesSound_loading (n : Fin 3) : PagesSound { State.reset with store := loadingStore n } :=
  pagesSound_of_take 1 _ (by simp only [loadingStore]) (by revert n; decide +kernel) (by revert n; decide +kernel) (by revert n; decide +kernel)

/-- The pages of clip 8. -/
theorem pagesSound_tone : PagesSound { State.reset with store := toneStore 0 } :=
  pagesSound_of_take 4 _ (by simp only [toneStore]) (by decide +kernel) (by decide +kernel) (by decide +kernel)

/-- The reset state in another phase. -/
def inPhase (p : Phase) : State := { State.reset with session := { State.reset.session with phase := p } }

/-- The reset state with an outbound queue. -/
def withQueue (l : List Message) : State := { State.reset with control := { State.reset.control with queue := l } }

/-- The reset state with a receiver in a state, with a body and a sum. -/
def receiving (state : ReceiverState) (body : List Byte) (sum : Byte) : State :=
  { State.reset with control := { State.reset.control with
      receiver := { state := state, length := 2, body := body, sum := sum, gapTimer := true } } }

/-- Some answer. -/
def someAnswer : Message := { isReport := false, type := 0x85, tag := 0, payload := [0] }

/-- The answer to RESET. -/
def resetAnswer : Message := { isReport := false, type := 0x81, tag := 7, payload := [0] }

theorem witness_StepTakesTheFrontCommand : State.reset.pending = [] := rfl

theorem witness_CommandsInResetDoNothing :
    (inPhase .inSoftReset).session.phase = .inSoftReset ∧ (inPhase .inHardReset).session.phase = .inHardReset ∧
      (∀ held : Bool, Instr.intervalEnd ≠ .powerOn held) ∧ Instr.intervalEnd ≠ .resetPin ∧
      Instr.intervalEnd ≠ .resetEnd ∧ State.reset.outOfReset := by decide +kernel

theorem witness_ResetRequestAwaitsItsAnswer :
    State.reset.takes ∧ (inPhase .awaitingSoft).session.phase = .awaitingSoft ∧
      (encodeRequest (.start 1)).isSome = true := by decide +kernel

/-- A RESET awaited with clip 8 READY. -/
theorem witness_SoftResetKeepsCompleteClips :
    let s : State := { withQueue [resetAnswer] with
      store := toneStore 0, session := { State.reset.session with phase := .awaitingSoft } }
    PagesSound s ∧ s.session.phase = .awaitingSoft ∧ s.control.queue = [resetAnswer] ∧
      (s.store.clips[7]).state = .ready :=
  ⟨pagesSound_tone, by decide +kernel⟩

theorem witness_MessagesAreQueuedAndSent :
    (State.reset.control.mask.getLsbD Category.gate.bit = false ∧
      State.reset.control.mask.getLsbD Category.link.bit = true ∧
      reportCount (withQueue (List.replicate 31 powerOnReport)).control.queue < 32 ∧
      32 ≤ reportCount (withQueue (List.replicate 32 powerOnReport)).control.queue) ∧
      ((∀ held : Bool, Instr.start 1 ≠ .powerOn held) ∧ Instr.start 1 ≠ .resetPin ∧ Instr.start 1 ≠ .softReset ∧
        Instr.start 1 ≠ .messageSent) ∧
      (State.reset.outOfReset ∧ State.reset.control.queue = [powerOnReport] ∧ State.reset.session.phase = .running) ∧
      ((withQueue []).outOfReset ∧ (withQueue []).control.queue = []) ∧ powerOnReport.payload.length ≤ 240 := by
  decide +kernel

/-- Lengths at the ends of 2..242 and just outside; GET_ROSTER, an unknown type, and a GET_ROSTER and a CLIP_DATA with a
payload that does not fit. -/
theorem witness_ReceiverHandlesEachByte :
    State.reset.session.phase = .running ∧ State.reset.control.receiver.state = .hunt ∧
      (receiving .length [] 0).control.receiver.state = .length ∧
      (2 ≤ (2 : Byte).toNat ∧ (2 : Byte).toNat ≤ 242) ∧ (2 ≤ (242 : Byte).toNat ∧ (242 : Byte).toNat ≤ 242) ∧
      ((1 : Byte).toNat < 2 ∧ 242 < (243 : Byte).toNat) ∧
      (receiving .body [5] 7).control.receiver.state = .body ∧
      ((receiving .check [5, 7] 0x0E).control.receiver.state = .check ∧
        (receiving .check [5, 7] 0x0E).control.receiver.sum + (0xF1 : Byte) ≠ 0 ∧
        (receiving .check [5, 7] 0x0E).control.receiver.sum + (0xF2 : Byte) = 0) ∧
      decodeRequest 5 7 [] = .request (.getRoster 7) ∧ decodeRequest 0 7 [] = .unknownType ∧
      decodeRequest 5 7 [1] = .badLength ∧ decodeRequest 0x41 7 [1, 0] = .badLength ∧
      answerCount State.reset.control.queue < 8 ∧
      8 ≤ answerCount (withQueue (List.replicate 8 someAnswer)).control.queue := by decide +kernel

theorem witness_DiscardedFramesAreReported :
    State.reset.session.phase = .running ∧
      (sumBytes (u8 2 :: [5, 7] ++ [0xF1]) ≠ 0 ∧ 2 ≤ [(5 : Byte), 7].length) ∧
      (sumBytes (u8 242 :: List.replicate 242 0 ++ [0]) ≠ 0 ∧ (List.replicate 242 (0 : Byte)).length ≤ 242) ∧
      State.reset.control.receiver.state = .hunt ∧ (receiving .length [] 0).control.receiver.state = .length ∧
      (receiving .body [5] 7).control.receiver.state = .body ∧
      (receiving .check [5, 7] 0x0E).control.receiver.state = .check := by decide +kernel

theorem witness_UnknownTypesOverrunAndReportMasks :
    (let s := withQueue (List.replicate 8 someAnswer)
     s.session.phase = .running ∧ 8 ≤ answerCount s.control.queue ∧
       encodeRequest (.getRoster 7) = some { type := 5, tag := 7, payload := [] } ∧ (0 : Byte) ∉ requestTypes) ∧
      State.reset.takes ∧ (0x7F : Byte) ∉ requestTypes ∧ (0x80 : Byte) ∉ requestTypes ∧ (127 : Byte).toNat < 128 ∧
      128 ≤ (128 : Byte).toNat := by decide +kernel

/-- GET_ROSTER, and a CUE of 23 segments, the most that fit. -/
theorem witness_RequestRoundTrip :
    ((Instr.getRoster 7).wellFormed = true ∧ encodeRequest (.getRoster 7) = some { type := 5, tag := 7, payload := [] }) ∧
      (Instr.cue 0 1 0 0 (List.replicate 23 ⟨1, 0, 1, 0, 0, 2⟩)).wellFormed = true ∧
      (encodeRequest (.cue 0 1 0 0 (List.replicate 23 ⟨1, 0, 1, 0, 0, 2⟩))).isSome = true := by decide +kernel

theorem witness_BytePathTakesTheRequest :
    State.reset.session.phase = .running ∧ State.reset.control.receiver.state = .hunt ∧
      (Instr.setPrivacy 0x17 1).wellFormed = true ∧
      encodeRequest (.setPrivacy 0x17 1) = some { type := 0x22, tag := 0x17, payload := [1] } := by decide +kernel

/-- R202: sequence 3, TALK pressed, the first sample 0x0100; and the feed frame of the first boundary after a lock. -/
theorem witness_LinkFrameLayouts :
    decodeMicFrame ([0x3C, 0xA9, 0x31, 0x01] ++ List.replicate 31 0 ++ [0xCE]) =
      some { sequence := 3, talk := true, all := false, samples := vec [0x0100] 0 } ∧
      (let c : List Byte := [0x3C, 0xA9, 0x31, 0x01] ++ List.replicate 31 0 ++ [0xCE]
       c.length = 36 ∧ c.take 2 = [0x3C, 0xA9] ∧ sumBytes (c.drop 2) = 0) ∧
      ((after (.mixPeriodBoundary [] (vec [] silentFrame)) (withLink { Link.reset with state := .locked })).feedFrames[0]).isSome =
        true := by decide +kernel

/-- The values of Chapter 1's case in force. -/
def inPrivacyCase : State := { State.reset with inForce := some privacyCase, inputs := privacyInputs }

theorem witness_BoundaryHandsOutThePeriod :
    (State.reset.outOfReset ∧ State.reset.inForce = none) ∧
      inPrivacyCase.outOfReset ∧ inPrivacyCase.inForce = some privacyCase := by decide +kernel

theorem witness_OutputsAreTheMixOfTheRules :
    ((-120 : Int) ≤ 48 ∧ (48 : Int) ≤ 48 ∧ (-120 : Int) ≤ 0) ∧
      privacyCase.roster.pods[0] = true ∧ privacyCase.roster.pods[23] = false ∧ privacyCase.roster.trunks[0] = true ∧
      privacyCase.roster.trunks[3] = false := by decide +kernel

/-- The case of the worked table, at ramps within 0..32768, with pod 1 and T1 in the roster. -/
theorem witness_BusSumsStayInTheirBounds :
    privacyCase.feeds.Bounded ∧ (∀ (n : Player) (j : Fin 16), ((privacyInputs.players[n])[j]).gain ≤ 0) ∧
      (∀ p : Pod, (privacyRamps.gate[p]).value ≤ 32768 ∧ (privacyRamps.localMute[p]).value ≤ 32768 ∧
        (privacyRamps.privacy[p]).value ≤ 32768) ∧
      (∀ k : Trunk, (privacyRamps.trunkMute[k]).value ≤ 32768) ∧
      (∀ n : Player, (privacyRamps.player[n]).value ≤ 32768) ∧ privacyCase.roster.pods[0] = true ∧
      privacyCase.roster.trunks[0] = true := by decide +kernel

/-- Feed 1 with other samples of pod 1 and of its zone mate pod 2, and send T1 with others of T1. -/
theorem witness_NoOutputHearsItsOwnInput :
    (inPrivacyCase.outOfReset ∧ inPrivacyCase.inForce = some privacyCase) ∧
      (∀ p : Pod, excluded privacyCase.roster privacyCase.feeds.zone 0 p = false →
        (vec [] silentFrame : Vector Frame 24)[p] = inPrivacyCase.inputs.pods[p]) ∧
      (vec [] silentFrame : Vector Frame 24) ≠ inPrivacyCase.inputs.pods ∧
      (∀ l : Trunk, l ≠ 0 → (vec [] silentFrame : Vector Frame 4)[l] = inPrivacyCase.inputs.trunks[l]) := by
  decide +kernel

theorem witness_PrivacyKeepsPodsFromTheFarEnd :
    let s := { inPrivacyCase with ramps := { privacyRamps with privacy := vec [] (atRest 0) } }
    s.outOfReset ∧ ∀ p : Pod, (s.ramps.privacy[p]).value = 0 ∧ (s.ramps.privacy[p]).target = 0 := by decide +kernel

/-- A frame of a sequence. -/
def frameOf (q : BitVec 4) : MicFrame := { MicFrame.blank with sequence := q }

/-- A link of each kind of take: a frame, an empty FIFO one short of the unlock count and at it, an empty one while
settling, and no take. -/
theorem witness_BoundaryOpensThePeriod :
    State.reset.outOfReset ∧
      ((LinkState.settling).takes = true ∧
        ((withLink { Link.reset with state := .settling, fifo := [frameOf 1] }).links[0]).fifo = [frameOf 1]) ∧
      (let s := withLink { Link.reset with state := .coasting, coastRun := 48 }
       (s.links[0]).state.trusted = true ∧ (s.links[0]).fifo = [] ∧ (s.links[0]).coastRun + 1 < s.linkParams.unlockCount) ∧
      (let s := withLink { Link.reset with state := .coasting, coastRun := 49 }
       (s.links[0]).state.trusted = true ∧ s.linkParams.unlockCount ≤ (s.links[0]).coastRun + 1) ∧
      ((withLink { Link.reset with state := .settling }).links[0]).state = .settling ∧ (LinkState.absent).takes = false := by
  decide +kernel

/-- Links at the end of each run, and one short of it; LINK is a category that is on. -/
theorem witness_LinksIndicatorsAndDucksAtABoundary :
    let s (l : Link) : State := withLink l
    let n := State.reset.linkParams.unlockCount
    State.reset.outOfReset ∧ State.reset.control.mask.getLsbD 0 = true ∧ (State.reset.links[0]).state = .off ∧
      ((s { Link.reset with state := .absent }).links[0]).state = .absent ∧
      (((s { Link.reset with state := .acquiring, silenceRun := 48 }).links[0]).silenceRun + 1 < n ∧
        n ≤ ((s { Link.reset with state := .acquiring, silenceRun := 49 }).links[0]).silenceRun + 1) ∧
      (let l := (s { Link.reset with state := .settling }).links[0]
       l.state = .settling ∧ l.fifo = []) ∧
      (let l := (s { Link.reset with state := .settling, settleCounter := 198, fifo := [frameOf 1] }).links[0]
       l.fifo = [frameOf 1] ∧ l.settleCounter + 1 < State.reset.linkParams.settleFrames) ∧
      State.reset.linkParams.settleFrames ≤ 199 + 1 ∧
      (let l := (s { Link.reset with state := .locked, fifo := [frameOf 1], firstTake := true }).links[0]
       l.state = .locked ∧ l.fifo = [frameOf 1] ∧ l.state.takes = true ∧ l.firstTake = true) ∧
      (let l := (s { Link.reset with state := .coasting, coastRun := 48 }).links[0]
       l.state.trusted = true ∧ l.fifo = [] ∧ l.coastRun + 1 < n) ∧
      n ≤ ((s { Link.reset with state := .coasting, coastRun := 49 }).links[0]).coastRun + 1 := by decide +kernel

/-- A noise floor that falls with S, one that waits and one that rises, at the boundary's silence. -/
theorem witness_BoundaryOpensThePeriod_floor :
    let s (n : Nat) := { State.reset with
      detectors := vec [{ Detector.reset with noiseFloor := -120, riseCounter := n }] Detector.reset }
    let e (n : Nat) (c : Channel) := (after (.mixPeriodBoundary [] (vec [] silentFrame)) (s n)).detectors[c]
    ((e 62 1).smoothed < ((s 62).detectors[1]).noiseFloor) ∧
      (((s 62).detectors[0]).noiseFloor ≤ (e 62 0).smoothed ∧ ((s 62).detectors[0]).riseCounter + 1 < 64) ∧
      (((s 63).detectors[0]).noiseFloor ≤ (e 63 0).smoothed ∧ 64 ≤ ((s 63).detectors[0]).riseCounter + 1) := by
  decide +kernel

theorem witness_RampsReachTheirTargetsInTheirLength :
    (atRest 0).lastSetting = .target 0 8 ∧ (atRest 0).lastSetting ≠ .target 0 9 ∧
      ((atRest 0).pendingTarget = none ∧ (atRest 0).pendingJump = none) ∧
      (((atRest 0).jump 5).pendingJump = some 5 ∧ ((atRest 0).jump 5).pendingTarget = none) ∧
      (((atRest 0).setTarget 32768 1).pendingTarget = some (32768, 1) ∧ ((atRest 0).setTarget 32768 1).Bounded) ∧
      (let moving := { atRest 5 with step := some 2048 }
       moving.step = some 2048 ∧ { moving with target := 6 }.value < 6 ∧ 4 < { moving with target := 4 }.value ∧
         moving.value = moving.target) ∧
      { atRest 5 with arrivalPending := true }.arrives = true := by decide +kernel

/-- One candidate for each clause, at the ends of the window of 2: ahead by 2, late by 2, and 3 ahead. -/
theorem witness_CandidatesOnAPodLink :
    State.reset.outOfReset ∧ (State.reset.links[0]).state = .off ∧
      (((withLink { Link.reset with state := .absent }).links[0]).state = .absent ∧ decodeMicFrame [] = none ∧
        2 ≤ State.reset.linkParams.lockCount) ∧
      decodeMicFrame (encodeMicFrame (frameOf 9)) = some (frameOf 9) ∧
      (let l := (withLink { Link.reset with state := .acquiring, goodCount := 14, expected := 9 }).links[0]
       l.state = .acquiring ∧ l.goodCount + 1 < State.reset.linkParams.lockCount) ∧
      (let l := (withLink { Link.reset with state := .locked, expected := 9, restartRun := 2, lastRestart := 11 }).links[0]
       l.state.takes = true ∧
         ((11 : BitVec 4) - l.expected).toNat ≤ State.reset.linkParams.window ∧
         (State.reset.linkParams.window < ((7 : BitVec 4) - l.expected).toNat ∧
           (l.expected - (7 : BitVec 4)).toNat ≤ State.reset.linkParams.window) ∧
         (State.reset.linkParams.window < ((12 : BitVec 4) - l.expected).toNat ∧
           State.reset.linkParams.window < (l.expected - (12 : BitVec 4)).toNat ∧
           (12 : BitVec 4) = l.lastRestart + 1 ∧ l.restartRun + 1 < 4)) := by decide +kernel

theorem witness_LockAndSettle :
    State.reset.outOfReset ∧
      (let l := (withLink { Link.reset with state := .acquiring, goodCount := 15, expected := 9 }).links[0]
       l.state = .acquiring ∧ (frameOf 9).sequence = l.expected ∧ State.reset.linkParams.lockCount ≤ l.goodCount + 1) ∧
      1 ≤ State.reset.linkParams.settleFrames ∧
      { State.reset with linkParams := { LinkParams.reset with settleFrames := 0 } }.linkParams.settleFrames = 0 ∧
      decodeMicFrame (encodeMicFrame (frameOf 9)) = some (frameOf 9) ∧
      (((withLink { Link.reset with state := .absent }).links[0]).state = .absent ∧
        { State.reset with linkParams := { LinkParams.reset with lockCount := 1 } }.linkParams.lockCount ≤ 1) ∧
      (let l := (withLink { Link.reset with
          state := .settling, fifo := [frameOf 1], settleCounter := 199, firstTake := true }).links[0]
       l.state = .settling ∧ l.fifo = [frameOf 1] ∧ State.reset.linkParams.settleFrames ≤ l.settleCounter + 1 ∧
         l.firstTake = true) := by decide +kernel

/-- Pod 1 in the roster with a link as given, its reasons as the link asks for. -/
def onLink (l : Link) : State :=
  { withGate .closed 0 (-96) with
    links := vec [l] Link.reset
    mutes := { Mutes.reset with
      reasons := vec [{ key := false, host := false, chair := false, fault := !l.state.trusted }]
        { key := false, host := false, chair := false, fault := true } } }

/-- The take that ends settling, as the first of its lock and as a later one at which no key has moved. -/
theorem witness_LockAndSettle_take :
    let l := { Link.reset with state := .settling, fifo := [frameOf 1], settleCounter := 199 }
    (∀ first ∈ [true, false], GatesSound (onLink { l with firstTake := first }) ∧
      FaultSound (onLink { l with firstTake := first })) ∧
      (frameOf 1).talk = ((onLink l).mutes.talkKey[0]).pressed ∧
      (frameOf 1).all = ((onLink l).mutes.allKey[0]).pressed := by decide +kernel

theorem witness_RestartDropsTheLock :
    let l := { Link.reset with state := .locked, expected := 9, restartRun := 3, lastRestart := 11 }
    (onLink l).outOfReset ∧ (GatesSound (onLink l) ∧ FaultSound (onLink l)) ∧
      FaultSound (onLink { l with state := .settling }) ∧ GatesSound (onLink { l with state := .settling }) ∧
      l.state.takes = true ∧ (LinkState.settling).takes = true ∧
      (onLink l).linkParams.window < ((frameOf 12).sequence - l.expected).toNat ∧
      (onLink l).linkParams.window < (l.expected - (frameOf 12).sequence).toNat ∧ 3 ≤ l.restartRun ∧
      (frameOf 12).sequence = l.lastRestart + 1 ∧ ¬ (onLink l).linkParams.lockCount ≤ 1 ∧
      (let s := { onLink l with linkParams := { LinkParams.reset with lockCount := 1, settleFrames := 0 } }
       s.linkParams.lockCount ≤ 1 ∧ s.linkParams.settleFrames = 0) ∧
      decodeMicFrame (encodeMicFrame (frameOf 12)) = some (frameOf 12) := by decide +kernel

theorem witness_SilenceAndUnlock :
    (withLink { Link.reset with state := .acquiring, silenceRun := 49 }).outOfReset ∧
      State.reset.linkParams.unlockCount ≤ 49 + 1 ∧
      (let s := onLink { Link.reset with state := .coasting, coastRun := 49 }
       (s.links[0]).state = .coasting ∧ (s.links[0]).fifo = [] ∧
         s.linkParams.unlockCount ≤ (s.links[0]).coastRun + 1 ∧ GatesSound s) := by decide +kernel

/-- Pods 1 to 4 LOCKED with one frame each, their gates in the states and with the priorities given, pod 1 above every
threshold and the others at their floor, under a limit. -/
def withGates (gates : List (GateState × Nat)) (waiting collected : List Pod) (limit : Nat) : State :=
  { State.reset with
    links := vec (List.replicate 4 { Link.reset with state := .locked, fifo := [frameOf 0] }) Link.reset
    detectors := vec [{ Detector.reset with smoothed := -40, noiseFloor := -96 }]
      { Detector.reset with smoothed := -96, noiseFloor := -96 }
    mutes := { Mutes.reset with
      reasons := vec (List.replicate 4 { key := false, host := false, chair := false, fault := false })
        { key := false, host := false, chair := false, fault := true } }
    automixer := { Automixer.reset with
      limit := limit, waitQueue := waiting, collected := collected
      gates := vec (gates.map fun g => { mode := .auto, priority := g.2, state := g.1, count := 0 })
        { mode := .auto, priority := 0, state := .closed, count := 0 } } }

/-- A pod that asks for a slot, one that holds one, and two that wait, the second of them with the higher priority. -/
def mixedGates (limit : Nat) : State :=
  withGates [(.pending, 1), (.opened, 0), (.waiting, 0), (.waiting, 2)] [2, 3] [0] limit

/-- A quiet boundary, and the slots that a limit of 4 and one of 2 leave to the wait queue. -/
theorem witness_AutomixerWorkAtABoundary :
    (mixedGates 4).outOfReset ∧ (mixedGates 4).quiet ∧ GatesSound (mixedGates 4) ∧
      (mixedGates 4).step3.2 = [3, 2] ∧ (mixedGates 2).step3.2 = [3] := by decide +kernel

/-- A gate in every state, above the threshold and below, at the hold frames and short of them. -/
theorem witness_AutomixerWorkAtABoundary_judgement :
    (∀ g ∈ [GateState.closed, .pending, .waiting, .opened, .hold], ∀ n ∈ [0, 198, 199], ∀ level ∈ [-40, -96],
      GatesSound (withGate g n level) ∧ ((withGate g n level).gate 0).state = g) ∧
      (let d := (withGate .closed 0 (-40)).detectors[podChannel 0]
       d.noiseFloor + 20 ≤ d.smoothed ∧ -90 ≤ d.smoothed) ∧
      ¬ (-96 : Int) + 20 ≤ -96 ∧ (198 : Nat) + 1 < 200 ∧ 200 ≤ (199 : Nat) + 1 := by decide +kernel

/-- A limit that evicts one of two holders. -/
theorem witness_AutomixerWorkAtABoundary_limit :
    let s := withGates [(.opened, 1), (.hold, 0)] [] [] 2
    GatesSound { s with automixer := { s.automixer with pendingLimit := some 1 } } ∧ s.holders = [0, 1] := by
  decide +kernel

/-- A request under the limit, and at a limit of 1 one that waits and one of a higher priority, that preempts. -/
theorem witness_AutomixerWorkAtABoundary_request :
    let s (priority limit : Nat) := withGates [(.pending, priority), (.opened, 1)] [] [] limit
    (∀ x ∈ [(1, 1), (2, 1), (1, 2)], GatesSound (s x.1 x.2)) ∧
      (((s 1 1).gate 0).state = .pending ∧ 0 ∉ (s 1 1).automixer.collected ∧ (s 1 1).holders = [1] ∧
        1 ∉ (s 1 1).automixer.collected) ∧
      ((s 1 1).automixer.limit ≤ (s 1 1).holders.length ∧ (s 1 2).holders.length < (s 1 2).automixer.limit) ∧
      ((s 1 1).gate 0).priority ≤ ((s 1 1).gate 1).priority ∧ ((s 2 1).gate 1).priority < ((s 2 1).gate 0).priority := by
  decide +kernel

/-- A talk press of a pod that carries CHAIR and an ALL press of a chair pod, each past the guard. -/
theorem witness_KeyEdgesAtABoundary :
    let s := onLink { Link.reset with state := .locked, fifo := [{ MicFrame.blank with talk := true, all := true }] }
    let roster := { s.session.roster with chairs := vec [true] false }
    let t := { s with session := { s.session with roster := roster } }
    (t.outOfReset ∧ (∀ p : Pod, t.steadyAt p) ∧ GatesSound t) ∧ t.handedKeys 0 = some (true, true) ∧
      ((t.mutes.talkKey[0]).pressed = false ∧ t.mutes.keyGuard ≤ min 100 ((t.mutes.talkKey[0]).guardAge + 1)) ∧
      t.control.mask.getLsbD 1 = true := by decide +kernel

/-- A TALK press that mutes a pod whose gate is in BYPASS, CLOSED or OPEN. -/
theorem witness_KeyEdgesAtABoundary_mutes :
    ∀ gate ∈ [GateState.bypass, .closed, .opened],
      let s := { withGate gate 0 (-96) with
        links := vec [{ Link.reset with state := .locked, fifo := [{ MicFrame.blank with talk := true }] }] Link.reset }
      let t := after (.mixPeriodBoundary [] (vec [] silentFrame)) s
      (s.outOfReset ∧ (∀ p : Pod, s.steadyAt p) ∧ GatesSound s) ∧ (s.gate 0).state = gate ∧ s.automixer.pendingParams = none ∧
        (s.mutes.reasons[0]).muted = false ∧ (t.mutes.reasons[0]).muted = true ∧ t.control.lost = false ∧
        ((s.ramps.gate[0]).passed s.inForce.isSome).lastSetting ≠
          .target (lin15 s.automixer.params.offAttenuation) s.automixer.params.release := by decide +kernel

theorem witness_LinkParametersAndStatus :
    State.reset.takes ∧ (0 : Byte).toNat = 0 ∧ 24 < (25 : Byte).toNat ∧ 1 < (2 : Byte).toNat := by decide +kernel

/-- Full scale reaches step 0, and a 16th of the energy stays above step -120. -/
theorem witness_FrameLevelIsTheGreatestStepReached :
    (0 ≤ 120 ∧ 2 ^ 680 ≤ (2 ^ 34) ^ 20 * 10 ^ 0) ∧ -120 < levelOf (2 ^ 30) := by decide +kernel

theorem witness_LevelsRiseAndAreRead :
    (let s := { State.reset with
      detectors := vec [{ Detector.reset with smoothed := -97, noiseFloor := -97, riseCounter := 63 }] Detector.reset }
     s.outOfReset ∧ (s.detectors[0]).noiseFloor ≤ (s.detectors[0]).smoothed ∧ 63 ≤ (s.detectors[0]).riseCounter) ∧
      State.reset.takes ∧ (0 : Byte).toNat = 0 ∧ 30 < (31 : Byte).toNat ∧ 1 ≤ (1 : Byte).toNat ∧
      (30 : Byte).toNat ≤ 30 := by decide +kernel

/-- Thresholds met exactly at -76 over a floor of -96, and missed by one step at -77. -/
theorem witness_GateEventsOfAJudgement :
    let above (s : State) : Prop :=
      (s.detectors[podChannel 0]).noiseFloor + s.automixer.params.margin ≤ (s.detectors[podChannel 0]).smoothed ∧
        s.automixer.params.gateFloor ≤ (s.detectors[podChannel 0]).smoothed
    let once (s : State) : State :=
      { s with automixer := { s.automixer with params := { s.automixer.params with openCount := 1, lastMicHold := false } } }
    (let s := withGate .pending 2 (-76)
     s.outOfReset ∧ (s.gate 0).mode = .auto ∧ (s.gate 0).state = .pending ∧ above s ∧
       s.automixer.params.openCount ≤ (s.gate 0).count + 1 ∧ 0 ∉ s.automixer.collected) ∧
    (let s := once (withGate .closed 0 (-76))
     (s.gate 0).state = .closed ∧ above s ∧ (s.mutes.reasons[0]).muted = false ∧ s.automixer.params.openCount ≤ 1) ∧
    (let s := withGate .hold 199 (-77)
     (s.gate 0).state = .hold ∧ ¬ above s ∧ s.automixer.params.holdFrames ≤ (s.gate 0).count + 1 ∧ s.holders = [0] ∧
       s.automixer.params.lastMicHold = true ∧ s.automixer.waitQueue = [] ∧
       (once s).automixer.params.lastMicHold = false) ∧
    (let s := withGate .waiting 199 (-77)
     (s.gate 0).state = .waiting ∧ ¬ above s ∧ s.automixer.params.holdFrames ≤ (s.gate 0).count + 1) := by
  decide +kernel

/-- Pod 1 in BYPASS mode, its gate CLOSED or in BYPASS. -/
def inBypass (state : GateState) : State :=
  let s := withGate state 0 (-96)
  { s with automixer := { s.automixer with
      gates := vec [{ mode := .bypass, priority := 0, state := state, count := 0 }]
        { mode := .auto, priority := 0, state := .closed, count := 0 } } }

theorem witness_AutomixerSettings :
    State.reset.takes ∧ 1 < (2 : Byte).toNat ∧ (0 : Byte).toNat = 0 ∧ 24 < (25 : Byte).toNat ∧ 3 < (4 : Byte).toNat ∧ (3 : Byte).toNat ≤ 3 ∧
      (let s := withGate .opened 0 (-96)
       s.takes ∧ (s.gate 0).mode = .auto ∧ s.session.roster.pods[0] = true ∧ (s.gate 0).state ≠ .bypass) ∧
      ((State.reset.gate 0).mode = .auto ∧ State.reset.session.roster.pods[0] = false ∧
        (State.reset.gate 0).state = .closed) ∧
      (((inBypass .closed).gate 0).mode = .bypass ∧ ((inBypass .closed).gate 0).state = .closed) ∧
      ((inBypass .bypass).takes ∧ ((inBypass .bypass).gate 0).mode = .bypass ∧
        ((inBypass .bypass).gate 0).state = .bypass) := by decide +kernel

/-- Reasons that stay empty, that become empty and that become one, with the gate CLOSED and OPEN; sets of reasons that
can and cannot be cleared. -/
theorem witness_SetMuteAndClearReasons :
    let free : Reasons := { key := false, host := false, chair := false, fault := false }
    let muted : Reasons := { free with host := true }
    State.reset.takes ∧ (0 : Byte).toNat = 0 ∧ 28 < (29 : Byte).toNat ∧ 1 < (2 : Byte).toNat ∧
      (let s := withGate .closed 0 (-96)
       (s.mutes.reasons[0]).muted = free.muted ∧ muted.muted = true ∧ (s.gate 0).state = .closed) ∧
      ((State.reset.mutes.reasons[0]).muted = true ∧ free.muted = false) ∧
      (let s := withGate .opened 0 (-40)
       (s.mutes.reasons[0]).muted = false ∧ muted.muted = true ∧ (s.gate 0).state ≠ .closed ∧
         (s.gate 0).state ≠ .bypass) ∧
      (24 < (25 : Byte).toNat ∧ (2 : Byte) ≠ 1 ∧ (2 : Byte) ≠ 4 ∧ (2 : Byte) ≠ 5) ∧
      { State.reset with mutes := { Mutes.reset with keyMode := vec [.pushToTalk] .toggle } }.mutes.keyMode[0] ≠
        .toggle ∧
      State.reset.mutes.keyMode[0] = .toggle := by decide +kernel

/-- The chair all-mute set on one pod, cleared from that pod, and set when it is. -/
theorem witness_PrivacyAndChairMute :
    let s := withGate .opened 0 (-40)
    let t := after (.setChairMute 1 1) s
    s.takes ∧ 1 < (2 : Byte).toNat ∧ s.mutes.chairMute = false ∧ s.mutes.chairMute ≠ true ∧
      (t.takes ∧ t.mutes.chairMute = true ∧ t.mutes.chairMute ≠ false) ∧
      ((t.mutes.reasons[0]).muted = true ∧ (s.mutes.reasons[0]).muted = false) ∧
      (t.mutes.reasons[1]).muted = (s.mutes.reasons[1]).muted ∧
      ((after (.setChairMute 1 0) t).mutes.reasons[0]).muted = false := by decide +kernel

theorem witness_KeySettings :
    State.reset.takes ∧ (0 : Byte).toNat = 0 ∧ 24 < (25 : Byte).toNat ∧ 2 < (3 : Byte).toNat ∧
      State.reset.mutes.keyMode[0] = .toggle ∧ State.reset.mutes.keyMode[0] ≠ .pushToMute := by decide +kernel

/-- A boundary inside an interval and one at its end, with the controller on and off; and at an interval's end with the ALC reports off: too few frames, an agreement, a jump, a run below the post count, a
step that the toggle filter stops and one that it lets. -/
theorem witness_FramesAreCountedAndIntervalsEnd :
    let s := withAlc AlcRecord.reset
    let q := s.alc.params
    let mean (n : Nat) (sum : Int) : Int := sum / n
    (s.outOfReset ∧ q.enable = true ∧ q.interval ≤ s.alc.position + 1 ∧ s.control.mask.getLsbD 3 = false) ∧
      (State.reset.alc.params.enable = true ∧ State.reset.alc.position + 1 < State.reset.alc.params.interval) ∧
      { s.alc.params with enable := false }.enable = false ∧ ¬ q.interval ≤ 2 * 7 ∧ (AlcRecord.reset.held = false ∧ q.interval ≤ 2 * 8) ∧
      q.target - mean 8 (-320) = 0 ∧
      (q.autoJump = true ∧ q.jumpLimit < (q.target - mean 8 (-568)).natAbs) ∧
      (q.target - mean 8 (-560) ≠ 0 ∧ ¬ q.jumpLimit < (q.target - mean 8 (-560)).natAbs) ∧
      (1 + 1 < q.postCount ∧ q.postCount ≤ 2 + 1) ∧
      (q.toggleFilter = true ∧ Sign.up ≠ .down ∧ ([.up, .down] : List Sign) = [.up, .down]) := by decide +kernel

theorem witness_SetAlcAndHoldAlc :
    State.reset.takes ∧ ((1 : Byte) = 1 ∧ (16 : Byte) = 16 ∧ (64 : Byte) = 64) ∧ 1 < (2 : Byte).toNat ∧
      ((2 : Byte) ≠ 1 ∧ (2 : Byte) ≠ 16 ∧ (2 : Byte) ≠ 64) ∧ (0 : Byte).toNat = 0 ∧ 24 < (25 : Byte).toNat := by
  decide +kernel

theorem witness_FeedSettings :
    State.reset.takes ∧ (8 : Byte).toNat ≤ 8 ∧ 8 < (9 : Byte).toNat ∧ (0 : Byte).toNat = 0 ∧ 24 < (25 : Byte).toNat ∧
      28 < (29 : Byte).toNat ∧ (24 : Byte).toNat < 25 ∧ (28 : Byte).toNat < 29 ∧ 30 < (31 : Byte).toNat ∧
      7 < (8 : Byte).toNat := by decide +kernel

/-- A clip in use, another LOADING, the lengths 0, 1, 131072 and 131073, and a store with 511 pages free for 512. -/
theorem witness_ClipBegin :
    let s := { State.reset with store := loadingStore 0 }
    State.reset.takes ∧ (0 : Byte).toNat = 0 ∧ 32 < (33 : Byte).toNat ∧ (s.store.clips[1]).state ≠ .empty ∧
      ((s.store.clips[0]).state = .empty ∧ s.store.loading ≠ none) ∧
      ((State.reset.store.clips[0]).state = .empty ∧ State.reset.store.loading = none) ∧
      (1 ≤ (1 : BitVec 24).toNat ∧ (131072 : BitVec 24).toNat ≤ 131072) ∧
      ¬ 1 ≤ (0 : BitVec 24).toNat ∧ ¬ (131073 : BitVec 24).toNat ≤ 131072 ∧
      { State.reset with store := toneStore 0 }.store.free.length < (131072 + 255) / 256 ∧
      (131072 + 255) / 256 ≤ State.reset.store.free.length := by decide +kernel

/-- A LOADING clip of 2 samples: chunks of 1, 112, 0 and 113 samples, an EMPTY clip, offsets that do and do not match. -/
theorem witness_ClipData_check : (0x0001 : Sample) ≠ 0x8001 := by decide

theorem witness_ClipData :
    let s := { State.reset with store := loadingStore 1 }
    (PagesSound s ∧ s.takes) ∧ MemoryCanonical s ∧ 32 < (33 : Byte).toNat ∧
      ((List.replicate 1 (0 : Sample)).length = 1 ∧ (List.replicate 112 (0 : Sample)).length ≤ 112) ∧
      ¬ (List.replicate 113 (0 : Sample)).length ≤ 112 ∧ (s.store.clips[0]).state ≠ .loading ∧
      (s.store.clips[1]).state = .loading ∧ (0 : BitVec 24).toNat ≠ (s.store.clips[1]).loaded ∧
      (1 : BitVec 24).toNat = (s.store.clips[1]).loaded ∧
      (s.store.clips[1]).loaded + 1 ≤ (s.store.clips[1]).declared ∧ 1 ∉ (s.store.clips[1]).pages ∧
      (s.store.clips[1]).declared < (s.store.clips[1]).loaded + 2 :=
  ⟨⟨pagesSound_loading 1, by decide +kernel⟩, by decide +kernel⟩

theorem witness_ClipEndAndDelete :
    let s (n : Nat) := { State.reset with store := loadingStore n }
    (PagesSound (s 1) ∧ PagesSound (s 2)) ∧ (s 1).takes ∧ ((s 1).store.clips[0]).state ≠ .loading ∧
      (((s 1).store.clips[1]).state = .loading ∧ ((s 1).store.clips[1]).loaded ≠ ((s 1).store.clips[1]).declared) ∧
      ((s 2).store.clips[1]).loaded = ((s 2).store.clips[1]).declared ∧ ((s 1).store.clips[0]).state = .empty ∧
      (((s 1).store.clips[1]).state ≠ .empty ∧ ((s 1).store.clips[1]).references = 0) ∧
      ((toneStore 1).clips[7]).references ≠ 0 :=
  ⟨⟨pagesSound_loading 1, pagesSound_loading 2⟩, by decide +kernel⟩

/-- The seven checks of R160 on a segment, as the statement about CUE names them. -/
def cueFails (s : State) (count : Nat) (check : Fin 7) (i : Nat) (g : SegmentFields) : Bool :=
  let block : Nat :=
    if g.loopBlock = 1 then 256 else if g.loopBlock = 2 then 512 else if g.loopBlock = 3 then 1024 else 2048
  let declared : Nat := ((clipOf g.clip).map fun c => (s.store.clips[c]).declared).getD 0
  match check with
  | 0 => decide (4 < g.loopBlock.toNat ∨ 2 < g.nextAction.toNat)
  | 1 => decide (g.clip.toNat = 0 ∨ 32 < g.clip.toNat)
  | 2 => decide (∀ c : ClipId, clipOf g.clip = some c → (s.store.clips[c]).state ≠ .ready)
  | 3 => decide (g.playLength.toNat = 0 ∨ 131072 < g.playLength.toNat ∨ declared ≤ g.start.toNat)
  | 4 => decide (g.loopBlock = 0 ∧ declared < g.start.toNat + g.playLength.toNat)
  | 5 => decide (g.loopBlock ≠ 0 ∧ declared < block * (g.start.toNat / block) + block)
  | 6 => decide (¬ (g.nextAction = 2 ↔ i + 1 = count))

/-- One segment for each check, the first that it fails, and one that passes all. -/
theorem witness_CueIsCheckedAndTaken :
    let s := { State.reset with store := toneStore 0 }
    let first (check : Fin 7) (g : SegmentFields) : Bool :=
      cueFails s 1 check 0 g && decide (∀ earlier : Fin 7, earlier < check → cueFails s 1 earlier 0 g = false)
    s.takes ∧ (0 : Byte).toNat = 0 ∧ 2 < (3 : Byte).toNat ∧ (s.player 0).state = .idle ∧
      ((withPlayer .cued 0 300 0).player 0).state ≠ .idle ∧ 8 < (List.replicate 9 0).length ∧ 7 < (8 : Byte).toNat ∧
      3 < (4 : Byte).toNat ∧ (7 : Byte).toNat ≤ 7 ∧ (3 : Byte).toNat ≤ 3 ∧
      first 0 ⟨8, 0, 1, 5, 0, 2⟩ = true ∧ first 1 ⟨33, 0, 1, 0, 0, 2⟩ = true ∧ first 2 ⟨1, 0, 1, 0, 0, 2⟩ = true ∧
      first 3 ⟨8, 1024, 1, 0, 0, 2⟩ = true ∧ first 4 ⟨8, 1023, 2, 0, 0, 2⟩ = true ∧
      first 5 ⟨8, 0, 1, 4, 0, 2⟩ = true ∧ first 6 ⟨8, 0, 1, 0, 0, 0⟩ = true ∧
      ∀ check : Fin 7, cueFails s 1 check 0 ⟨8, 1023, 1, 0, 0, 2⟩ = false := by decide +kernel

theorem witness_PlayerCommandsAndArrivals :
    (withPlayer .cued 0 300 0).takes ∧ (0 : Byte).toNat = 0 ∧ 2 < (3 : Byte).toNat ∧
      (((withPlayer .cued 0 300 0).player 0).state = .cued ∧
        (withPlayer .cued 0 300 0).session.mixer = .running) ∧
      ((withPlayer .playing 0 300 0).player 0).state = .playing ∧
      ((withPlayer .paused 0 300 0).player 0).state = .paused ∧
      ((withPlayer .aborting 0 300 0).player 0).state = .aborting ∧ (State.reset.player 0).state = .idle ∧
      State.reset.session.mixer = .stopped ∧
      (let s := withPlayer .aborting 8 308 0
       s.outOfReset ∧ (s.ramps.player[0]).arrives = true ∧ (s.ramps.player[0]).target = 0 ∧
         (s.player 0).state = .aborting ∧ (s.player 0).abortReason = some .aborted) ∧
      ((withPlayer .paused 8 308 0).ramps.player[0]).arrives = true ∧
      ((withPlayer .playing 8 308 0).ramps.player[0]).arrives = true := by decide +kernel

/-- The last sample of the segment, of a page that passed before, of one that failed before, and of one that must be read
and fails its check, for a player that halts on it and one that does not. -/
theorem witness_SegmentEndFollowsTheNextAction :
    let s := withPlayer .playing 599 387 32768
    let unread := { s with players := vec [{ s.player 0 with page := none }] PlayerRecord.reset }
    (s.outOfReset ∧ (s.player 0).advancing = true ∧ (s.player 0).cue[(s.player 0).current]? = some tone ∧
      tone.playLength ≤ (s.player 0).played + 1 ∧ (s.player 0).page = some (387 / 256, true) ∧
      tone.nextAction = .stop) ∧
      ({ s.player 0 with page := some (1, false) }).page = some (387 / 256, false) ∧
      (({ s.player 0 with haltOnError := true }).haltOnError = true ∧ (s.player 0).state = .playing ∧
        (s.player 0).haltOnError ≠ true) ∧
      (unread.player 0).page.map Prod.fst ≠ some (387 / 256) ∧
      ({ unread with store := { unread.store with failed := vec [true, true] false } }).store.passes 7 1 = false ∧
      (unread.store.clips[7]).pages[1]? = some 1 ∧ (unread.store.clips[7]).state = .ready ∧
      ({ toneStore 1 with
        clips := Vec.put (toneStore 1).clips 7 { (toneStore 1).clips[7] with state := .damaged } }.clips[7]).state ≠ .ready ∧
      unread.control.mask.getLsbD 5 = true := by decide +kernel

/-- No player set to stop on speech; a quiet boundary; a grant that stops a player and one that does not; a sample inside
the segment, of a page read before, of one that passes, of one that fails now and of one that failed before. -/
theorem witness_PlayersFillTheirFrames :
    let s := withPlayer .playing 8 308 32768
    let on (page : Option (Nat × Bool)) (speech : Bool) : State :=
      { s with players := vec [{ s.player 0 with page := page, stopOnSpeech := speech }] PlayerRecord.reset }
    let spoilt : ClipStore := { s.store with failed := vec [true, true] false }
    (s.outOfReset ∧ (∀ n : Player, (s.player n).stopOnSpeech = false) ∧ s.quiet) ∧
      (([0] : List Pod) ≠ [] ∧ ((on none true).player 0).stopOnSpeech = true ∧ ((on none true).player 0).state = .playing) ∧
      (s.player 1).advancing = false ∧
      ((s.player 0).advancing = true ∧ (s.player 0).cue[(s.player 0).current]? = some tone) ∧
      (tone.playLength ≤ ((withPlayer .playing 599 387 32768).player 0).played + 1 ∧
        (s.player 0).played + 1 < tone.playLength) ∧
      (s.player 0).page = some ((s.player 0).nextOffset / 256, true) ∧
      ((on none false).player 0).page.map Prod.fst ≠ some (308 / 256) ∧
      ((on (some (1, false)) false).player 0).page = some (308 / 256, false) ∧
      spoilt.passes tone.clip (308 / 256) = false ∧ (spoilt.clips[tone.clip]).pages[308 / 256]? = some 1 := by
  decide +kernel

/-- A page whose stored check is the one that its contents give passes its read. -/
theorem witness_PlayersFillTheirFrames_read :
    ((toneStore 1).formCheck 7 1).passes tone.clip (308 / 256) = true :=
  ClipStore.passes_of_formCheck (page := 1) (by decide +kernel) (by decide +kernel)

theorem witness_MixerStates :
    State.reset.takes ∧ State.reset.session.mixer = .stopped ∧
      (withMixer .starting 32768).takes ∧ (withMixer .starting 32768).session.mixer = .starting ∧
      (withMixer .running 32768).session.mixer = .running ∧ (withMixer .stopping 0).session.mixer = .stopping ∧
      (withMixer .starting 32768).ramps.master.arrives = true ∧
      (withMixer .starting 32768).ramps.master.target = 32768 ∧ (withMixer .stopping 0).ramps.master.arrives = true ∧
      (withMixer .stopping 0).ramps.master.target = 0 ∧ (withMixer .stopped 0).ramps.master.arrives = true := by
  decide +kernel

/-- Pod 1 leaves, pod 2 enters as a chair pod, pod 3 stays and becomes one; then pod 3 ceases to be one. -/
theorem witness_SetRosterHandsItsDifferencesOn :
    let s := after (.setRoster 1 [1, 3] [] [25]) State.reset
    let t := after (.setRoster 1 [2, 3] [2, 3] []) s
    (s.takes ∧ s.session.mixer = .stopped ∧ FaultSound s) ∧
      (∀ b ∈ ([2, 3] : List Byte), 1 ≤ b.toNat ∧ b.toNat ≤ 24) ∧ ([2, 3] : List Byte).Nodup ∧
      (∀ b ∈ ([2, 3] : List Byte), b ∈ ([2, 3] : List Byte)) ∧
      (¬ ∀ b ∈ ([25] : List Byte), 1 ≤ b.toNat ∧ b.toNat ≤ 24) ∧
      (s.session.roster.pods[0] = true ∧ t.session.roster.pods[0] = false) ∧
      (s.session.roster.pods[1] = false ∧ t.session.roster.pods[1] = true ∧ t.session.roster.chairs[1] = true) ∧
      (s.session.roster.pods[2] = true ∧ t.session.roster.pods[2] = true ∧ s.session.roster.chairs[2] = false ∧
        t.session.roster.chairs[2] = true) ∧
      ((after (.setRoster 1 [3] [] []) t).session.roster.chairs[2] = false ∧ t.takes ∧ FaultSound t) ∧
      (withMixer .running 32768).session.mixer ≠ .stopped := by decide +kernel

/-- Pod 1 waiting to speak. -/
def waitingToSpeak : State :=
  let s := withGate .closed 0 (-96)
  { s with mutes := { s.mutes with
    talkList := [0], reasons := Vec.put s.mutes.reasons 0 { key := false, host := false, chair := true, fault := false } } }

theorem witness_QueriesAnswerTheState :
    State.reset.takes ∧ (0 : Byte).toNat = 0 ∧ 32 < (33 : Byte).toNat ∧ 2 < (3 : Byte).toNat ∧
      255 < 256 ∧ 65535 < 2 ^ 16 ∧ 2 ^ 24 - 1 < 2 ^ 24 ∧ (-128 : Int) ≤ 127 ∧ (-(2 ^ 15) : Int) < 2 ^ 15 := by decide +kernel

/-- A step of a state with a command that changes it. -/
def stepping (c : Instr) (s : State) : State := { s with pending := [c] }

theorem witness_StepKeepsTheRanges :
    (let s := stepping (.setMute 1 1 1) (withGate .opened 0 (-40))
     RampsBounded s ∧ QueueBounded s ∧ LinksBounded s ∧ AlcBounded s ∧ GainsBounded s) ∧
      ∃ t : State, step (stepping (.setMute 1 1 1) (withGate .opened 0 (-40))) = .next t :=
  ⟨⟨by decide +kernel, by decide +kernel, by decide +kernel, by decide +kernel, by decide +kernel⟩, _, rfl⟩

theorem witness_StepKeepsAStoppedMixerSilent :
    (StoppedAtZero (stepping (.start 1) State.reset) ∧ ∃ t : State, step (stepping (.start 1) State.reset) = .next t) ∧
      State.reset.outOfReset ∧ StoppedAtZero State.reset ∧ State.reset.session.mixer = .stopped :=
  ⟨⟨by decide +kernel, _, rfl⟩, by decide +kernel⟩

theorem witness_StepKeepsTheLevels :
    LevelsBounded (stepping (.mixPeriodBoundary [] (vec [] silentFrame)) (withGate .opened 0 (-40))) ∧
      ∃ t : State, step (stepping (.mixPeriodBoundary [] (vec [] silentFrame)) (withGate .opened 0 (-40))) = .next t :=
  ⟨by decide +kernel, _, rfl⟩

/-- A memory of one byte listed. -/
theorem witness_StepKeepsTheMemoryCanonical :
    let s := stepping (.clipData 1 2 1 [5])
      { State.reset with store := { loadingStore 1 with memory := [(1, 0x12)] } }
    MemoryCanonical s ∧ ∃ t : State, step s = .next t :=
  ⟨by decide +kernel, _, rfl⟩

theorem witness_StepKeepsTheTalkList :
    TalkListSound (stepping (.clearReasons 1 1 4) waitingToSpeak) ∧
      ∃ t : State, step (stepping (.clearReasons 1 1 4) waitingToSpeak) = .next t :=
  ⟨by decide +kernel, _, rfl⟩

theorem witness_StepKeepsTheGates :
    GatesSound (stepping (.waitTimeout 0) (withGate .waiting 199 (-96))) ∧
      ∃ t : State, step (stepping (.waitTimeout 0) (withGate .waiting 199 (-96))) = .next t :=
  ⟨by decide +kernel, _, rfl⟩

theorem witness_StepKeepsTheFaultReason :
    FaultSound (stepping (.setRoster 1 [] [] []) (onLink { Link.reset with state := .locked })) ∧
      ∃ t : State, step (stepping (.setRoster 1 [] [] []) (onLink { Link.reset with state := .locked })) = .next t :=
  ⟨by decide +kernel, _, rfl⟩

theorem witness_StepKeepsThePages :
    PagesSound (stepping (.clipDelete 1 8) { State.reset with store := toneStore 0 }) ∧
      ∃ t : State, step (stepping (.clipDelete 1 8) { State.reset with store := toneStore 0 }) = .next t :=
  ⟨pagesSound_tone, _, rfl⟩

theorem witness_StepKeepsTheReferences :
    ReferencesSound (stepping (.abort 1 1) (withPlayer .cued 0 300 0)) ∧
      ∃ t : State, step (stepping (.abort 1 1) (withPlayer .cued 0 300 0)) = .next t :=
  ⟨by decide +kernel, _, rfl⟩

theorem witness_StepKeepsThePlayers :
    PlayersSound (stepping (.go 1 1) (withPlayer .cued 0 300 0)) ∧
      ∃ t : State, step (stepping (.go 1 1) (withPlayer .cued 0 300 0)) = .next t :=
  ⟨by decide +kernel, _, rfl⟩

end Sys2Proof.Tests
end

section
/-! SUPPORT. Frames: which parts of the state an operation may touch, and that what it writes there stays in its
range. Each shared operation says this once, and every invariant of a step is derived from it. -/

namespace Sys2Proof.Machine

/-! ### Parts of the state -/

/-- The parts of the state, as finely as the blocks' work tells them apart. -/
inductive Part where
  | gateRamps | localMuteRamps | privacyRamps | duckRamps | trunkMuteRamps | playerRamps | masterRamp
  | podInputs | trunkInputs | playerInputs | inForce | outputs | links | linkParams | feedFrames | detectors
  | outputMeters | automixer | mutes | alc | feeds | ducks | store | players | mixer | roster | resets
  | control | mixerReports | pending
  deriving DecidableEq

/-- `Posts ok c d`: from `c` the control link has come to `d` by posting reports of types that are `ok`, and by nothing
else (R196). -/
inductive Posts (ok : Byte → Prop) (c : Control) : Control → Prop where
  | none : Posts ok c c
  | report {d : Control} (ty : Byte) (l : List Byte) (hok : ok ty) (h : Posts ok c d) :
      Posts ok c (d.enqueueReport ty l)

theorem Posts.trans {ok : Byte → Prop} {c d e : Control} (h : Posts ok c d) (k : Posts ok d e) : Posts ok c e := by
  induction k with
  | none => exact h
  | report ty l hok _ ih => exact .report ty l hok ih

theorem Posts.mask_eq {ok : Byte → Prop} {c d : Control} (h : Posts ok c d) : d.mask = c.mask := by
  induction h with
  | none => rfl
  | report ty l _ _ ih => rw [enqueueReport_mask, ih]

theorem Posts.queue_le {ok : Byte → Prop} {c d : Control} (h : Posts ok c d)
    (hq : answerCount c.queue ≤ 8 ∧ reportCount c.queue ≤ 32) :
    answerCount d.queue ≤ 8 ∧ reportCount d.queue ≤ 32 := by
  induction h with
  | none => exact hq
  | report ty l _ _ ih => exact ⟨by rw [answerCount_enqueueReport]; exact ih.1, reportCount_enqueueReport_le ty l _ ih.2⟩

/-- What it means that `t` has a part as `s` has it. The control link counts as left alone while reports are posted only,
and `mixerReports` while none of them is a MIXER_STATE (R180). -/
def Part.kept : Part → State → State → Prop
  | .gateRamps, s, t => t.ramps.gate = s.ramps.gate
  | .localMuteRamps, s, t => t.ramps.localMute = s.ramps.localMute
  | .privacyRamps, s, t => t.ramps.privacy = s.ramps.privacy
  | .duckRamps, s, t => t.ramps.duck = s.ramps.duck
  | .trunkMuteRamps, s, t => t.ramps.trunkMute = s.ramps.trunkMute
  | .playerRamps, s, t => t.ramps.player = s.ramps.player
  | .masterRamp, s, t => t.ramps.master = s.ramps.master
  | .podInputs, s, t => t.inputs.pods = s.inputs.pods
  | .trunkInputs, s, t => t.inputs.trunks = s.inputs.trunks
  | .playerInputs, s, t => t.inputs.players = s.inputs.players
  | .inForce, s, t => t.inForce = s.inForce
  | .outputs, s, t => t.outputs = s.outputs
  | .links, s, t => t.links = s.links
  | .linkParams, s, t => t.linkParams = s.linkParams
  | .feedFrames, s, t => t.feedFrames = s.feedFrames
  | .detectors, s, t => t.detectors = s.detectors
  | .outputMeters, s, t => t.outputMeters = s.outputMeters
  | .automixer, s, t => t.automixer = s.automixer
  | .mutes, s, t => t.mutes = s.mutes
  | .alc, s, t => t.alc = s.alc
  | .feeds, s, t => t.router.feeds = s.router.feeds
  | .ducks, s, t => t.router.duckDepth = s.router.duckDepth ∧ t.router.duckActive = s.router.duckActive
  | .store, s, t => t.store = s.store
  | .players, s, t => t.players = s.players
  | .mixer, s, t => t.session.mixer = s.session.mixer
  | .roster, s, t => t.session.roster = s.session.roster
  | .resets, s, t => t.session.lastReason = s.session.lastReason ∧ t.session.phase = s.session.phase ∧
      t.session.pinLatch = s.session.pinLatch
  | .control, s, t => Posts (fun _ => True) s.control t.control
  | .mixerReports, s, t => Posts (· ≠ 0xEA) s.control t.control
  | .pending, s, t => t.pending = s.pending

theorem Part.kept_refl (q : Part) (s : State) : q.kept s s := by
  cases q <;> simp [Part.kept, Posts.none]

theorem Part.kept_trans {q : Part} {s t u : State} (h : q.kept s t) (k : q.kept t u) : q.kept s u := by
  cases q with
  | control => exact Posts.trans h k
  | mixerReports => exact Posts.trans h k
  | ducks => exact ⟨k.1.trans h.1, k.2.trans h.2⟩
  | resets => exact ⟨k.1.trans h.1, k.2.1.trans h.2.1, k.2.2.trans h.2.2⟩
  | _ => exact Eq.trans k h

/-! ### Ranges -/

/-- R38, R27: the ranges of one link. -/
abbrev Link.InRange (l : Link) : Prop := l.fifo.length ≤ 4 ∧ l.badFrames ≤ 65535 ∧ l.slips ≤ 65535

/-- R113: the ranges of one ALC record. -/
abbrev AlcRecord.InRange (r : AlcRecord) : Prop := -24 ≤ r.gain ∧ r.gain ≤ 36 ∧ r.history.length ≤ 2

/-- R161: the gains of a cue list. -/
abbrev PlayerRecord.InRange (r : PlayerRecord) : Prop := ∀ g ∈ r.cue, -120 ≤ g.gain ∧ g.gain ≤ 0

/-- The range that the rules give a part of the state. -/
def Part.inRange : Part → State → Prop
  | .gateRamps, s => ∀ p : Pod, (s.ramps.gate[p]).Bounded
  | .localMuteRamps, s => ∀ p : Pod, (s.ramps.localMute[p]).Bounded
  | .privacyRamps, s => ∀ p : Pod, (s.ramps.privacy[p]).Bounded
  | .duckRamps, s => ∀ p : Pod, (s.ramps.duck[p]).Bounded
  | .trunkMuteRamps, s => ∀ k : Trunk, (s.ramps.trunkMute[k]).Bounded
  | .playerRamps, s => ∀ n : Player, (s.ramps.player[n]).Bounded
  | .masterRamp, s => s.ramps.master.Bounded
  | .links, s => ∀ p : Pod, (s.links[p]).InRange
  | .alc, s => ∀ p : Pod, (s.alc.records[p]).InRange
  | .inForce, s => ∀ v ∈ s.inForce, v.feeds.Bounded
  | .feeds, s => s.router.feeds.Bounded
  | .ducks, s => -40 ≤ s.router.duckDepth ∧ s.router.duckDepth ≤ 0
  | .players, s => ∀ n : Player, (s.player n).InRange
  | .playerInputs, s => ∀ (n : Player) (i : Fin 16),
      -120 ≤ ((s.inputs.players[n])[i]).gain ∧ ((s.inputs.players[n])[i]).gain ≤ 0
  | .control, s => answerCount s.control.queue ≤ 8 ∧ reportCount s.control.queue ≤ 32
  | _, _ => True

/-- R21, R23, R27, R38, R113, R132, R136 to R140, R161, R196: every part lies in its range. -/
def InRange (s : State) : Prop := ∀ q : Part, q.inRange s

theorem inRange_iff (s : State) :
    InRange s ↔ RampsBounded s ∧ QueueBounded s ∧ LinksBounded s ∧ AlcBounded s ∧ GainsBounded s := by
  constructor
  · intro h
    exact ⟨⟨fun p => ⟨h .gateRamps p, h .localMuteRamps p, h .privacyRamps p, h .duckRamps p⟩, h .trunkMuteRamps,
      h .playerRamps, h .masterRamp⟩, h .control, h .links, h .alc, h .feeds, h .inForce, h .ducks,
      fun n => ⟨h .players n, h .playerInputs n⟩⟩
  · rintro ⟨⟨hpods, htrunk, hplayer, hmaster⟩, hqueue, hlinks, halc, hfeeds, hforce, hduck, hplayers⟩ q
    cases q with
    | gateRamps => exact fun p => (hpods p).1
    | localMuteRamps => exact fun p => (hpods p).2.1
    | privacyRamps => exact fun p => (hpods p).2.2.1
    | duckRamps => exact fun p => (hpods p).2.2.2
    | trunkMuteRamps => exact htrunk
    | playerRamps => exact hplayer
    | masterRamp => exact hmaster
    | links => exact hlinks
    | alc => exact halc
    | inForce => exact hforce
    | feeds => exact hfeeds
    | ducks => exact hduck
    | players => exact fun n => (hplayers n).1
    | playerInputs => exact fun n => (hplayers n).2
    | control => exact hqueue
    | _ => trivial

/-- A part left alone stays in its range. -/
theorem Part.inRange_of_kept {q : Part} {s t : State} (h : q.kept s t) (hs : q.inRange s) : q.inRange t := by
  cases q with
  | control => exact Posts.queue_le h hs
  | ducks => simpa only [Part.inRange, h.1] using hs
  | players => simpa only [Part.inRange, State.player, show t.players = s.players from h] using hs
  | gateRamps | localMuteRamps | privacyRamps | duckRamps | trunkMuteRamps | playerRamps | masterRamp | links | alc
  | inForce | feeds | playerInputs =>
    simp only [Part.kept] at h
    simpa only [Part.inRange, h] using hs
  | _ => trivial

/-! ### Moves -/

/-- From `s` to `t` no part but those of `A` is touched, and every part stays in its range. -/
structure Moves (A : List Part) (s t : State) : Prop where
  frame : ∀ q, q ∉ A → q.kept s t
  ranges : InRange s → InRange t

theorem Moves.refl (A : List Part) (s : State) : Moves A s s := ⟨fun q _ => q.kept_refl s, id⟩

theorem Moves.trans {A : List Part} {s t u : State} (h : Moves A s t) (k : Moves A t u) : Moves A s u :=
  ⟨fun q hq => Part.kept_trans (h.frame q hq) (k.frame q hq), fun hs => k.ranges (h.ranges hs)⟩

/-- What touches fewer parts touches no more. -/
theorem Moves.wide {A B : List Part} {s t : State} (h : Moves A s t) (hAB : ∀ q ∈ A, q ∈ B) :
    Moves B s t :=
  ⟨fun q hq => h.frame q fun hA => hq (hAB q hA), h.ranges⟩

/-- Only the parts touched need to be seen to lie in their range. -/
theorem Moves.of_frame {A : List Part} {s t : State} (h : ∀ q, q ∉ A → q.kept s t)
    (hr : InRange s → ∀ q ∈ A, q.inRange t) : Moves A s t := by
  refine ⟨h, fun hs q => ?_⟩
  by_cases hq : q ∈ A
  · exact hr hs q hq
  · exact Part.inRange_of_kept (h q hq) (hs q)

/-- The form for an operation that writes one part. -/
theorem Moves.of_frame_one {a : Part} {s t : State} (h : ∀ q, q ≠ a → q.kept s t) (hr : InRange s → a.inRange t) :
    Moves [a] s t :=
  .of_frame (fun q hq => h q (by simpa using hq)) fun hs q hq => by
    rw [List.mem_singleton.1 hq]
    exact hr hs

theorem Moves.foldl {α : Type} {A : List Part} {f : State → α → State} (h : ∀ t a, Moves A t (f t a)) (l : List α)
    (s : State) : Moves A s (l.foldl f s) := by
  induction l generalizing s with
  | nil => exact .refl A s
  | cons a rest ih => exact (h s a).trans (ih _)

/-! ### Writing one part

One lemma per part: an operation that writes that part alone, with values in their range. -/

section
variable (s : State)

theorem moves_gateRamps (v : Vector Ramp 24) (h : InRange s → ∀ p : Pod, (v[p]).Bounded) :
    Moves [.gateRamps] s { s with ramps := { s.ramps with gate := v } } :=
  .of_frame_one (fun q hq => by cases q <;> simp [Part.kept, Posts.none] at hq ⊢) h

theorem moves_localMuteRamps (v : Vector Ramp 24) (h : InRange s → ∀ p : Pod, (v[p]).Bounded) :
    Moves [.localMuteRamps] s { s with ramps := { s.ramps with localMute := v } } :=
  .of_frame_one (fun q hq => by cases q <;> simp [Part.kept, Posts.none] at hq ⊢) h

theorem moves_privacyRamps (v : Vector Ramp 24) (h : InRange s → ∀ p : Pod, (v[p]).Bounded) :
    Moves [.privacyRamps] s { s with ramps := { s.ramps with privacy := v } } :=
  .of_frame_one (fun q hq => by cases q <;> simp [Part.kept, Posts.none] at hq ⊢) h

theorem moves_duckRamps (v : Vector Ramp 24) (h : InRange s → ∀ p : Pod, (v[p]).Bounded) :
    Moves [.duckRamps] s { s with ramps := { s.ramps with duck := v } } :=
  .of_frame_one (fun q hq => by cases q <;> simp [Part.kept, Posts.none] at hq ⊢) h

theorem moves_trunkMuteRamps (v : Vector Ramp 4) (h : InRange s → ∀ k : Trunk, (v[k]).Bounded) :
    Moves [.trunkMuteRamps] s { s with ramps := { s.ramps with trunkMute := v } } :=
  .of_frame_one (fun q hq => by cases q <;> simp [Part.kept, Posts.none] at hq ⊢) h

theorem moves_playerRamps (v : Vector Ramp 2) (h : InRange s → ∀ n : Player, (v[n]).Bounded) :
    Moves [.playerRamps] s { s with ramps := { s.ramps with player := v } } :=
  .of_frame_one (fun q hq => by cases q <;> simp [Part.kept, Posts.none] at hq ⊢) h

theorem moves_masterRamp (v : Ramp) (h : InRange s → v.Bounded) :
    Moves [.masterRamp] s { s with ramps := { s.ramps with master := v } } :=
  .of_frame_one (fun q hq => by cases q <;> simp [Part.kept, Posts.none] at hq ⊢) h

theorem moves_podInputs (v : Vector Frame 24) :
    Moves [.podInputs] s { s with inputs := { s.inputs with pods := v } } :=
  .of_frame_one (fun q hq => by cases q <;> simp [Part.kept, Posts.none] at hq ⊢) fun _ => trivial

theorem moves_trunkInputs (v : Vector Frame 4) :
    Moves [.trunkInputs] s { s with inputs := { s.inputs with trunks := v } } :=
  .of_frame_one (fun q hq => by cases q <;> simp [Part.kept, Posts.none] at hq ⊢) fun _ => trivial

theorem moves_playerInputs (v : Vector (Vector PlayerSlot 16) 2) (h : InRange s → ∀ (n : Player) (i : Fin 16), -120 ≤ ((v[n])[i]).gain ∧ ((v[n])[i]).gain ≤ 0) :
    Moves [.playerInputs] s { s with inputs := { s.inputs with players := v } } :=
  .of_frame_one (fun q hq => by cases q <;> simp [Part.kept, Posts.none] at hq ⊢) h

theorem moves_links (v : Vector Link 24) (h : InRange s → ∀ p : Pod, (v[p]).InRange) :
    Moves [.links] s { s with links := v } :=
  .of_frame_one (fun q hq => by cases q <;> simp [Part.kept, Posts.none] at hq ⊢) h

theorem moves_linkParams (v : LinkParams) :
    Moves [.linkParams] s { s with linkParams := v } :=
  .of_frame_one (fun q hq => by cases q <;> simp [Part.kept, Posts.none] at hq ⊢) fun _ => trivial

theorem moves_detectors (v : Vector Detector 30) :
    Moves [.detectors] s { s with detectors := v } :=
  .of_frame_one (fun q hq => by cases q <;> simp [Part.kept, Posts.none] at hq ⊢) fun _ => trivial

theorem moves_outputMeters (v : Vector OutputMeter 30) :
    Moves [.outputMeters] s { s with outputMeters := v } :=
  .of_frame_one (fun q hq => by cases q <;> simp [Part.kept, Posts.none] at hq ⊢) fun _ => trivial

theorem moves_automixer (v : Automixer) :
    Moves [.automixer] s { s with automixer := v } :=
  .of_frame_one (fun q hq => by cases q <;> simp [Part.kept, Posts.none] at hq ⊢) fun _ => trivial

theorem moves_mutes (v : Mutes) :
    Moves [.mutes] s { s with mutes := v } :=
  .of_frame_one (fun q hq => by cases q <;> simp [Part.kept, Posts.none] at hq ⊢) fun _ => trivial

theorem moves_alc (v : Alc) (h : InRange s → ∀ p : Pod, (v.records[p]).InRange) :
    Moves [.alc] s { s with alc := v } :=
  .of_frame_one (fun q hq => by cases q <;> simp [Part.kept, Posts.none] at hq ⊢) h

theorem moves_feeds (v : Feeds) (h : InRange s → v.Bounded) :
    Moves [.feeds] s { s with router := { s.router with feeds := v } } :=
  .of_frame_one (fun q hq => by cases q <;> simp [Part.kept, Posts.none] at hq ⊢) h

theorem moves_store (v : ClipStore) :
    Moves [.store] s { s with store := v } :=
  .of_frame_one (fun q hq => by cases q <;> simp [Part.kept, Posts.none] at hq ⊢) fun _ => trivial

theorem moves_players (v : Vector PlayerRecord 2) (h : InRange s → ∀ n : Player, (v[n]).InRange) :
    Moves [.players] s { s with players := v } :=
  .of_frame_one (fun q hq => by cases q <;> simp [Part.kept, Posts.none] at hq ⊢) h

theorem moves_mixer (v : MixerState) :
    Moves [.mixer] s { s with session := { s.session with mixer := v } } :=
  .of_frame_one (fun q hq => by cases q <;> simp [Part.kept, Posts.none] at hq ⊢) fun _ => trivial

theorem moves_roster (v : Roster) :
    Moves [.roster] s { s with session := { s.session with roster := v } } :=
  .of_frame_one (fun q hq => by cases q <;> simp [Part.kept, Posts.none] at hq ⊢) fun _ => trivial

theorem moves_ducks (v : Router) (h : InRange s → -40 ≤ v.duckDepth ∧ v.duckDepth ≤ 0)
    (hv : v.feeds = s.router.feeds) : Moves [.ducks] s { s with router := v } :=
  .of_frame_one (fun q hq => by cases q <;> simp [Part.kept, Posts.none, hv] at hq ⊢) h

theorem moves_resets (v : Session) (hm : v.mixer = s.session.mixer)
    (hr : v.roster = s.session.roster) :
    Moves [.resets] s { s with session := v } :=
  .of_frame_one (fun q hq => by cases q <;> simp [Part.kept, Posts.none, hm, hr] at hq ⊢) fun _ => trivial

/-- The control link written in another way than by posting. -/
theorem moves_control (v : Control) (h : InRange s → answerCount v.queue ≤ 8 ∧ reportCount v.queue ≤ 32) :
    Moves [.control, .mixerReports] s { s with control := v } :=
  .of_frame (fun q hq => by cases q <;> simp [Part.kept] at hq ⊢) fun hs q hq => by
    rcases List.mem_pair.1 hq with rfl | rfl
    · exact h hs
    · trivial

/-- A report of another type than MIXER_STATE is posted. -/
theorem moves_postAlways (ty : Byte) (l : List Byte) (hty : ty ≠ 0xEA) : Moves [] s (s.postAlways ty l) :=
  .of_frame
    (fun q _ => by
      cases q with
      | control => exact .report ty l trivial .none
      | mixerReports => exact .report ty l hty .none
      | _ => simp [Part.kept])
    fun _ q hq => absurd hq (by simp)

theorem moves_post (c : Category) (ty : Byte) (l : List Byte) (hty : ty ≠ 0xEA) : Moves [] s (s.post c ty l) := by
  unfold State.post
  split
  · exact moves_postAlways s ty l hty
  · exact .refl _ s

/-- A MIXER_STATE is posted. -/
theorem moves_postMixer (l : List Byte) : Moves [.mixerReports] s (s.post .mixer 0xEA l) := by
  unfold State.post
  split
  · exact .of_frame_one
      (fun q hq => by
        cases q with
        | control => exact .report 0xEA l trivial .none
        | mixerReports => contradiction
        | _ => simp [Part.kept])
      fun _ => trivial
  · exact .refl _ s

end

/-! ### Vectors in range -/

theorem Vec.forall_put {α : Type} {n : Nat} {P : α → Prop} {v : Vector α n} {i : Fin n} {x : α}
    (hv : ∀ j : Fin n, P v[j]) (hx : P x) (j : Fin n) : P (Vec.put v i x)[j] := by
  rw [Fin.getElem_fin, Vec.getElem_put]
  split
  · exact hx
  · exact hv j

theorem Vec.forall_tab {α : Type} {n : Nat} {P : α → Prop} {f : Fin n → α} (h : ∀ j, P (f j)) (j : Fin n) :
    P (Vec.tab f)[j] := by
  rw [Fin.getElem_fin, Vec.getElem_tab]
  exact h j

end Sys2Proof.Machine
end

section
/-! SUPPORT. What the operations that several blocks share touch (Ops.lean): ramps, gates, mutes, link changes. -/

namespace Sys2Proof.Machine

/-! ### Ramps -/

/-- An operation on a ramp that keeps it in 0..32768 (R21). -/
abbrev Ramp.Keeping (f : Ramp → Ramp) : Prop := ∀ r : Ramp, r.Bounded → (f r).Bounded

theorem Ramp.keeping_setTarget {t len : Nat} (ht : t ≤ fullScale) : Ramp.Keeping (·.setTarget t len) :=
  fun _ h => Ramp.setTarget_bounded ht h

theorem Ramp.keeping_jump_zero : Ramp.Keeping (·.jump 0) := fun _ h => Ramp.jump_bounded (Nat.zero_le _) h

section
variable {f : Ramp → Ramp} (hf : Ramp.Keeping f) (s : State)
include hf

theorem onGateRamp_moves (p : Pod) : Moves [.gateRamps] s (s.onGateRamp p f) :=
  moves_gateRamps s _ fun hs => Vec.forall_put (hs .gateRamps) (hf _ (hs .gateRamps p))

theorem onLocalMuteRamp_moves (p : Pod) : Moves [.localMuteRamps] s (s.onLocalMuteRamp p f) :=
  moves_localMuteRamps s _ fun hs => Vec.forall_put (hs .localMuteRamps) (hf _ (hs .localMuteRamps p))

theorem onPrivacyRamps_moves : Moves [.privacyRamps] s (s.onPrivacyRamps f) :=
  moves_privacyRamps s _ fun hs => Vec.forall_tab fun p => hf _ (hs .privacyRamps p)

theorem onDuckRamp_moves (p : Pod) : Moves [.duckRamps] s (s.onDuckRamp p f) :=
  moves_duckRamps s _ fun hs => Vec.forall_put (hs .duckRamps) (hf _ (hs .duckRamps p))

theorem onTrunkMuteRamp_moves (k : Trunk) : Moves [.trunkMuteRamps] s (s.onTrunkMuteRamp k f) :=
  moves_trunkMuteRamps s _ fun hs => Vec.forall_put (hs .trunkMuteRamps) (hf _ (hs .trunkMuteRamps k))

theorem onPlayerRamp_moves (n : Player) : Moves [.playerRamps] s (s.onPlayerRamp n f) :=
  moves_playerRamps s _ fun hs => Vec.forall_put (hs .playerRamps) (hf _ (hs .playerRamps n))

theorem onMasterRamp_moves : Moves [.masterRamp] s (s.onMasterRamp f) :=
  moves_masterRamp s _ fun hs => hf _ (hs .masterRamp)

end

/-! ### Gates (R73, R78, R84) -/

section
variable (p : Pod) (s : State)

theorem setGateState_moves (st : GateState) (count : Nat) : Moves [.automixer] s (s.setGateState p st count) :=
  moves_automixer s _

theorem setPriority_moves (n : Nat) : Moves [.automixer] s (s.setPriority p n) := moves_automixer s _

theorem dequeueGate_moves : Moves [.automixer] s (s.dequeueGate p) := moves_automixer s _

theorem gateEvent_moves (a b : GateState) (c : GateCause) : Moves [] s (s.gateEvent p a b c) :=
  moves_post s _ _ _ (by decide)

/-- The gate goes to a state, leaves the wait queue, and the change is posted. -/
theorem gateTo_moves (st : GateState) (count : Nat) (a b : GateState) (c : GateCause) :
    Moves [.automixer] s (((s.setGateState p st count).dequeueGate p).gateEvent p a b c) :=
  ((setGateState_moves p s st count).trans (dequeueGate_moves p _)).trans ((gateEvent_moves p _ a b c).wide (by decide))

theorem retargetGate_moves : Moves [.gateRamps] s (s.retargetGate p) := by
  unfold State.retargetGate
  split
  · exact .refl _ s
  · split
    · exact onGateRamp_moves (Ramp.keeping_setTarget le_rfl) s p
    · exact onGateRamp_moves (Ramp.keeping_setTarget (lin15_le _)) s p

theorem releaseGate_moves (c : GateCause) : Moves [.automixer] s (s.releaseGate p c) := gateTo_moves p s _ _ _ _ c

/-- The parts that a change of a gate touches. -/
def gateParts : List Part := [.automixer, .gateRamps]

theorem closeForMute_moves : Moves gateParts s (s.closeForMute p) := by
  unfold State.closeForMute
  split
  case h_1 | h_2 => exact .refl _ s
  all_goals exact ((releaseGate_moves p s .muted).wide (by decide)).trans ((retargetGate_moves p _).wide (by decide))

/-! ### Mute reasons (R87, R89, R90) -/

/-- The parts that a change of a pod's reasons touches. -/
def muteParts : List Part := [.mutes, .localMuteRamps, .automixer, .gateRamps]

theorem setReasons_moves (r : Reasons) : Moves muteParts s (s.setReasons p r) := by
  have written : Moves muteParts s { s with mutes := { s.mutes with reasons := Vec.put s.mutes.reasons p r } } :=
    (moves_mutes s _).wide (by decide)
  unfold State.setReasons
  simp only
  split
  · exact written
  · split
    · exact (written.trans ((onLocalMuteRamp_moves (Ramp.keeping_setTarget (Nat.zero_le _)) _ p).wide (by decide))).trans
        ((closeForMute_moves p _).wide (by decide))
    · exact written.trans ((onLocalMuteRamp_moves (Ramp.keeping_setTarget le_rfl) _ p).wide (by decide))

theorem setKey_moves (b : Bool) : Moves muteParts s (s.setKey p b) := setReasons_moves p s _

theorem setHost_moves (b : Bool) : Moves muteParts s (s.setHost p b) := setReasons_moves p s _

theorem setChair_moves (b : Bool) : Moves muteParts s (s.setChair p b) := setReasons_moves p s _

theorem gainFault_moves : Moves muteParts s (s.gainFault p) :=
  (setReasons_moves p s _).trans ((onGateRamp_moves Ramp.keeping_jump_zero _ p).wide (by decide))

theorem loseFault_moves : Moves muteParts s (s.loseFault p) :=
  (setReasons_moves p s _).trans ((retargetGate_moves p _).wide (by decide))

theorem keyFollows_moves (b : Bool) : Moves muteParts s (s.keyFollows p b) := by
  unfold State.keyFollows
  split
  · exact .refl _ s
  · exact setKey_moves p s _

theorem revertKeys_moves : Moves muteParts s (s.revertKeys p) :=
  ((moves_mutes s _).wide (by decide)).trans (keyFollows_moves p _ false)

/-! ### The talk-request list (R100, R101, R109) -/

theorem talkReport_moves (a : TalkAction) (b : Byte) : Moves [] s (s.talkReport a b) := moves_post s _ _ _ (by decide)

theorem setTalkList_moves (l : List Pod) : Moves [.mutes] s (s.setTalkList l) := moves_mutes s _

theorem leaveTalkList_moves (a : TalkAction) : Moves [.mutes] s (s.leaveTalkList p a) := by
  unfold State.leaveTalkList
  split
  · exact (setTalkList_moves s _).trans ((talkReport_moves _ a _).wide (by decide))
  · exact .refl _ s

/-! ### Link changes handed on (R42, R43) -/

theorem linkEvent_moves (c : LinkChange) : Moves [] s (s.linkEvent p c) := moves_post s _ _ _ (by decide)

theorem faultFollows_moves (c : LinkChange) : Moves muteParts s (s.faultFollows p c) := by
  unfold State.faultFollows
  split
  · exact gainFault_moves p s
  · split
    · exact loseFault_moves p s
    · exact .refl _ s

theorem keysFollow_moves (c : LinkChange) : Moves muteParts s (s.keysFollow p c) := by
  have reverted : Moves muteParts s (if c.before.takes && !c.after.takes then s.revertKeys p else s) := by
    split
    · exact revertKeys_moves p s
    · exact .refl _ s
  unfold State.keysFollow
  simp only
  split
  · exact reverted.trans ((leaveTalkList_moves p _ _).wide (by decide))
  · exact reverted

theorem handOn_moves (c : LinkChange) : Moves muteParts s (s.handOn p c) :=
  (((linkEvent_moves p s c).wide (by decide)).trans (faultFollows_moves p _ c)).trans (keysFollow_moves p _ c)

/-- The parts that a move of a link touches. -/
def linkParts : List Part := .links :: muteParts

theorem moveLink_moves (l : Link) (changes : List LinkChange) (h : InRange s → l.InRange) :
    Moves linkParts s (s.moveLink p l changes) :=
  ((moves_links s _ fun hs => Vec.forall_put (hs .links) (h hs)).wide (by decide)).trans
    ((Moves.foldl (fun t c => handOn_moves p t c) changes _).wide (by decide))

end

/-! ### The control link (R193, R199) -/

theorem hunt_moves (s : State) : Moves [.control, .mixerReports] s s.hunt := moves_control s _ fun hs => hs .control

theorem controlError_moves (cause : ControlCause) (n : Nat) (ty tag : Byte) (s : State) :
    Moves [] s (s.controlError cause n ty tag) := moves_postAlways s _ _ (by decide)

end Sys2Proof.Machine
end

section
/-! SUPPORT. What the work of each block touches: automixer, links, mute controller, level controller, feed router,
players. -/

namespace Sys2Proof.Machine

/-! ### Automixer (Chapter 4) -/

section
variable (s : State)

theorem collect_moves (l : List Pod) : Moves [.automixer] s (s.collect l) := moves_automixer s _

theorem expire_moves (p : Pod) : Moves [.automixer] s (s.expire p) := by
  unfold State.expire
  split
  · exact .refl _ s
  · exact releaseGate_moves p s _

theorem timeOut_moves (p : Pod) : Moves [.automixer] s (s.timeOut p) := releaseGate_moves p s _

theorem takeAutomixParams_moves : Moves [.automixer] s s.takeAutomixParams := by
  unfold State.takeAutomixParams
  split
  · exact .refl _ s
  · exact moves_automixer s _

theorem judgeGates_moves : Moves [.automixer] s s.judgeGates := (moves_automixer s _).trans (collect_moves _ _)

theorem step1_moves : Moves [.automixer] s s.step1 :=
  ((judgeGates_moves s).trans (Moves.foldl timeOut_moves _ _)).trans (Moves.foldl expire_moves _ _)

theorem evict_moves (fuel : Nat) : Moves [.automixer] s (State.evict fuel s) := by
  induction fuel generalizing s with
  | zero => exact .refl _ s
  | succ fuel ih =>
    unfold State.evict
    split
    · exact .refl _ s
    · split
      · exact .refl _ s
      · exact (releaseGate_moves _ s _).trans (ih _)

theorem takeLimit_moves : Moves [.automixer] s s.takeLimit := by
  unfold State.takeLimit
  split
  · exact .refl _ s
  · exact moves_automixer s _

theorem step2_moves : Moves [.automixer] s s.step2 := (takeLimit_moves s).trans (evict_moves _ 24)

theorem openGate_moves (p : Pod) : Moves [.automixer] s (s.openGate p) := gateTo_moves p s _ _ _ _ _

theorem grant_moves (fuel : Nat) : Moves [.automixer] s (State.grant fuel s).1 := by
  induction fuel generalizing s with
  | zero => exact .refl _ s
  | succ fuel ih =>
    unfold State.grant
    split
    · exact .refl _ s
    · split
      · exact .refl _ s
      · exact (openGate_moves s _).trans (ih _)

theorem enterWait_moves (p : Pod) : Moves [.automixer] s (s.enterWait p) :=
  ((setGateState_moves p s .waiting 0).trans (moves_automixer _ _)).trans ((gateEvent_moves p _ _ _ _).wide (by decide))

theorem request_moves (p : Pod) : Moves [.automixer] s (s.request p).1 := by
  unfold State.request
  split
  · exact openGate_moves s p
  · split
    · exact enterWait_moves s p
    · split
      · exact (releaseGate_moves _ s _).trans (openGate_moves _ p)
      · exact enterWait_moves s p

theorem requests_moves (l : List Pod) : Moves [.automixer] s (State.requests l s).1 := by
  induction l generalizing s with
  | nil => exact .refl _ s
  | cons p rest ih => exact (request_moves s p).trans (ih _)

theorem step4_moves : Moves [.automixer] s s.step4.1 := (moves_automixer s _).trans (requests_moves _ _)

theorem retargetChanged_moves (p : Pod) (before : State) : Moves [.gateRamps] s (s.retargetChanged p before) := by
  unfold State.retargetChanged
  split
  · exact retargetGate_moves p s
  · exact .refl _ s

theorem retargetAfter_moves (before : State) : Moves [.gateRamps] s (s.retargetAfter before) := by
  refine Moves.foldl (fun t p => ?_) _ _
  split
  · exact retargetGate_moves p t
  · exact .refl _ t

theorem step3_moves : Moves [.automixer] s s.step3.1 := grant_moves s 24

theorem automix_moves : Moves gateParts s s.automix.1 := by
  have before3 : Moves gateParts s s.takeAutomixParams.step1.step2 :=
    (((takeAutomixParams_moves s).trans (step1_moves _)).trans (step2_moves _)).wide (by decide)
  have steps : Moves gateParts s s.takeAutomixParams.step1.step2.step3.1.step4.1 :=
    (before3.trans ((step3_moves _).wide (by decide))).trans ((step4_moves _).wide (by decide))
  exact steps.trans ((retargetAfter_moves _ s).wide (by decide))

theorem judgedWith_moves (m : GateMark) {after : State → State} (h : ∀ t, Moves [.automixer] t (after t)) (p : Pod) :
    Moves gateParts s (s.judgedWith m after p) := by
  unfold State.judgedWith
  split
  · exact (((moves_automixer s _).trans (h _)).wide (by decide)).trans ((retargetChanged_moves _ p s).wide (by decide))
  · exact .refl _ s

theorem applyGateMode_moves (p : Pod) (mode : GateMode) : Moves gateParts s (s.applyGateMode p mode) := by
  have setMode (m : GateMode) : Moves gateParts s (s.setGateMode p m) := (moves_automixer s _).wide (by decide)
  have setState (t : State) (st : GateState) : Moves gateParts t (t.gateModeState p st) := by
    unfold State.gateModeState
    split
    · exact .refl _ t
    · exact (gateTo_moves p t _ _ _ _ _).wide (by decide)
  unfold State.applyGateMode
  split
  · exact .refl _ s
  · split
    · split
      · exact ((setMode _).trans (setState _ _)).trans ((retargetGate_moves p _).wide (by decide))
      · exact (setMode _).trans ((retargetGate_moves p _).wide (by decide))
    · exact ((setMode _).trans (setState _ _)).trans ((retargetGate_moves p _).wide (by decide))

end

/-! ### Links (Chapter 2) -/

theorem Link.append_inRange {f : MicFrame} {l : Link} (h : l.InRange) : (l.append f).InRange := by
  obtain ⟨hfifo, hbad, hslips⟩ := h
  unfold Link.append
  split
  · exact ⟨by simp; omega, hbad, hslips⟩
  · exact ⟨by simp; omega, hbad, by simp⟩

theorem Link.completeLock_inRange {q : LinkParams} {f : MicFrame} {l : Link} (h : l.InRange) :
    (l.completeLock q f).1.InRange := by
  unfold Link.completeLock
  split <;> exact ⟨by simp, h.2⟩

theorem Link.countLock_inRange {q : LinkParams} {f : MicFrame} {l : Link} (h : l.InRange) :
    (l.countLock q f).1.InRange := by
  unfold Link.countLock
  split
  · exact completeLock_inRange h
  · exact h

theorem Link.sequenced_inRange {q : LinkParams} {f : MicFrame} {l : Link} (h : l.InRange) :
    (l.sequenced q f).1.InRange := by
  have appended := append_inRange (f := f) h
  unfold Link.sequenced
  split
  · exact appended
  · exact appended
  · exact h
  · unfold Link.outOfWindow
    split
    · exact countLock_inRange ⟨by simp, h.2⟩
    · exact h

theorem Link.arrive_inRange {q : LinkParams} {f : MicFrame} {l : Link} (h : l.InRange) : (l.arrive q f).1.InRange := by
  unfold Link.arrive
  split
  · exact h
  · exact countLock_inRange h
  · exact countLock_inRange h
  all_goals exact sequenced_inRange h

theorem Link.malformed_inRange {l : Link} (h : l.InRange) : l.malformed.InRange := by
  unfold Link.malformed
  split
  · exact h
  all_goals exact ⟨h.1, by simp, h.2.2⟩

theorem Link.emptyTake_inRange {q : LinkParams} {run : Nat} {l : Link} (h : l.InRange) :
    (l.emptyTake q run).1.InRange := by
  unfold Link.emptyTake
  split
  · exact ⟨by simp [Link.unlocked], h.2⟩
  · exact h

theorem Link.boundary_inRange {q : LinkParams} {l : Link} (h : l.InRange) : (l.boundary q).1.InRange := by
  have taken {f : MicFrame} {rest : List MicFrame} (hl : l.fifo = f :: rest) : rest.length ≤ 4 := by
    have := h.1
    rw [hl, List.length_cons] at this
    omega
  unfold Link.boundary
  split
  · exact h
  · exact h
  · unfold Link.acquiringBoundary
    split <;> exact h
  · split
    · rename_i f rest hl
      unfold Link.settlingTake
      simp only
      split <;> exact ⟨taken hl, h.2⟩
    · exact h
  · split
    · rename_i f rest hl
      exact ⟨taken hl, h.2⟩
    · exact emptyTake_inRange h
  · split
    · rename_i f rest hl
      exact ⟨taken hl, h.2⟩
    · exact emptyTake_inRange h

section
variable (s : State)

theorem frameArrives_moves (p : Pod) (f : MicFrame) : Moves linkParts s (s.frameArrives p f) :=
  moveLink_moves p s _ _ fun hs => Link.arrive_inRange (hs .links p)

theorem candidateArrives_moves (p : Pod) (candidate : List Byte) (ok : Bool) :
    Moves linkParts s (s.candidateArrives p candidate ok) := by
  unfold State.candidateArrives
  split
  · exact frameArrives_moves s p _
  · exact (moves_links s _ fun hs => Vec.forall_put (hs .links) (Link.malformed_inRange (hs .links p))).wide (by decide)

theorem linkBoundary_moves (p : Pod) : Moves linkParts s (s.linkBoundary p) :=
  moveLink_moves p s _ _ fun hs => Link.boundary_inRange (hs .links p)

theorem linkEventOf_moves (p : Pod) (cause : LinkCause) : Moves linkParts s (s.linkEventOf p cause) := by
  unfold State.linkEventOf
  split
  · exact linkBoundary_moves s p
  · exact .refl _ s

/-! ### Mute controller (Chapter 5) -/

theorem chairMuteOn_moves : Moves muteParts s s.chairMuteOn := by
  refine ((moves_mutes s _).wide (by decide)).trans (Moves.foldl (fun t p => ?_) _ _)
  split
  · exact setChair_moves p t true
  · exact .refl _ t

theorem clearTalkList_moves : Moves [.mutes] s s.clearTalkList := by
  unfold State.clearTalkList
  split
  · exact .refl _ s
  · exact (setTalkList_moves s []).trans ((talkReport_moves _ _ _).wide (by decide))

theorem chairMuteOff_moves : Moves muteParts s s.chairMuteOff := by
  refine (((moves_mutes s _).wide (by decide)).trans (Moves.foldl (fun t p => ?_) _ _)).trans ((clearTalkList_moves _).wide (by decide))
  split
  · exact setChair_moves p t false
  · exact .refl _ t

theorem setChairMute_moves (on : Bool) : Moves muteParts s (s.setChairMute on) := by
  unfold State.setChairMute
  split
  · exact .refl _ s
  · split
    · exact chairMuteOn_moves s
    · exact chairMuteOff_moves s

theorem acceptEdge_moves (p : Pod) (isAll level : Bool) {effect : State → State}
    (h : ∀ t, Moves muteParts t (effect t)) : Moves muteParts s (s.acceptEdge p isAll level effect) :=
  ((moves_post s _ _ _ (by decide)).wide (by decide)).trans (h _)

theorem talkPress_moves (p : Pod) : Moves [.mutes] s (s.talkPress p) := by
  unfold State.talkPress
  split
  · exact leaveTalkList_moves p s _
  · split
    · exact (setTalkList_moves s _).trans ((talkReport_moves _ _ _).wide (by decide))
    · exact (talkReport_moves s _ _).wide (by decide)

theorem talkEdgeKey_moves (p : Pod) (pressed : Bool) : Moves muteParts s (s.talkEdgeKey p pressed) := by
  unfold State.talkEdgeKey
  split
  · split
    · exact setKey_moves p s _
    · exact .refl _ s
  all_goals exact keyFollows_moves p s pressed

theorem talkEdge_moves (p : Pod) (pressed : Bool) : Moves muteParts s (s.talkEdge p pressed) := by
  unfold State.talkEdge
  split
  · exact (talkEdgeKey_moves s p pressed).trans ((talkPress_moves _ p).wide (by decide))
  · exact talkEdgeKey_moves s p pressed

theorem allEdge_moves (p : Pod) (pressed : Bool) : Moves muteParts s (s.allEdge p pressed) := by
  unfold State.allEdge
  split
  · exact setChairMute_moves s _
  · exact .refl _ s

theorem takeAllLevel_moves (p : Pod) (k : KeyLevels) : Moves muteParts s (s.takeAllLevel p k) := by
  have setKey (r : KeyRecord) : Moves muteParts s (s.setAllKey p r) := (moves_mutes s _).wide (by decide)
  unfold State.takeAllLevel
  split
  · exact setKey _
  · split
    · exact (setKey _).trans (acceptEdge_moves _ p true k.all fun t => allEdge_moves t p k.all)
    · exact .refl _ s

theorem takeTalkLevel_moves (p : Pod) (k : KeyLevels) : Moves muteParts s (s.takeTalkLevel p k) := by
  have setKey (r : KeyRecord) : Moves muteParts s (s.setTalkKey p r) := (moves_mutes s _).wide (by decide)
  unfold State.takeTalkLevel
  split
  · exact (setKey _).trans (keyFollows_moves p _ _)
  · split
    · exact (setKey _).trans (acceptEdge_moves _ p false k.talk fun t => talkEdge_moves t p k.talk)
    · exact .refl _ s

theorem keyPass_moves {one : Pod → KeyLevels → State → State} (h : ∀ p k t, Moves muteParts t (one p k t))
    (keys : TakenKeys) : Moves muteParts s (keyPass one keys s) := by
  refine Moves.foldl (fun t p => ?_) _ _
  split
  · exact h p _ t
  · exact .refl _ t

theorem takeKeys_moves (keys : TakenKeys) : Moves muteParts s (s.takeKeys keys) :=
  (keyPass_moves s (fun p k t => takeAllLevel_moves t p k) keys).trans
    (keyPass_moves _ (fun p k t => takeTalkLevel_moves t p k) keys)

theorem ageKeys_moves : Moves [.mutes] s s.ageKeys := moves_mutes s _

theorem setTrunkHost_moves (k : Trunk) (on : Bool) : Moves [.mutes, .trunkMuteRamps] s (s.setTrunkHost k on) := by
  unfold State.setTrunkHost
  split
  · exact .refl _ s
  · refine ((moves_mutes s _).wide (by decide)).trans ((onTrunkMuteRamp_moves (Ramp.keeping_setTarget ?_) _ k).wide (by decide))
    split
    · exact Nat.zero_le _
    · exact le_rfl

theorem clearReasons_moves (p : Pod) (b : Byte) : Moves muteParts s (s.clearReasons p b) := by
  unfold State.clearReasons
  simp only
  split
  · exact (setReasons_moves p s _).trans ((leaveTalkList_moves p _ _).wide (by decide))
  · exact setReasons_moves p s _

theorem setPrivacy_moves (on : Bool) : Moves [.mutes, .privacyRamps] s (s.setPrivacy on) := by
  unfold State.setPrivacy
  split
  · exact .refl _ s
  · refine ((moves_mutes s _).wide (by decide)).trans ((onPrivacyRamps_moves (Ramp.keeping_setTarget ?_) _).wide (by decide))
    split
    · exact Nat.zero_le _
    · exact le_rfl

theorem setKeyMode_moves (p : Pod) (mode : KeyMode) : Moves muteParts s (s.setKeyMode p mode) := by
  unfold State.setKeyMode
  split
  · exact .refl _ s
  · exact ((moves_mutes s _).wide (by decide)).trans (keyFollows_moves p _ _)

/-! ### Level controller (Chapter 6) -/

end

theorem pushSign_length_le (l : List Sign) (d : Sign) : (pushSign l d).length ≤ 2 := by
  unfold pushSign
  split <;> simp

theorem AlcRecord.stepBy_inRange {q : AlcParams} {diff : Int} {r : AlcRecord} (h : r.InRange) :
    (r.stepBy q diff).InRange := by
  unfold AlcRecord.stepBy
  simp only
  split
  · exact h
  · split
    · exact h
    · have := clampInt_mem (-24) 36 (r.gain + alcStep q.shift q.slew diff) (by omega)
      exact ⟨this.1, this.2, pushSign_length_le _ _⟩

/-- R117, R119: a jump goes to a gain in -24..+36. -/
theorem AlcRecord.outcome_jump_mem {q : AlcParams} {r : AlcRecord} {d : Int} (h : r.outcome q = .jump d) :
    -24 ≤ d ∧ d ≤ 36 := by
  unfold AlcRecord.outcome at h
  simp only at h
  split at h
  · cases h
  · split at h
    · cases h
    · split at h
      · cases h
        exact clampInt_mem (-24) 36 _ (by omega)
      · cases h

theorem AlcRecord.evaluate_inRange {q : AlcParams} {r : AlcRecord} (h : r.InRange) : (r.evaluate q).InRange := by
  unfold AlcRecord.evaluate
  split
  · exact h
  · exact h
  · rename_i d hd
    have := outcome_jump_mem hd
    exact ⟨this.1, this.2, by simp [AlcRecord.jumpTo]⟩
  · exact stepBy_inRange h

theorem AlcRecord.endInterval_inRange {q : AlcParams} {r : AlcRecord} (h : r.InRange) :
    (r.endInterval q).InRange := by
  unfold AlcRecord.endInterval
  split
  · exact h
  · exact evaluate_inRange h

theorem AlcRecord.judgeFrame_inRange {before : State} {p : Pod} {r : AlcRecord} (h : r.InRange) :
    (r.judgeFrame before p).InRange := by
  unfold AlcRecord.judgeFrame
  split
  · exact h
  · split
    · exact h
    · exact h

theorem AlcRecord.setHeld_inRange {held : Bool} {r : AlcRecord} (h : r.InRange) : (r.setHeld held).InRange := by
  unfold AlcRecord.setHeld
  split
  · exact h
  · split
    · exact ⟨h.1, h.2.1, by simp [AlcRecord.hold, AlcRecord.reset]⟩
    · exact h

section
variable (s : State)

theorem setAlcRecords_moves {f : Pod → AlcRecord → AlcRecord} (h : ∀ p r, r.InRange → (f p r).InRange) :
    Moves [.alc] s (s.setAlcRecords f) :=
  moves_alc s _ fun hs => Vec.forall_tab fun p => h p _ (hs .alc p)

theorem setAlcPosition_moves (n : Nat) : Moves [.alc] s (s.setAlcPosition n) := moves_alc s _ fun hs => hs .alc

theorem reportJump_moves (p : Pod) (r : AlcRecord) : Moves [] s (s.reportJump p r) := by
  unfold State.reportJump
  split
  · exact .refl _ s
  · split
    · exact moves_post s _ _ _ (by decide)
    all_goals exact .refl _ s

theorem endInterval_moves : Moves [.alc] s s.endInterval :=
  (((Moves.foldl (fun t p => reportJump_moves t p _) _ _).wide (by decide)).trans
    (setAlcRecords_moves _ fun _ _ h => AlcRecord.endInterval_inRange h)).trans (setAlcPosition_moves _ 0)

theorem levelControl_moves (before : State) : Moves [.alc] s (s.levelControl before) := by
  unfold State.levelControl State.advanceInterval
  split
  · have judged := setAlcRecords_moves s (f := fun p r => r.judgeFrame before p)
      fun _ _ h => AlcRecord.judgeFrame_inRange h
    refine judged.trans ?_
    split
    · exact endInterval_moves _
    · exact setAlcPosition_moves _ _
  · exact .refl _ s

theorem takeAlcParams_moves (q : AlcParams) : Moves [.alc] s (s.takeAlcParams q) := by
  have taken : Moves [.alc] s { s with alc := { s.alc with params := q } } := moves_alc s _ fun hs => hs .alc
  unfold State.takeAlcParams
  simp only
  split
  · refine (taken.trans (setAlcRecords_moves _ fun _ r h => ?_)).trans (setAlcPosition_moves _ 0)
    exact ⟨by simp [AlcRecord.disabled, AlcRecord.reset], by simp [AlcRecord.disabled, AlcRecord.reset],
      by simp [AlcRecord.disabled, AlcRecord.reset]⟩
  · split
    · exact (taken.trans (setAlcRecords_moves _ (f := fun _ r => r.restart) fun _ r h => h)).trans (setAlcPosition_moves _ 0)
    · exact taken

theorem holdAlc_moves (p : Pod) (held : Bool) : Moves [.alc] s (s.holdAlc p held) :=
  moves_alc s _ fun hs => Vec.forall_put (hs .alc) (AlcRecord.setHeld_inRange (hs .alc p))

/-! ### Feed router (Chapter 7) -/

theorem setDuckActive_moves (j : Pod) (active : Bool) : Moves [.ducks, .duckRamps] s (s.setDuckActive j active) := by
  unfold State.setDuckActive
  split
  · exact .refl _ s
  · have flagged : Moves [.ducks, .duckRamps] s
        { s with router := { s.router with duckActive := Vec.put s.router.duckActive j active } } :=
      (moves_ducks s _ (fun hs => by exact hs .ducks) (by rfl)).wide (by decide)
    simp only
    split
    · exact flagged.trans ((onDuckRamp_moves (Ramp.keeping_setTarget (lin15_le _)) _ j).wide (by decide))
    · exact flagged.trans ((onDuckRamp_moves (Ramp.keeping_setTarget le_rfl) _ j).wide (by decide))

theorem judgeDucks_moves (before : State) : Moves [.ducks, .duckRamps] s (s.judgeDucks before) :=
  Moves.foldl (fun t j => setDuckActive_moves t j _) _ _

theorem setDuckDepth_moves {depth : Int} (h : -40 ≤ depth ∧ depth ≤ 0) :
    Moves [.ducks, .duckRamps] s (s.setDuckDepth depth) := by
  unfold State.setDuckDepth
  split
  · exact .refl _ s
  · refine ((moves_ducks s _ (fun _ => h) (by rfl)).wide (by decide)).trans (Moves.foldl (fun t j => ?_) _ _)
    split
    · exact (onDuckRamp_moves (Ramp.keeping_setTarget (lin15_le _)) t j).wide (by decide)
    · exact .refl _ t

theorem onFeeds_moves {f : Feeds → Feeds} (h : ∀ x : Feeds, x.Bounded → (f x).Bounded) : Moves [.feeds] s (s.onFeeds f) :=
  moves_feeds s _ fun hs => h _ (hs .feeds)

/-! ### Prompt players (Chapter 9) -/

@[simp] theorem player_setPlayer (n : Player) (r : PlayerRecord) (s : State) : (s.setPlayer n r).player n = r :=
  Vec.getElem_put_self _ _ _

/-- The parts that a player's work touches. -/
def playerParts : List Part := [.players, .store, .playerInputs, .playerRamps]

theorem onStore_moves (f : ClipStore → ClipStore) : Moves [.store] s (s.onStore f) := moves_store s _

theorem setPlayer_moves (n : Player) {r : PlayerRecord} (h : InRange s → r.InRange) : Moves [.players] s (s.setPlayer n r) :=
  moves_players s _ fun hs => Vec.forall_put (hs .players) (h hs)

theorem fadeOut_moves (n : Player) : Moves [.playerRamps] s (s.fadeOut n) :=
  onPlayerRamp_moves (Ramp.keeping_setTarget (Nat.zero_le _)) s n

theorem fadeIn_moves (n : Player) : Moves [.playerRamps] s (s.fadeIn n) :=
  onPlayerRamp_moves (Ramp.keeping_setTarget le_rfl) s n

theorem abortPlayer_moves (n : Player) (reason : DoneReason) :
    Moves [.players, .playerRamps] s (s.abortPlayer n reason) :=
  ((setPlayer_moves s n (r := { s.player n with state := .aborting, abortReason := some reason })
    fun hs => hs .players n).wide (by decide)).trans ((fadeOut_moves _ n).wide (by decide))

theorem PlayerRecord.reset_inRange : PlayerRecord.reset.InRange := by
  intro g hg
  cases hg

theorem playerIdle_moves (n : Player) (reason : DoneReason) : Moves [.players, .store] s (s.playerIdle n reason) :=
  (((onStore_moves s _).wide (by decide)).trans ((setPlayer_moves _ n fun _ => PlayerRecord.reset_inRange).wide (by decide))).trans
    ((moves_post _ _ _ _ (by decide)).wide (by decide))

theorem readPage_moves (n : Player) (c : ClipId) (pos : Nat) : Moves [.store] s (s.readPage n c pos).1 := by
  unfold State.readPage
  split
  · exact .refl _ s
  · split
    · exact .refl _ s
    · simp only [State.readFails]
      split
      · exact ((onStore_moves s _).trans (onStore_moves _ _)).trans ((moves_post _ _ _ _ (by decide)).wide (by decide))
      · exact onStore_moves s _

/-- The parts that a page visit touches. -/
def visitParts : List Part := [.players, .store, .playerRamps]

theorem faultVerdict_moves (n : Player) : Moves [.players, .playerRamps] s (s.faultVerdict n) := by
  unfold State.faultVerdict
  split
  · exact abortPlayer_moves s n _
  · exact .refl _ s

theorem visitPage_moves (n : Player) (g : Segment) : Moves visitParts s (s.visitPage n g) := by
  unfold State.visitPage State.enterPage
  split
  · exact .refl _ s
  · have marked (r : Option (Nat × Bool)) (t : State) :
        Moves visitParts t (t.setPlayer n { t.player n with page := r }) :=
      (setPlayer_moves t n (r := { t.player n with page := r }) fun hs => hs .players n).wide (by decide)
    simp only
    split
    · exact ((readPage_moves s n _ _).wide (by decide)).trans (marked _ _)
    · exact (((readPage_moves s n _ _).wide (by decide)).trans (marked _ _)).trans ((faultVerdict_moves _ n).wide (by decide))

theorem placeSlot_moves (n : Player) (i : Fin 16) {x : PlayerSlot} (h : InRange s → -120 ≤ x.gain ∧ x.gain ≤ 0) :
    Moves [.playerInputs] s (s.placeSlot n i x) :=
  moves_playerInputs s _ fun hs => by
    refine Vec.forall_put (P := fun v : Vector PlayerSlot 16 => ∀ i : Fin 16, -120 ≤ (v[i]).gain ∧ (v[i]).gain ≤ 0)
      (hs .playerInputs) ?_
    exact Vec.forall_put (P := fun y : PlayerSlot => -120 ≤ y.gain ∧ y.gain ≤ 0) (hs .playerInputs n) (h hs)

theorem endSegment_moves (n : Player) (g : Segment) : Moves playerParts s (s.endSegment n g) := by
  have reported : Moves playerParts s
      (s.post .player 0xE7 [playerByte n, u8 (s.player n).current, g.nextAction.code]) :=
    (moves_post s _ _ _ (by decide)).wide (by decide)
  have kept (t : State) (r : PlayerRecord) (h : InRange t → r.InRange) : Moves playerParts t (t.setPlayer n r) :=
    (setPlayer_moves t n h).wide (by decide)
  have same : ∀ t : State, t.players = s.players → InRange t → (s.player n).InRange := fun t ht hs => by
    have := hs .players n
    rwa [State.player, ht] at this
  unfold State.endSegment
  simp only
  split
  · exact reported.trans (kept _ _ (same _ (by simp)))
  · exact reported.trans (kept _ _ (same _ (by simp)))
  · exact reported.trans ((playerIdle_moves _ n _).wide (by decide))

theorem abortPlayer_cue (n : Player) (reason : DoneReason) :
    ((s.abortPlayer n reason).player n).cue = (s.player n).cue := by
  simp [State.abortPlayer, State.fadeOut, State.player, State.setPlayer]

theorem visitPage_cue (n : Player) (g : Segment) : ((s.visitPage n g).player n).cue = (s.player n).cue := by
  have hread (pos : Nat) : (s.readPage n g.clip pos).1.player n = s.player n := by
    have h := (readPage_moves s n g.clip pos).frame .players (by decide)
    rw [State.player, show (s.readPage n g.clip pos).1.players = s.players from h, State.player]
  unfold State.visitPage State.enterPage State.faultVerdict
  split
  · rfl
  · simp only
    split
    · rw [player_setPlayer]
      simp [hread]
    · split
      · rw [abortPlayer_cue, player_setPlayer]
        simp [hread]
      · rw [player_setPlayer]
        simp [hread]

theorem takeSample_moves (n : Player) {g : Segment} (i : Fin 16) (hg : g ∈ (s.player n).cue) :
    Moves playerParts s (s.takeSample n g i) := by
  have slot : Moves playerParts (s.visitPage n g)
      ((s.visitPage n g).placeSlot n i ((s.visitPage n g).slotNow n g)) :=
    (placeSlot_moves _ n i fun hs => hs .players n g (by rwa [visitPage_cue])).wide (by decide)
  have moved : Moves playerParts s (((s.visitPage n g).placeSlot n i ((s.visitPage n g).slotNow n g)).setPlayer n
      (((s.visitPage n g).player n).advance g)) :=
    (((visitPage_moves s n g).wide (by decide)).trans slot).trans ((setPlayer_moves _ n fun hs => by exact hs .players n).wide (by decide))
  unfold State.takeSample
  simp only
  split
  · exact moved.trans (endSegment_moves _ n g)
  · exact moved

theorem PlayerRecord.segment_mem {r : PlayerRecord} {g : Segment} (h : r.segment = some g) : g ∈ r.cue :=
  List.mem_of_getElem? h

theorem playPosition_moves (n : Player) (i : Fin 16) : Moves playerParts s (s.playPosition n i) := by
  have silent : Moves playerParts s (s.placeSlot n i PlayerSlot.none) :=
    (placeSlot_moves s n i fun _ => by simp [PlayerSlot.none]).wide (by decide)
  unfold State.playPosition
  split
  · split
    · rename_i g hg
      exact takeSample_moves s n i (PlayerRecord.segment_mem hg)
    · exact silent
  · exact silent

theorem playFrame_moves (n : Player) : Moves playerParts s (s.playFrame n) :=
  Moves.foldl (fun t i => playPosition_moves t n i) _ s

theorem playerArrival_moves (n : Player) : Moves [.players, .store] s (s.playerArrival n) := by
  unfold State.playerArrival
  split
  · exact (setPlayer_moves s n (r := { s.player n with advancing := false }) fun hs => hs .players n).wide (by decide)
  · exact playerIdle_moves s n _
  all_goals exact .refl _ s

theorem playerWork_moves (n : Player) (arrived : Bool) : Moves playerParts s (s.playerWork n arrived) := by
  refine Moves.trans (t := if arrived then s.playerArrival n else s) ?_ (playFrame_moves _ n)
  split
  · exact (playerArrival_moves s n).wide (by decide)
  · exact .refl _ s

theorem grantsToPlayers_moves (granted : List Pod) : Moves [.players, .playerRamps] s (State.grantsToPlayers granted s) := by
  unfold State.grantsToPlayers
  split
  · exact .refl _ s
  · refine Moves.foldl (fun t n => ?_) _ s
    unfold State.speechStop
    split
    · exact abortPlayer_moves t n _
    · exact .refl _ t

theorem mixerStop_moves (n : Player) : Moves visitParts s (s.mixerStop n) := by
  unfold State.mixerStop
  split
  · exact .refl _ s
  · exact .refl _ s
  · exact (playerIdle_moves s n _).wide (by decide)
  · exact (abortPlayer_moves s n _).wide (by decide)
  · split
    · exact (abortPlayer_moves s n _).wide (by decide)
    · exact (playerIdle_moves s n _).wide (by decide)

end

end Sys2Proof.Machine
end

section
/-! SUPPORT. The mix period boundary (R1): the ramps of a period, the order of the work, and what each work and the
boundary as a whole touch. -/

namespace Sys2Proof.Machine

/-! ### The ramps over a period (R23) -/

@[simp] theorem Vec.tab_getElem {α : Type} {n : Nat} (v : Vector α n) : (Vec.tab fun i => v[i]) = v := by
  ext i h
  simp

theorem Ramps.map_map (f g : Ramp → Ramp) (r : Ramps) : (r.map f).map g = r.map (g ∘ f) := by
  simp [Ramps.map]

theorem Ramps.map_id (r : Ramps) : r.map id = r := by
  simp only [Ramps.map, id, Vec.tab_getElem]

theorem movesOf_eq_map (n : Nat) (r : Ramps) : movesOf n r = r.map Ramp.move^[n] := by
  induction n generalizing r with
  | zero => exact (Ramps.map_id r).symm
  | succ n ih => rw [movesOf, ih, Ramps.map_map]; rfl

/-- The ramps after the positions of a list, one move for each. -/
theorem runPositions_ramps (v : InForce) (x : Inputs) (l : List (Fin 16)) (r : Ramps) :
    (runPositions v x l r).1 = movesOf l.length r := by
  induction l generalizing r with
  | nil => rfl
  | cons i rest ih => exact ih _

/-- The ramps as the work of a boundary finds them (R23, R25). -/
theorem closePeriod_clearArrivals_ramps (s : State) :
    s.closePeriod.clearArrivals.ramps = s.ramps.map (Ramp.passed s.inForce.isSome) := by
  unfold State.closePeriod State.clearArrivals
  split
  · rename_i h
    simp only [State.handOut, h]
    exact congrArg s.ramps.map (funext fun r => by simp [Ramp.passed])
  · rename_i v h
    simp only [State.handOut, h, runPositions_ramps, movesOf_eq_map, Ramps.map_map]
    exact congrArg s.ramps.map (funext fun r => by simp [Ramp.passed, Ramp.endPeriod, positions])

theorem Ramp.iterate_move_bounded {r : Ramp} (h : r.Bounded) (n : Nat) : (Ramp.move^[n] r).Bounded := by
  induction n with
  | zero => exact h
  | succ n ih =>
    rw [Function.iterate_succ_apply']
    exact Ramp.move_bounded ih

theorem Ramp.passed_bounded (b : Bool) : Ramp.Keeping (Ramp.passed b) := by
  intro r h
  have moved := Ramp.iterate_move_bounded h 16
  refine Ramp.clearArrival_bounded ?_
  split
  · exact Ramp.endPeriod_bounded moved
  · exact h

/-! ### The start of the boundary -/

/-- All ramps. -/
def rampParts : List Part :=
  [.gateRamps, .localMuteRamps, .privacyRamps, .duckRamps, .trunkMuteRamps, .playerRamps, .masterRamp]

/-- The same operation on every ramp keeps every ramp in its range where it does so for one. -/
theorem Ramps.map_inRange {f : Ramp → Ramp} (hf : Ramp.Keeping f) {s t : State} (ht : t.ramps = s.ramps.map f)
    (hs : InRange s) : ∀ q ∈ rampParts, q.inRange t := by
  intro q hq
  simp only [rampParts, List.mem_cons, List.not_mem_nil, or_false] at hq
  rcases hq with rfl | rfl | rfl | rfl | rfl | rfl | rfl <;> simp only [Part.inRange, ht, Ramps.map]
  · exact Vec.forall_tab fun p => hf _ (hs .gateRamps p)
  · exact Vec.forall_tab fun p => hf _ (hs .localMuteRamps p)
  · exact Vec.forall_tab fun p => hf _ (hs .privacyRamps p)
  · exact Vec.forall_tab fun p => hf _ (hs .duckRamps p)
  · exact Vec.forall_tab fun k => hf _ (hs .trunkMuteRamps k)
  · exact Vec.forall_tab fun n => hf _ (hs .playerRamps n)
  · exact hf _ (hs .masterRamp)

/-- The state that the first work of a boundary finds: the period ended and handed out, the arrivals received. -/
def State.begun (s : State) : State := s.closePeriod.clearArrivals

theorem begun_eq (s : State) :
    s.begun = { s with ramps := s.ramps.map (Ramp.passed s.inForce.isSome), outputs := s.closePeriod.outputs,
                       outputMeters := s.closePeriod.outputMeters } := by
  have h := closePeriod_clearArrivals_ramps s
  unfold State.begun
  rw [← h]
  unfold State.closePeriod State.handOut State.clearArrivals
  split <;> rfl

theorem begun_moves (s : State) : Moves (.outputs :: .outputMeters :: rampParts) s s.begun := by
  refine .of_frame (fun q hq => ?_) fun hs q hq => ?_
  · rw [begun_eq]
    cases q <;> simp [Part.kept, Posts.none, rampParts] at hq ⊢
  · rcases List.mem_cons.1 hq with rfl | hq
    · trivial
    · rcases List.mem_cons.1 hq with rfl | hq
      · trivial
      · exact Ramps.map_inRange (Ramp.passed_bounded _) (by rw [begun_eq]) hs q hq

/-! ### The order of the work (log entry 3) -/

theorem mem_keepFirst {w : Work} {l : List Work} : w ∈ keepFirst l ↔ w ∈ l := by
  induction l with
  | nil => rfl
  | cons v rest ih =>
    simp only [keepFirst, List.mem_cons, List.mem_filter, ih, decide_eq_true_eq]
    by_cases h : w = v <;> simp [h]

theorem nodup_keepFirst (l : List Work) : (keepFirst l).Nodup := by
  induction l with
  | nil => exact List.nodup_nil
  | cons v rest ih =>
    refine List.nodup_cons.2 ⟨?_, ih.filter _⟩
    simp

theorem keysAfterTakes_perm (l : List Work) : (keysAfterTakes l).Perm (.keys :: l) := by
  induction l with
  | nil => exact .refl _
  | cons w rest ih =>
    unfold keysAfterTakes
    split
    · exact (ih.cons w).trans (.swap _ _ _)
    · exact .refl _

theorem deferKeys_perm (l : List Work) : (deferKeys l).Perm l := by
  induction l with
  | nil => exact .refl _
  | cons w rest ih =>
    cases w with
    | keys => exact keysAfterTakes_perm rest
    | _ => exact ih.cons _

theorem nodup_schedule (order : List Work) : (schedule order).Nodup :=
  (deferKeys_perm _).nodup_iff.2 (nodup_keepFirst _)

theorem mem_defaultOrder (w : Work) : w ∈ defaultOrder := by
  cases w with
  | take p => exact List.mem_append_left _ (List.mem_map_of_mem (mem_allPods p))
  | player n => revert n; decide
  | _ => decide

theorem mem_schedule (w : Work) (order : List Work) : w ∈ schedule order := by
  rw [schedule, (deferKeys_perm _).mem_iff, mem_keepFirst]
  exact List.mem_append_right _ (mem_defaultOrder w)

/-- Every work is done once at a boundary. -/
theorem schedule_split (w : Work) (order : List Work) :
    ∃ l₁ l₂ : List Work, schedule order = l₁ ++ w :: l₂ ∧ w ∉ l₁ ∧ w ∉ l₂ := by
  obtain ⟨l₁, l₂, h⟩ := List.append_of_mem (mem_schedule w order)
  have hn := nodup_schedule order
  rw [h, List.nodup_middle, List.nodup_cons, List.mem_append, not_or] at hn
  exact ⟨l₁, l₂, h, hn.1⟩

/-! ### What each work touches -/

theorem setMixer_moves (st : MixerState) (cause : MixerCause) (s : State) :
    Moves [.mixer, .mixerReports] s (s.setMixer st cause) :=
  ((moves_mixer s st).wide (by decide)).trans ((moves_postMixer _ _).wide (by decide))

theorem masterArrival_moves (s : State) : Moves [.mixer, .mixerReports] s s.masterArrival := by
  unfold State.masterArrival
  split
  · exact setMixer_moves _ _ s
  · exact .refl _ s

/-- The parts that a work touches. -/
def partsOf : Work → List Part
  | .take _ => .podInputs :: linkParts
  | .keys => muteParts
  | .automixer => [.automixer, .gateRamps, .players, .playerRamps]
  | .player _ => playerParts
  | .levelControl => [.alc]
  | .session => [.mixer, .mixerReports]

theorem automixerWork_moves (s : State) : Moves (partsOf .automixer) s s.automixerWork := by
  unfold State.automixerWork
  have mixed : Moves (partsOf .automixer) s s.automix.1 := (automix_moves s).wide (by decide)
  exact mixed.trans ((grantsToPlayers_moves _ _).wide (by decide))

theorem take_moves (p : Pod) (g : Progress) : Moves (.podInputs :: linkParts) g.state (g.take p).state := by
  have moved : Moves (.podInputs :: linkParts) g.state (g.state.linkBoundary p) := (linkBoundary_moves _ p).wide (by decide)
  exact moved.trans ((moves_podInputs _ _).wide (by decide))

section
variable (before : State) (a : Arrivals) (g : Progress)

@[simp] theorem work_take (p : Pod) : g.work before a (.take p) = g.take p := rfl

@[simp] theorem work_keys : (g.work before a .keys).state = g.state.ageKeys.takeKeys g.keys := by
  simp only [Progress.work, Progress.onState]

@[simp] theorem work_automixer : (g.work before a .automixer).state = g.state.automixerWork := by
  simp only [Progress.work, Progress.onState]

@[simp] theorem work_player (n : Player) : (g.work before a (.player n)).state = g.state.playerWork n a.players[n] := by
  simp only [Progress.work, Progress.onState]

@[simp] theorem work_levelControl : (g.work before a .levelControl).state = g.state.levelControl before := by
  simp only [Progress.work, Progress.onState]

@[simp] theorem work_session :
    (g.work before a .session).state = if a.master then g.state.masterArrival else g.state := by
  simp only [Progress.work, Progress.onState]

theorem work_moves (w : Work) : Moves (partsOf w) g.state (g.work before a w).state := by
  cases w with
  | take p =>
    rw [work_take]
    exact take_moves p g
  | keys =>
    rw [work_keys]
    exact ((ageKeys_moves _).wide (by decide)).trans (takeKeys_moves _ _)
  | automixer =>
    rw [work_automixer]
    exact automixerWork_moves g.state
  | player n =>
    rw [work_player]
    exact playerWork_moves _ n _
  | levelControl =>
    rw [work_levelControl]
    exact levelControl_moves _ before
  | session =>
    rw [work_session]
    split
    · exact masterArrival_moves _
    · exact .refl _ _

end

section
variable (before : State) (a : Arrivals) (g : Progress) (l : List Work)

/-- A part that no work of a list touches is left alone by them all. -/
theorem works_kept {q : Part} (h : ∀ w ∈ l, q ∉ partsOf w) :
    q.kept g.state (l.foldl (Progress.work before a) g).state := by
  induction l generalizing g with
  | nil => exact q.kept_refl _
  | cons w rest ih =>
    exact Part.kept_trans ((work_moves before a g w).frame q (h w (by simp)))
      (ih _ fun v hv => h v (List.mem_cons_of_mem w hv))

theorem works_ranges (h : InRange g.state) : InRange (l.foldl (Progress.work before a) g).state := by
  induction l generalizing g with
  | nil => exact h
  | cons w rest ih => exact ih _ ((work_moves before a g w).ranges h)

end

/-- The parts that some work of a boundary touches. -/
def workParts : List Part :=
  [.podInputs, .links, .mutes, .localMuteRamps, .automixer, .gateRamps, .players, .playerRamps, .store, .playerInputs,
    .alc, .mixer, .mixerReports]

theorem partsOf_subset (w : Work) : ∀ q ∈ partsOf w, q ∈ workParts := by
  cases w <;> simp only [partsOf] <;> decide

theorem works_moves (before : State) (a : Arrivals) (g : Progress) (l : List Work) :
    Moves workParts g.state (l.foldl (Progress.work before a) g).state :=
  ⟨fun _ hq => works_kept before a g l fun w _ hw => hq (partsOf_subset w _ hw), works_ranges before a g l⟩

/-- The state after the work of a boundary. -/
def State.worked (order : List Work) (s : State) : State := State.boundaryWork order s s.closePeriod

theorem worked_moves (order : List Work) (s : State) : Moves workParts s.begun (s.worked order) :=
  works_moves s _ { state := s.begun, keys := _ } _

/-! ### The end of the boundary -/

/-- The state that the new period is opened from. -/
def State.ready (order : List Work) (trunks : Vector Frame 4) (s : State) : State :=
  (((((s.worked order).judgeDucks s).placeTrunks trunks).measureAll).giveLeds s).sendFeeds

theorem boundary_eq (order : List Work) (trunks : Vector Frame 4) (s : State) :
    s.boundary order trunks = (s.ready order trunks).openPeriod := rfl

theorem sendFeeds_moves (s : State) : Moves [.feedFrames, .links] s s.sendFeeds := by
  refine .of_frame (fun q hq => ?_) fun hs q hq => ?_
  · cases q <;> simp [Part.kept, Posts.none, State.sendFeeds] at hq ⊢
  · rcases List.mem_pair.1 hq with rfl | rfl
    · trivial
    · refine Vec.forall_tab (P := Link.InRange) fun p => ?_
      split <;> exact hs .links p

theorem openPeriod_ramps (s : State) : s.openPeriod.ramps = s.ramps.map Ramp.comeInForce := rfl

theorem openPeriod_moves (s : State) : Moves (.inForce :: rampParts) s s.openPeriod := by
  refine .of_frame (fun q hq => ?_) fun hs q hq => ?_
  · cases q <;> simp [Part.kept, Posts.none, State.openPeriod, rampParts] at hq ⊢
  · rcases List.mem_cons.1 hq with rfl | hq
    · intro v hv
      cases hv
      exact hs .feeds
    · exact Ramps.map_inRange (fun _ h => Ramp.comeInForce_bounded h) rfl hs q hq

/-- The parts that a boundary touches once its work is done, up to the opening of the new period. -/
def finishParts : List Part := [.ducks, .duckRamps, .trunkInputs, .detectors, .mutes, .feedFrames, .links]

theorem ready_moves (order : List Work) (trunks : Vector Frame 4) (s : State) :
    Moves finishParts (s.worked order) (s.ready order trunks) := by
  have ducked : Moves finishParts (s.worked order) ((s.worked order).judgeDucks s) := (judgeDucks_moves _ s).wide (by decide)
  have placed : Moves finishParts _ (((s.worked order).judgeDucks s).placeTrunks trunks) :=
    ducked.trans ((moves_trunkInputs _ _).wide (by decide))
  have measured : Moves finishParts _ (((s.worked order).judgeDucks s).placeTrunks trunks).measureAll :=
    placed.trans ((moves_detectors _ _).wide (by decide))
  exact (measured.trans ((moves_mutes _ _).wide (by decide))).trans ((sendFeeds_moves _).wide (by decide))

/-- A part that neither the work nor the end of a boundary touches. -/
theorem boundary_kept (order : List Work) (trunks : Vector Frame 4) (s : State) {q : Part}
    (h : q ∉ workParts ++ finishParts ++ .inForce :: rampParts) :
    q.kept s.begun (s.boundary order trunks) := by
  simp only [List.mem_append, not_or] at h
  exact Part.kept_trans (Part.kept_trans ((worked_moves order s).frame q h.1.1) ((ready_moves order trunks s).frame q h.1.2))
    ((openPeriod_moves _).frame q h.2)

theorem boundary_inRange {order : List Work} {trunks : Vector Frame 4} {s : State} (h : InRange s) :
    InRange (s.boundary order trunks) :=
  (openPeriod_moves _).ranges ((ready_moves order trunks s).ranges ((worked_moves order s).ranges ((begun_moves s).ranges h)))

/-! ### The master ramp and the mixer state at a boundary (R23, R25, R179) -/

theorem boundary_master (order : List Work) (trunks : Vector Frame 4) (s : State) :
    (s.boundary order trunks).ramps.master = (s.ramps.master.passed s.inForce.isSome).comeInForce := by
  have h : Part.masterRamp.kept s.begun (s.ready order trunks) :=
    Part.kept_trans ((worked_moves order s).frame .masterRamp (by decide))
      ((ready_moves order trunks s).frame .masterRamp (by decide))
  rw [boundary_eq, openPeriod_ramps]
  simp only [Ramps.map]
  rw [show (s.ready order trunks).ramps.master = s.begun.ramps.master from h, begun_eq]
  simp only [Ramps.map]

/-- The master ramp as the last period left it, before its arrival is received. -/
def State.closedMaster (s : State) : Ramp := s.closePeriod.ramps.master

/-- The mixer state after the session controller's work at a boundary. -/
def State.mixerNext (s : State) : MixerState :=
  if s.closedMaster.arrives then (s.session.mixer.onArrival s.closedMaster.target).getD s.session.mixer
  else s.session.mixer

theorem begun_master (s : State) : s.begun.ramps.master = s.closedMaster.clearArrival := rfl

theorem Ramp.clearArrival_target (r : Ramp) : r.clearArrival.target = r.target := by
  unfold Ramp.clearArrival
  split <;> rfl

theorem masterArrival_mixer (s : State) :
    s.masterArrival.session.mixer = (s.session.mixer.onArrival s.ramps.master.target).getD s.session.mixer := by
  unfold State.masterArrival
  split
  · rename_i st h
    simp [State.setMixer, h]
  · rename_i h
    simp [h]

/-- The session controller's work is the one that touches the mixer state. -/
theorem mixer_notMem_partsOf {w : Work} (h : w ≠ .session) : .mixer ∉ partsOf w ∧ .mixerReports ∉ partsOf w := by
  cases w with
  | session => contradiction
  | _ => simp only [partsOf]; decide

theorem boundary_mixer (order : List Work) (trunks : Vector Frame 4) (s : State) :
    (s.boundary order trunks).session.mixer = s.mixerNext := by
  have hend : Part.mixer.kept (s.worked order) (s.boundary order trunks) :=
    Part.kept_trans ((ready_moves order trunks s).frame .mixer (by decide)) ((openPeriod_moves _).frame .mixer (by decide))
  rw [show (s.boundary order trunks).session.mixer = (s.worked order).session.mixer from hend]
  obtain ⟨l₁, l₂, hsched, h₁, h₂⟩ := schedule_split .session order
  have noMixer {l : List Work} (h : Work.session ∉ l) : ∀ w ∈ l, Part.mixer ∉ partsOf w :=
    fun w hw => (mixer_notMem_partsOf fun he => h (he ▸ hw)).1
  unfold State.worked State.boundaryWork
  rw [hsched, List.foldl_append, List.foldl_cons]
  generalize hg : l₁.foldl (Progress.work s s.closePeriod.ramps.arrivals) _ = g
  have hmixer : g.state.session.mixer = s.session.mixer := by
    rw [← hg]
    exact (works_kept _ _ { state := s.begun, keys := _ } l₁ (noMixer h₁)).trans (by rw [begun_eq])
  have hmaster : g.state.ramps.master = s.closedMaster.clearArrival := by
    rw [← hg, ← begun_master]
    exact (works_moves _ _ { state := s.begun, keys := _ } l₁).frame .masterRamp (by decide)
  refine (works_kept _ _ _ l₂ (q := .mixer) (noMixer h₂)).trans ?_
  rw [work_session]
  change (if s.closedMaster.arrives then g.state.masterArrival else g.state).session.mixer = s.mixerNext
  unfold State.mixerNext
  split
  · rw [masterArrival_mixer, hmixer, hmaster, Ramp.clearArrival_target]
  · exact hmixer

/-! ### A STOPPED mixer (R176) -/

/-- A ramp at rest at 0 with nothing pending. -/
abbrev Ramp.Still (r : Ramp) : Prop :=
  r.value = 0 ∧ r.target = 0 ∧ r.pendingTarget = none ∧ r.pendingJump = none

theorem Ramp.move_still {r : Ramp} (h : r.Still) : r.move = r := by
  obtain ⟨hv, ht, -⟩ := h
  unfold Ramp.move
  rw [if_neg (by omega), hv, ht]
  cases r
  simp_all

theorem Ramp.iterate_move_still {r : Ramp} (h : r.Still) (n : Nat) : Ramp.move^[n] r = r :=
  Function.iterate_fixed (Ramp.move_still h) n

theorem Ramp.clearArrival_still {r : Ramp} (h : r.Still) : r.clearArrival.Still := by
  unfold Ramp.clearArrival
  split
  · exact h
  · exact h

theorem Ramp.passed_still {r : Ramp} (b : Bool) (h : r.Still) : (r.passed b).Still := by
  unfold Ramp.passed
  refine Ramp.clearArrival_still ?_
  rw [Ramp.iterate_move_still h]
  split
  · exact h
  · exact h

theorem Ramp.comeInForce_still {r : Ramp} (h : r.Still) : r.comeInForce.Still := by
  obtain ⟨hv, ht, hp, hj⟩ := h
  have : r.comeInForce = r := by simp [Ramp.comeInForce, Ramp.takeJump, Ramp.takeTarget, hp, hj]
  rw [this]
  exact ⟨hv, ht, hp, hj⟩

theorem Ramp.arrives_iff (r : Ramp) :
    r.arrives = true ↔ r.arrivalPending = true ∧ r.pendingTarget = none ∧ r.pendingJump = none ∧ r.value = r.target := by
  simp [Ramp.arrives, and_assoc]

/-- A ramp that has arrived at 0 is still. -/
theorem Ramp.still_of_arrives {r : Ramp} (h : r.arrives = true) (h0 : r.target = 0) : r.Still := by
  obtain ⟨-, hp, hj, hv⟩ := (Ramp.arrives_iff r).1 h
  exact ⟨hv.trans h0, h0, hp, hj⟩

theorem MixerState.onArrival_ne_stopped {m : MixerState} {target : Nat} (hm : m ≠ .stopped) (h0 : target ≠ 0) :
    (m.onArrival target).getD m ≠ .stopped := by
  cases m with
  | stopped => contradiction
  | starting =>
    simp only [onArrival]
    split <;> simp
  | running => simp [onArrival]
  | stopping => simp [onArrival, h0]

theorem stoppedAtZero_boundary (order : List Work) (trunks : Vector Frame 4) {s : State} (h : StoppedAtZero s) :
    StoppedAtZero (s.boundary order trunks) := by
  intro hstop
  rw [boundary_mixer] at hstop
  have hbegun : s.begun.ramps.master = s.ramps.master.passed s.inForce.isSome := by rw [begun_eq]; simp only [Ramps.map]
  suffices hstill : s.begun.ramps.master.Still by
    rw [boundary_master, ← hbegun]
    exact Ramp.comeInForce_still hstill
  unfold State.mixerNext at hstop
  by_cases hs : s.session.mixer = .stopped
  · rw [hbegun]
    exact Ramp.passed_still _ (h hs)
  · split at hstop
    · rename_i ha
      have h0 : s.closedMaster.target = 0 := by
        by_contra h0
        exact MixerState.onArrival_ne_stopped hs h0 hstop
      rw [begun_master]
      exact Ramp.clearArrival_still (Ramp.still_of_arrives ha h0)
    · exact absurd hstop hs

end Sys2Proof.Machine
end

section
/-! SUPPORT. Every command: it leaves the waiting commands alone, keeps every part in its range and keeps a STOPPED
mixer's master ramp at 0. -/

namespace Sys2Proof.Machine

/-- What every command does, whatever else: it leaves the waiting commands alone, keeps the ranges, and keeps the master
ramp of a STOPPED mixer still. -/
structure Completes (s t : State) : Prop where
  pending : t.pending = s.pending
  ranges : InRange s → InRange t
  stopped : StoppedAtZero s → StoppedAtZero t

theorem Completes.refl (s : State) : Completes s s := ⟨rfl, id, id⟩

theorem Completes.trans {s t u : State} (h : Completes s t) (k : Completes t u) : Completes s u :=
  ⟨k.pending.trans h.pending, fun hs => k.ranges (h.ranges hs), fun hs => k.stopped (h.stopped hs)⟩

/-- An operation that leaves the commands, the mixer state and the master ramp alone. -/
theorem Moves.completes {A : List Part} {s t : State} (h : Moves A s t)
    (hA : .pending ∉ A ∧ .mixer ∉ A ∧ .masterRamp ∉ A) : Completes s t := by
  obtain ⟨hpending, hmixer, hmaster⟩ := hA
  refine ⟨h.frame .pending hpending, h.ranges, fun hs hstop => ?_⟩
  rw [show t.ramps.master = s.ramps.master from h.frame .masterRamp hmaster]
  exact hs ((show t.session.mixer = s.session.mixer from h.frame .mixer hmixer).symm.trans hstop)

/-! ### Requests (R193) -/

/-- The effect that a verdict gives a request completes. -/
def Verdict.Completes (v : Verdict) : Prop := ∀ u : State, Machine.Completes u (v.effect u)

theorem Verdict.refuse_completes (st : Status) : (Verdict.refuse st).Completes := .refl

theorem Verdict.answer_completes (st : Status) (l : List Byte) : (Verdict.answer st l).Completes := .refl

theorem queueAnswer_moves (ty tag : Byte) (st : Status) (l : List Byte) {s : State}
    (h : answerCount s.control.queue < 8) : Moves [.control, .mixerReports] s (s.queueAnswer ty tag st l) :=
  moves_control s _ fun hs => by
    have hr := (hs .control).2
    simp only [answerCount, reportCount, List.filter_append, List.length_append] at *
    simp
    omega

theorem takeRequest_completes (ty tag : Byte) (n : Nat) {judge : State → Verdict} (s : State)
    (h : ∀ u, (judge u).Completes) : Completes s (takeRequest ty tag n judge s) := by
  have hunted : Completes s s.hunt := (hunt_moves s).completes (by decide)
  rcases takeRequest_cases ty tag n judge s with ⟨_, h₁⟩ | ⟨_, h₁⟩ | ⟨ht, h₁⟩ <;> rw [h₁]
  · exact .refl s
  · exact hunted.trans ((controlError_moves _ _ _ _ _).completes (by decide))
  · exact (hunted.trans ((queueAnswer_moves (s := s.hunt) _ _ _ _ ht.2).completes (by decide))).trans (h _ _)

section
variable (v : State)

theorem judgeSetAlc_completes (a b c d e f g h i : Byte) : (judgeSetAlc a b c d e f g h i v).Completes := by
  unfold judgeSetAlc
  split
  · exact fun u => (takeAlcParams_moves u _).completes (by decide)
  · exact .refl

theorem judgeHoldAlc_completes (a b : Byte) : (judgeHoldAlc a b v).Completes := by
  unfold judgeHoldAlc
  split
  · exact fun u => (holdAlc_moves u _ _).completes (by decide)
  · exact .refl

theorem judgeGetLevels_completes (a b : Byte) : (judgeGetLevels a b v).Completes := by
  unfold judgeGetLevels
  split
  · exact fun u => (moves_detectors u _).completes (by decide)
  · exact .refl

theorem judgeGetOutputLevels_completes (a b : Byte) : (judgeGetOutputLevels a b v).Completes := by
  unfold judgeGetOutputLevels
  split
  · exact fun u => (moves_outputMeters u _).completes (by decide)
  · exact .refl

theorem judgeSetAutomix_completes (a b c d : Byte) (e : BitVec 16) (f g h i : Byte) :
    (judgeSetAutomix a b c d e f g h i v).Completes := by
  unfold judgeSetAutomix
  split
  · exact .refl
  · exact fun u => (moves_automixer u _).completes (by decide)

theorem judgeSetGate_completes (a b c : Byte) : (judgeSetGate a b c v).Completes := by
  unfold judgeSetGate
  split
  · split
    · exact fun u => ((setPriority_moves _ u _).completes (by decide)).trans ((applyGateMode_moves _ _ _).completes (by decide))
    · exact .refl
  · exact .refl

theorem judgeSetLinkParams_completes (a : Byte) (b : BitVec 16) (c d : Byte) :
    (judgeSetLinkParams a b c d v).Completes :=
  fun u => (moves_linkParams u _).completes (by decide)

theorem judgeGetLinks_completes (a b c : Byte) : (judgeGetLinks a b c v).Completes := by
  unfold judgeGetLinks
  split
  · simp only
    split
    · intro u
      refine (moves_links u _ fun hs => Vec.forall_tab fun p => ?_).completes (by decide)
      have h := hs .links p
      split
      · exact ⟨h.1, by simp, by simp⟩
      · exact h
    · exact .refl
  · exact .refl

theorem judgeSetMute_completes (a b : Byte) : (judgeSetMute a b v).Completes := by
  unfold judgeSetMute
  split
  · exact .refl
  · split
    · exact fun u => (setHost_moves _ u _).completes (by decide)
    · exact fun u => (setTrunkHost_moves u _ _).completes (by decide)
    · exact .refl

theorem judgeClearReasons_completes (a b : Byte) : (judgeClearReasons a b v).Completes := by
  unfold judgeClearReasons
  split
  · exact .refl
  · split
    · exact .refl
    · split
      · exact .refl
      · exact fun u => (clearReasons_moves u _ _).completes (by decide)

theorem judgeSetPrivacy_completes (a : Byte) : (judgeSetPrivacy a v).Completes := by
  unfold judgeSetPrivacy
  split
  · exact .refl
  · exact fun u => (setPrivacy_moves u _).completes (by decide)

theorem judgeSetChairMute_completes (a : Byte) : (judgeSetChairMute a v).Completes := by
  unfold judgeSetChairMute
  split
  · exact .refl
  · exact fun u => (setChairMute_moves u _).completes (by decide)

theorem judgeSetKeyMode_completes (a b : Byte) : (judgeSetKeyMode a b v).Completes := by
  unfold judgeSetKeyMode
  split
  · exact fun u => (setKeyMode_moves u _ _).completes (by decide)
  · exact .refl

theorem judgeSetKeyGuard_completes (a : Byte) : (judgeSetKeyGuard a v).Completes := fun u => (moves_mutes u _).completes (by decide)

theorem judgeSetMuteRamp_completes (a : Byte) : (judgeSetMuteRamp a v).Completes := fun u => (moves_mutes u _).completes (by decide)

/-! ### The feed router's settings (R132, R136 to R140) -/

theorem Feeds.setZone_bounded {f : Feeds} {p : Pod} {n : Nat} (hn : n ≤ 8) (h : f.Bounded) :
    Feeds.Bounded { f with zone := Vec.put f.zone p n } :=
  ⟨fun q => ⟨Vec.forall_put (P := (· ≤ 8)) (fun j => (h.1 j).1) hn q, (h.1 q).2⟩, h.2⟩

theorem Feeds.setPodFader_bounded {f : Feeds} {p : Pod} {g : Int} (hg : -120 ≤ g ∧ g ≤ 24) (h : f.Bounded) :
    Feeds.Bounded { f with podFader := Vec.put f.podFader p g } :=
  ⟨fun q => ⟨(h.1 q).1, Vec.forall_put (P := fun x : Int => -120 ≤ x ∧ x ≤ 24) (fun j => (h.1 j).2.1) hg q, (h.1 q).2.2⟩,
    h.2⟩

theorem Feeds.setVolume_bounded {f : Feeds} {p : Pod} {g : Int} (hg : -120 ≤ g ∧ g ≤ 0) (h : f.Bounded) :
    Feeds.Bounded { f with volume := Vec.put f.volume p g } :=
  ⟨fun q => ⟨(h.1 q).1, (h.1 q).2.1, Vec.forall_put (P := fun x : Int => -120 ≤ x ∧ x ≤ 0) (fun j => (h.1 j).2.2) hg q⟩,
    h.2⟩

theorem Feeds.setTrunkFader_bounded {f : Feeds} {k : Trunk} {g : Int} (hg : -120 ≤ g ∧ g ≤ 24) (h : f.Bounded) :
    Feeds.Bounded { f with trunkFader := Vec.put f.trunkFader k g } :=
  ⟨h.1, fun j => ⟨Vec.forall_put (P := fun x : Int => -120 ≤ x ∧ x ≤ 24) (fun j => (h.2.1 j).1) hg j, (h.2.1 j).2⟩, h.2.2⟩

theorem Feeds.setSendGain_bounded {f : Feeds} {k : Trunk} {g : Int} (hg : -120 ≤ g ∧ g ≤ 0) (h : f.Bounded) :
    Feeds.Bounded { f with sendGain := Vec.put f.sendGain k g } :=
  ⟨h.1, fun j => ⟨(h.2.1 j).1, Vec.forall_put (P := fun x : Int => -120 ≤ x ∧ x ≤ 0) (fun j => (h.2.1 j).2) hg j⟩, h.2.2⟩

theorem Feeds.setRecord_bounded {f : Feeds} {b : RecordBus} {r : RecordSetting} (hr : -120 ≤ r.gain ∧ r.gain ≤ 0)
    (h : f.Bounded) : Feeds.Bounded { f with record := Vec.put f.record b r } :=
  ⟨h.1, h.2.1, Vec.forall_put (P := fun x : RecordSetting => -120 ≤ x.gain ∧ x.gain ≤ 0) h.2.2 hr⟩

theorem judgeSetZone_completes (a b : Byte) : (judgeSetZone a b v).Completes := by
  unfold judgeSetZone
  split
  · exact .refl
  · split
    · rename_i hz
      exact fun u => (onFeeds_moves u fun _ h => Feeds.setZone_bounded hz h).completes (by decide)
    · exact .refl

theorem judgeSetDuck_completes (a : Byte) : (judgeSetDuck a v).Completes :=
  fun u => (setDuckDepth_moves u (clampInt_mem (-40) 0 _ (by omega))).completes (by decide)

theorem gainVerdict_completes (number : Byte) {lo hi : Int} (hle : lo ≤ hi) (asked : Byte) {set : Int → Feeds → Feeds}
    (h : ∀ (g : Int) (f : Feeds), lo ≤ g ∧ g ≤ hi → f.Bounded → (set g f).Bounded) :
    (gainVerdict number lo hi asked set).Completes :=
  fun u => (onFeeds_moves u fun _ hf => h _ _ (clampInt_mem lo hi _ hle) hf).completes (by decide)

theorem judgeSetFader_completes (a b : Byte) : (judgeSetFader a b v).Completes := by
  unfold judgeSetFader
  split
  · exact gainVerdict_completes _ (by omega) _ fun _ _ => Feeds.setPodFader_bounded
  · exact gainVerdict_completes _ (by omega) _ fun _ _ => Feeds.setTrunkFader_bounded
  · exact .refl

theorem judgeSetVolume_completes (a b : Byte) : (judgeSetVolume a b v).Completes := by
  unfold judgeSetVolume
  split
  · exact gainVerdict_completes _ (by omega) _ fun _ _ => Feeds.setVolume_bounded
  · exact .refl

theorem judgeSetSendGain_completes (a b : Byte) : (judgeSetSendGain a b v).Completes := by
  unfold judgeSetSendGain
  split
  · exact gainVerdict_completes _ (by omega) _ fun _ _ => Feeds.setSendGain_bounded
  · exact .refl

theorem recordSettingOf_gain {b : Byte} {g : Int} {r : RecordSetting} (h : recordSettingOf b g = some r) : r.gain = g := by
  unfold recordSettingOf at h
  split at h
  · cases h
    rfl
  · cases h

theorem judgeSetRecord_completes (a b c : Byte) : (judgeSetRecord a b c v).Completes := by
  unfold judgeSetRecord
  simp only
  split
  · rename_i r _ hr
    have hg : -120 ≤ r.gain ∧ r.gain ≤ 0 := by
      rw [recordSettingOf_gain hr]
      exact clampInt_mem (-120) 0 _ (by omega)
    exact fun u => (onFeeds_moves u fun _ h => Feeds.setRecord_bounded hg h).completes (by decide)
  · exact .refl

/-! ### Clips and players (Chapters 8, 9) -/

theorem judgeClipBegin_completes (a : Byte) (b : BitVec 24) : (judgeClipBegin a b v).Completes := by
  unfold judgeClipBegin
  split
  · exact .refl
  · split
    · exact .refl
    · split
      · exact .refl
      · split
        · exact .refl
        · split
          · exact .refl
          · exact fun u => (onStore_moves u _).completes (by decide)

theorem judgeClipData_completes (a : Byte) (b : BitVec 24) (l : List Sample) : (judgeClipData a b l v).Completes := by
  unfold judgeClipData judgeChunk
  split
  · exact .refl
  · simp only
    split
    · exact .refl
    · split
      · exact .refl
      · split
        · exact .refl
        · split
          · exact .refl
          · exact fun u => (onStore_moves u _).completes (by decide)

theorem judgeClipEnd_completes (a : Byte) : (judgeClipEnd a v).Completes := by
  unfold judgeClipEnd
  split
  · exact .refl
  · simp only
    split
    · exact .refl
    · split
      · exact fun u => (onStore_moves u _).completes (by decide)
      · exact .refl

theorem judgeClipDelete_completes (a : Byte) : (judgeClipDelete a v).Completes := by
  unfold judgeClipDelete
  split
  · exact .refl
  · simp only
    split
    · exact .refl
    · split
      · exact .refl
      · exact fun u => (onStore_moves u _).completes (by decide)

theorem judgeGetClips_completes (a b : Byte) : (judgeGetClips a b v).Completes := by
  unfold judgeGetClips
  split
  · exact .refl
  · exact .refl

/-- R161: a segment's gain is taken clamped. -/
theorem cueTaken_gain {x : SegmentFields} {g : Segment} (h : cueTaken x = some g) : -120 ≤ g.gain ∧ g.gain ≤ 0 := by
  unfold cueTaken at h
  split at h
  · cases h
    exact clampInt_mem (-120) 0 _ (by omega)
  · cases h

theorem cueVerdict_completes (n : Player) (r : Routing) (o : Byte) (l : List SegmentFields) :
    (cueVerdict n r o l).Completes := by
  intro u
  refine ((onStore_moves u _).completes (by decide)).trans ((setPlayer_moves _ n fun _ g hg => ?_).completes (by decide))
  obtain ⟨x, _, hx⟩ := List.mem_filterMap.1 hg
  exact cueTaken_gain hx

theorem judgeCue_completes (a b c : Byte) (l : List SegmentFields) : (judgeCue a b c l v).Completes := by
  unfold judgeCue
  split
  · exact .refl
  · split
    · exact .refl
    · split
      · exact .refl
      · split
        · split
          · exact .refl
          · exact cueVerdict_completes _ _ _ _
        · exact .refl

/-- A player's record written with its cue list as it is. -/
theorem setPlayer_sameCue_moves (u : State) (n : Player) {r : PlayerRecord} (h : r.cue = (u.player n).cue) :
    Moves [.players] u (u.setPlayer n r) :=
  setPlayer_moves u n fun hs g hg => hs .players n g (h ▸ hg)

theorem judgeGo_completes (a : Byte) : (judgeGo a v).Completes := by
  unfold judgeGo
  split
  · exact .refl
  · split
    · exact .refl
    · split
      · intro u
        exact (((setPlayer_sameCue_moves u _ (by rfl)).completes (by decide)).trans
          ((onPlayerRamp_moves Ramp.keeping_jump_zero _ _).completes (by decide))).trans ((fadeIn_moves _ _).completes (by decide))
      · exact .refl

theorem judgePause_completes (a : Byte) : (judgePause a v).Completes := by
  unfold judgePause
  split
  · exact .refl
  · split
    · exact fun u => ((setPlayer_sameCue_moves u _ (by rfl)).completes (by decide)).trans ((fadeOut_moves _ _).completes (by decide))
    · exact .refl

theorem judgeResume_completes (a : Byte) : (judgeResume a v).Completes := by
  unfold judgeResume
  split
  · exact .refl
  · split
    · exact fun u => ((setPlayer_sameCue_moves u _ (by rfl)).completes (by decide)).trans ((fadeIn_moves _ _).completes (by decide))
    · exact .refl

theorem judgeAbort_completes (a : Byte) : (judgeAbort a v).Completes := by
  unfold judgeAbort
  split
  · exact .refl
  · split
    · exact .refl
    · exact fun u => (playerIdle_moves u _ _).completes (by decide)
    · exact fun u => (playerIdle_moves u _ _).completes (by decide)
    · exact fun u => (abortPlayer_moves u _ _).completes (by decide)
    · exact .refl

theorem judgeGetPlayer_completes (a : Byte) : (judgeGetPlayer a v).Completes := by
  unfold judgeGetPlayer
  split
  · exact .refl
  · exact .refl

/-! ### The session controller (Chapter 10) -/

/-- A change of the mixer state to another than STOPPED, with a target set on the master ramp. -/
theorem masterTarget_completes (s : State) {t len : Nat} (ht : t ≤ fullScale) {st : MixerState} (hst : st ≠ .stopped)
    (cause : MixerCause) : Completes s ((s.onMasterRamp (·.setTarget t len)).setMixer st cause) := by
  have moved : Moves [.masterRamp, .mixer, .mixerReports] s ((s.onMasterRamp (·.setTarget t len)).setMixer st cause) :=
    ((onMasterRamp_moves (Ramp.keeping_setTarget ht) s).wide (by decide)).trans ((setMixer_moves st cause _).wide (by decide))
  refine ⟨moved.frame .pending (by decide), moved.ranges, fun _ h => absurd ?_ hst⟩
  simpa [State.setMixer] using h

theorem judgeStart_completes : (judgeStart v).Completes := by
  unfold judgeStart
  split
  · exact fun u => masterTarget_completes u le_rfl (by decide) _
  all_goals exact .refl

theorem judgeStop_completes : (judgeStop v).Completes := by
  have stops (u : State) : Completes u u.stopMixer :=
    (masterTarget_completes u (Nat.zero_le _) (by decide) _).trans ((Moves.foldl mixerStop_moves _ _).completes (by decide))
  unfold judgeStop
  split
  · exact .refl
  · exact stops
  · exact stops
  · exact .refl

/-- The parts that a change of the roster touches. -/
def rosterParts : List Part := .roster :: linkParts

theorem leaveLink_moves (p : Pod) (s : State) : Moves [.links] s (s.leaveLink p) := by
  have written : Moves [.links] s (s.setLink p (s.links[p]).leaveRoster) :=
    moves_links s _ fun hs => Vec.forall_put (hs .links) ⟨by simp [Link.leaveRoster], (hs .links p).2⟩
  exact written.trans ((linkEvent_moves p _ _).wide (by decide))

theorem leaveGate_moves (p : Pod) (wasChair : Bool) (s : State) : Moves [.automixer] s (s.leaveGate p wasChair) := by
  have left : Moves [.automixer] s
      (if (s.gate p).state = .closed then (s.setGateState p .closed 0).dequeueGate p else s.releaseGate p .roster) := by
    split
    · exact (setGateState_moves p s _ _).trans (dequeueGate_moves p _)
    · exact releaseGate_moves p s _
  unfold State.leaveGate
  simp only
  split
  · exact left.trans (setPriority_moves p _ _)
  · exact left

theorem leaveReasons_moves (p : Pod) (s : State) : Moves muteParts s (s.leaveReasons p) := by
  unfold State.leaveReasons
  simp only
  split
  · exact setReasons_moves p s _
  · exact (setReasons_moves p s _).trans ((onGateRamp_moves Ramp.keeping_jump_zero _ p).wide (by decide))

theorem leaveMutes_moves (p : Pod) (link : LinkState) (s : State) : Moves muteParts s (s.leaveMutes p link) := by
  unfold State.leaveMutes
  simp only
  refine (leaveReasons_moves p s).trans (Moves.trans ?_ ((leaveTalkList_moves p _ _).wide (by decide)))
  split
  · exact revertKeys_moves p _
  · exact .refl _ _

theorem podLeaves_moves (p : Pod) (wasChair : Bool) (s : State) : Moves linkParts s (s.podLeaves p wasChair) :=
  (((leaveLink_moves p s).wide (by decide)).trans ((leaveGate_moves p wasChair _).wide (by decide))).trans ((leaveMutes_moves p _ _).wide (by decide))

theorem enterLink_moves (p : Pod) (s : State) : Moves [.links] s (s.enterLink p) := by
  have written : Moves [.links] s (s.setLink p (s.links[p]).enterRoster) :=
    moves_links s _ fun hs => Vec.forall_put (hs .links) (hs .links p)
  exact written.trans ((linkEvent_moves p _ _).wide (by decide))

theorem enterGate_moves (p : Pod) (s : State) : Moves [.automixer] s (s.enterGate p) := by
  unfold State.enterGate
  split
  · exact gateTo_moves p s _ _ _ _ _
  · exact .refl _ s

theorem becomesChair_moves (p : Pod) (s : State) : Moves muteParts s (s.becomesChair p) :=
  (((setPriority_moves p s 3).wide (by decide)).trans (setChair_moves p _ false)).trans ((leaveTalkList_moves p _ _).wide (by decide))

theorem becomesDelegate_moves (p : Pod) (s : State) : Moves muteParts s (s.becomesDelegate p) := by
  unfold State.becomesDelegate
  split
  · exact setChair_moves p s true
  · exact .refl _ s

theorem podEnters_moves (p : Pod) (isChair : Bool) (s : State) : Moves linkParts s (s.podEnters p isChair) := by
  have entered : Moves linkParts s ((s.enterLink p).enterGate p) :=
    ((enterLink_moves p s).wide (by decide)).trans ((enterGate_moves p _).wide (by decide))
  unfold State.podEnters
  simp only
  split
  · exact entered.trans ((becomesChair_moves p _).wide (by decide))
  · exact entered.trans ((becomesDelegate_moves p _).wide (by decide))

theorem podChange_moves (old new : Roster) (s : State) (p : Pod) : Moves linkParts s (s.podChange old new p) := by
  unfold State.podChange
  split
  · exact podLeaves_moves p _ s
  · exact podEnters_moves p _ s
  · split
    · exact (becomesChair_moves p s).wide (by decide)
    · exact ((setPriority_moves p s 0).wide (by decide)).trans ((becomesDelegate_moves p _).wide (by decide))
    · exact .refl _ s
    · exact .refl _ s
  · exact .refl _ s

theorem takeRoster_moves (new : Roster) (s : State) : Moves rosterParts s (s.takeRoster new) :=
  ((moves_roster s new).wide (by decide)).trans ((Moves.foldl (podChange_moves _ _) _ _).wide (by decide))

theorem judgeSetRoster_completes (a b c : List Byte) : (judgeSetRoster a b c v).Completes := by
  unfold judgeSetRoster
  split
  · exact .refl
  · split
    · exact fun u => (takeRoster_moves _ u).completes (by decide)
    · exact .refl

theorem judgeReset_completes : (judgeReset v).Completes := fun u => (moves_resets u _ (by rfl) (by rfl)).completes (by decide)

theorem judgeSetReports_completes (a : Byte) : (judgeSetReports a v).Completes := by
  unfold judgeSetReports
  split
  · exact fun u => (moves_control u _ fun hs => by exact hs .control).completes (by decide)
  · exact .refl

theorem judgeBadLength_completes (a : Byte) (l : List Byte) : (judgeBadLength a l v).Completes := by
  unfold judgeBadLength
  split
  · split
    · exact .refl
    · exact .refl
  · exact .refl

end

/-! ### Frames (R190 to R193) -/

theorem serve_completes (i : Instr) (s : State) : Completes s (serve i s) := by
  cases i with
  | reset => exact takeRequest_completes _ _ _ s judgeReset_completes
  | start => exact takeRequest_completes _ _ _ s judgeStart_completes
  | stop => exact takeRequest_completes _ _ _ s judgeStop_completes
  | setRoster => exact takeRequest_completes _ _ _ s fun v => judgeSetRoster_completes v _ _ _
  | setReports => exact takeRequest_completes _ _ _ s fun v => judgeSetReports_completes v _
  | setLinkParams => exact takeRequest_completes _ _ _ s fun v => judgeSetLinkParams_completes v _ _ _ _
  | getLinks => exact takeRequest_completes _ _ _ s fun v => judgeGetLinks_completes v _ _ _
  | getLevels => exact takeRequest_completes _ _ _ s fun v => judgeGetLevels_completes v _ _
  | getOutputLevels => exact takeRequest_completes _ _ _ s fun v => judgeGetOutputLevels_completes v _ _
  | setAutomix => exact takeRequest_completes _ _ _ s fun v => judgeSetAutomix_completes v _ _ _ _ _ _ _ _ _
  | setGate => exact takeRequest_completes _ _ _ s fun v => judgeSetGate_completes v _ _ _
  | setMute => exact takeRequest_completes _ _ _ s fun v => judgeSetMute_completes v _ _
  | clearReasons => exact takeRequest_completes _ _ _ s fun v => judgeClearReasons_completes v _ _
  | setPrivacy => exact takeRequest_completes _ _ _ s fun v => judgeSetPrivacy_completes v _
  | setChairMute => exact takeRequest_completes _ _ _ s fun v => judgeSetChairMute_completes v _
  | setKeyMode => exact takeRequest_completes _ _ _ s fun v => judgeSetKeyMode_completes v _ _
  | setKeyGuard => exact takeRequest_completes _ _ _ s fun v => judgeSetKeyGuard_completes v _
  | setMuteRamp => exact takeRequest_completes _ _ _ s fun v => judgeSetMuteRamp_completes v _
  | setAlc => exact takeRequest_completes _ _ _ s fun v => judgeSetAlc_completes v _ _ _ _ _ _ _ _ _
  | holdAlc => exact takeRequest_completes _ _ _ s fun v => judgeHoldAlc_completes v _ _
  | setZone => exact takeRequest_completes _ _ _ s fun v => judgeSetZone_completes v _ _
  | setDuck => exact takeRequest_completes _ _ _ s fun v => judgeSetDuck_completes v _
  | setFader => exact takeRequest_completes _ _ _ s fun v => judgeSetFader_completes v _ _
  | setVolume => exact takeRequest_completes _ _ _ s fun v => judgeSetVolume_completes v _ _
  | setSendGain => exact takeRequest_completes _ _ _ s fun v => judgeSetSendGain_completes v _ _
  | setRecord => exact takeRequest_completes _ _ _ s fun v => judgeSetRecord_completes v _ _ _
  | clipBegin => exact takeRequest_completes _ _ _ s fun v => judgeClipBegin_completes v _ _
  | clipData => exact takeRequest_completes _ _ _ s fun v => judgeClipData_completes v _ _ _
  | clipEnd => exact takeRequest_completes _ _ _ s fun v => judgeClipEnd_completes v _
  | clipDelete => exact takeRequest_completes _ _ _ s fun v => judgeClipDelete_completes v _
  | getClips => exact takeRequest_completes _ _ _ s fun v => judgeGetClips_completes v _ _
  | cue => exact takeRequest_completes _ _ _ s fun v => judgeCue_completes v _ _ _ _
  | go => exact takeRequest_completes _ _ _ s fun v => judgeGo_completes v _
  | pause => exact takeRequest_completes _ _ _ s fun v => judgePause_completes v _
  | resume => exact takeRequest_completes _ _ _ s fun v => judgeResume_completes v _
  | abort => exact takeRequest_completes _ _ _ s fun v => judgeAbort_completes v _
  | getPlayer => exact takeRequest_completes _ _ _ s fun v => judgeGetPlayer_completes v _
  | getRoster | getStatus | getGates | getMutes | getRequests | getAlc | getFeeds =>
    exact takeRequest_completes _ _ _ s fun v => Verdict.answer_completes _ _
  | _ => exact .refl s

theorem takeFrame_completes (ty tag : Byte) (payload : List Byte) (s : State) :
    Completes s (s.takeFrame ty tag payload) := by
  unfold State.takeFrame
  split
  · exact takeRequest_completes _ _ _ s fun _ => Verdict.refuse_completes _
  · exact takeRequest_completes _ _ _ s fun v => judgeBadLength_completes v _ _
  · exact serve_completes _ s

/-- A frame is given up: the receiver is in HUNT again and the cause is reported (R199). -/
theorem hunt_controlError_completes (cause : ControlCause) (n : Nat) (ty tag : Byte) (s : State) :
    Completes s (s.hunt.controlError cause n ty tag) :=
  ((hunt_moves s).completes (by decide)).trans ((controlError_moves _ _ _ _ _).completes (by decide))

theorem judgeFrame_completes (body : List Byte) (sum : Byte) (s : State) : Completes s (s.judgeFrame body sum) := by
  unfold State.judgeFrame
  split
  · exact ((hunt_moves s).completes (by decide)).trans (takeFrame_completes _ _ _ _)
  · exact hunt_controlError_completes _ _ _ _ s

theorem setReceiver_moves (r : Receiver) (s : State) : Moves [.control, .mixerReports] s (s.setReceiver r) :=
  moves_control s _ fun hs => by exact hs .control

theorem receiveByte_completes (b : Byte) (s : State) : Completes s (s.receiveByte b) := by
  unfold State.receiveByte
  simp only
  split
  · split
    · exact (setReceiver_moves _ s).completes (by decide)
    · exact .refl s
  · split
    · exact (setReceiver_moves _ s).completes (by decide)
    · exact (hunt_moves s).completes (by decide)
  · exact (setReceiver_moves _ s).completes (by decide)
  · exact judgeFrame_completes _ _ s

theorem framingError_completes (b : Byte) (s : State) : Completes s (s.framingError b) := by
  unfold State.framingError
  simp only
  split
  · exact .refl s
  all_goals exact hunt_controlError_completes _ _ _ _ s

/-! ### Resets (R185 to R188) -/

theorem blocksReset_inRange (store : ClipStore) (r : StartReason) (ph : Phase) (latch : Bool) (l : List Instr) :
    InRange (State.blocksReset store r ph latch l) := by
  intro q
  cases q <;> simp [Part.inRange, State.blocksReset, Ramps.reset, Ramp.atRest, fullScale, Control.reset, answerCount, reportCount, Link.reset,
    Alc.reset, AlcRecord.reset, Router.reset, Feeds.reset, State.player, PlayerRecord.reset, Inputs.reset, PlayerSlot.none,
    Link.InRange, AlcRecord.InRange, Feeds.Bounded, PlayerRecord.InRange]

theorem blocksReset_completes (store : ClipStore) (r : StartReason) (ph : Phase) (latch : Bool) (s : State) :
    Completes s (State.blocksReset store r ph latch s.pending) :=
  ⟨rfl, fun _ => blocksReset_inRange _ _ _ _ _, fun _ _ => ⟨rfl, rfl, rfl, rfl⟩⟩

theorem endReset_completes (r : StartReason) (s : State) : Completes s (s.endReset r) :=
  ((moves_resets s _ (by rfl) (by rfl)).completes (by decide)).trans ((moves_postAlways _ _ _ (by decide)).completes (by decide))

theorem dropSent_moves (s : State) : Moves [.control, .mixerReports] s s.dropSent :=
  moves_control s _ fun hs =>
    ⟨(((List.drop_sublist 1 _).filter _).length_le).trans (hs .control).1,
      (((List.drop_sublist 1 _).filter _).length_le).trans (hs .control).2⟩

/-! ### Every command -/

theorem unlessInReset_completes {f : State → State} (s : State) (h : ∀ u, Completes u (f u)) :
    Completes s (unlessInReset f s) := by
  unfold unlessInReset
  split
  · exact h s
  · exact h s
  · exact .refl s
  · exact .refl s

theorem whileListening_completes {f : State → State} (s : State) (h : ∀ u, Completes u (f u)) :
    Completes s (whileListening f s) := by
  unfold whileListening
  split
  · exact h s
  · exact .refl s

/-- An event that occurs where its condition stands, and changes nothing otherwise (log entry 8). -/
theorem ite_completes {c : Prop} [Decidable c] {s t : State} (h : c → Completes s t) : Completes s (if c then t else s) := by
  split
  · exact h ‹c›
  · exact .refl s

theorem boundary_completes (order : List Work) (trunks : Vector Frame 4) (s : State) :
    Completes s (s.boundary order trunks) := by
  refine ⟨?_, boundary_inRange, stoppedAtZero_boundary order trunks⟩
  exact Part.kept_trans (q := .pending) ((begun_moves s).frame .pending (by decide)) (boundary_kept order trunks s (by decide))

/-- R25, R179: the master ramp's arrival as a command. -/
theorem masterRampArrival_completes (s : State) :
    Completes s (if s.ramps.master.arrives then (s.onMasterRamp Ramp.clearArrival).masterArrival else s) := by
  refine ite_completes fun ha => ?_
  have moved : Moves [.masterRamp, .mixer, .mixerReports] s (s.onMasterRamp Ramp.clearArrival).masterArrival :=
    ((onMasterRamp_moves (fun _ h => Ramp.clearArrival_bounded h) s).wide (by decide)).trans ((masterArrival_moves _).wide (by decide))
  refine ⟨moved.frame .pending (by decide), moved.ranges, fun hs hstop => ?_⟩
  have hmaster : (s.onMasterRamp Ramp.clearArrival).masterArrival.ramps.master = s.ramps.master.clearArrival :=
    (masterArrival_moves (s.onMasterRamp Ramp.clearArrival)).frame .masterRamp (by decide)
  rw [hmaster]
  refine Ramp.clearArrival_still ?_
  rw [masterArrival_mixer] at hstop
  by_cases hm : s.session.mixer = .stopped
  · exact hs hm
  · refine Ramp.still_of_arrives ha ?_
    by_contra h0
    exact MixerState.onArrival_ne_stopped (target := (s.onMasterRamp Ramp.clearArrival).ramps.master.target) hm
      (by rwa [show (s.onMasterRamp Ramp.clearArrival).ramps.master = s.ramps.master.clearArrival from rfl,
        Ramp.clearArrival_target]) hstop

theorem exec_completes (c : Instr) (s : State) : ∃ t : State, exec c s = .next t ∧ Completes s t := by
  cases hc : c with
  | mixPeriodBoundary order trunks =>
    exact ⟨_, rfl, unlessInReset_completes s (boundary_completes order trunks)⟩
  | micFrameArrival p l ok =>
    exact ⟨_, rfl, unlessInReset_completes s fun u => (candidateArrives_moves u p l ok).completes (by decide)⟩
  | lockCount p f =>
    exact ⟨_, rfl, unlessInReset_completes s fun u => ite_completes fun _ => (frameArrives_moves u p f).completes (by decide)⟩
  | restart p f =>
    exact ⟨_, rfl, unlessInReset_completes s fun u => ite_completes fun _ => (frameArrives_moves u p f).completes (by decide)⟩
  | settleDone p =>
    exact ⟨_, rfl, unlessInReset_completes s fun u => ite_completes fun _ =>
      ((linkBoundary_moves u p).completes (by decide)).trans ((takeKeys_moves _ _).completes (by decide))⟩
  | silence p => exact ⟨_, rfl, unlessInReset_completes s fun u => (linkEventOf_moves u p _).completes (by decide)⟩
  | unlock p => exact ⟨_, rfl, unlessInReset_completes s fun u => (linkEventOf_moves u p _).completes (by decide)⟩
  | openCountReached p =>
    exact ⟨_, rfl, unlessInReset_completes s fun u =>
      (judgedWith_moves u .request (fun t => collect_moves t [p]) p).completes (by decide)⟩
  | holdExpiry p =>
    exact ⟨_, rfl, unlessInReset_completes s fun u => (judgedWith_moves u .expired (expire_moves · p) p).completes (by decide)⟩
  | waitTimeout p =>
    exact ⟨_, rfl, unlessInReset_completes s fun u => (judgedWith_moves u .timeout (timeOut_moves · p) p).completes (by decide)⟩
  | noiseFloorRise c =>
    exact ⟨_, rfl, unlessInReset_completes s fun u => ite_completes fun _ => (moves_detectors u _).completes (by decide)⟩
  | intervalEnd =>
    exact ⟨_, rfl, unlessInReset_completes s fun u => ite_completes fun _ => (endInterval_moves u).completes (by decide)⟩
  | segmentEnd n i =>
    exact ⟨_, rfl, unlessInReset_completes s fun u => ite_completes fun _ => (playPosition_moves u n i).completes (by decide)⟩
  | masterRampArrival => exact ⟨_, rfl, unlessInReset_completes s masterRampArrival_completes⟩
  | playerRampArrival n =>
    exact ⟨_, rfl, unlessInReset_completes s fun u => ite_completes fun _ =>
      ((onPlayerRamp_moves (fun _ h => Ramp.clearArrival_bounded h) u n).completes (by decide)).trans ((playerArrival_moves _ n).completes (by decide))⟩
  | badCheckFrame body check =>
    exact ⟨_, rfl, whileListening_completes s fun u => ite_completes fun _ => judgeFrame_completes body _ u⟩
  | framingError b => exact ⟨_, rfl, whileListening_completes s (framingError_completes b)⟩
  | badFrameLength b =>
    exact ⟨_, rfl, whileListening_completes s fun u => ite_completes fun _ => (hunt_moves u).completes (by decide)⟩
  | gapTimerExpiry =>
    refine ⟨_, rfl, whileListening_completes s fun u => ?_⟩
    simp only
    split
    · exact .refl u
    all_goals exact hunt_controlError_completes _ _ _ _ u
  | messageSent =>
    refine ⟨_, rfl, unlessInReset_completes s fun u => ?_⟩
    split
    · exact blocksReset_completes _ _ _ _ u
    · exact (dropSent_moves u).completes (by decide)
  | unknownRequest ty tag l =>
    refine ⟨_, rfl, ?_⟩
    split
    · exact .refl s
    · exact takeRequest_completes _ _ _ s fun _ => Verdict.refuse_completes _
  | powerOn held => exact ⟨_, rfl, blocksReset_completes _ _ _ _ s⟩
  | resetPin => exact ⟨_, rfl, blocksReset_completes _ _ _ _ s⟩
  | softReset => exact ⟨_, rfl, ite_completes fun _ => blocksReset_completes _ _ _ _ s⟩
  | resetEnd =>
    refine ⟨_, rfl, ?_⟩
    split
    · exact endReset_completes _ s
    · exact endReset_completes _ s
    · exact .refl s
    · exact .refl s
  | controlByteReceived b => exact ⟨_, rfl, whileListening_completes s (receiveByte_completes b)⟩
  | _ => exact ⟨serve c s, by rw [hc]; rfl, serve_completes c s⟩

/-- A step keeps the ranges and the stopped master ramp: the command taken off the queue is executed. -/
theorem step_keeps {s t : State} (h : step s = .next t) :
    (InRange s → InRange t) ∧ (StoppedAtZero s → StoppedAtZero t) := by
  unfold step at h
  split at h
  · cases h
    exact ⟨id, id⟩
  · rename_i c rest _
    obtain ⟨u, hu, hc⟩ := exec_completes c { s with pending := rest }
    rw [hu] at h
    cases h
    exact ⟨fun hs => hc.ranges ((inRange_iff _).2 ((inRange_iff s).1 hs)), hc.stopped⟩

end Sys2Proof.Machine
end

section
/-! The queue of commands, reset, and the ranges that every step keeps: O1, O2, O3, O4, O51. -/

namespace Sys2Proof.Machine

/-- Settles O51: every command keeps every part in its range. -/
theorem stepKeepsTheRanges : Obligations.StepKeepsTheRanges := fun s t hramps hqueue hlinks halc hgains h =>
  (inRange_iff t).1 ((step_keeps h).1 ((inRange_iff s).2 ⟨hramps, hqueue, hlinks, halc, hgains⟩))

/-- Settles O1: on each kind of queue the step computes to what it says. -/
theorem stepTakesTheFrontCommand : Obligations.StepTakesTheFrontCommand :=
  ⟨fun _ _ => rfl, fun s h => by unfold step; rw [h]⟩

/-- Settles O2: each arm of exec answers a next state, and no meaning writes the queue of commands. -/
theorem everyCommandCompletes : Obligations.EveryCommandCompletes := fun c s => by
  obtain ⟨t, ht, hc⟩ := exec_completes c s
  exact ⟨t, ht, hc.pending⟩

/-- Settles O3: each block's reset value read off its definition. -/
theorem resetValues : Obligations.ResetValues := by
  unfold Obligations.ResetValues
  simp [State.reset, State.blocksReset, Ramps.reset, Ramp.atRest, Ramp.restsAt, Link.reset, MicFrame.blank,
    LinkParams.reset, Detector.reset, State.gate, Automixer.reset, Mutes.reset, Alc.reset, AlcRecord.reset,
    Router.reset, Feeds.reset, ClipStore.reset, Clip.blank, State.player, PlayerRecord.reset, Roster.reset,
    Control.reset, Receiver.hunting, powerOnReport]

theorem reset_inRange : InRange State.reset := by
  refine (moves_control (State.blocksReset ClipStore.reset .power .running false []) _ fun _ => ?_).ranges
    (blocksReset_inRange _ _ _ _ _)
  decide

/-- R156: every page is free after reset. -/
theorem reset_pagesSound : PagesSound State.reset := by
  have held : State.reset.store.heldPages = [] := by decide
  have free : State.reset.store.free = List.finRange 512 := by
    simp only [State.reset, State.blocksReset, ClipStore.reset]
  rw [PagesSound, held, free, List.append_nil]
  exact ⟨List.pairwise_lt_finRange 512, List.nodup_finRange 512, List.length_finRange, by decide, by decide⟩

/-- Settles O4. -/
theorem resetSatisfiesEveryInvariant : Obligations.ResetSatisfiesEveryInvariant := by
  obtain ⟨ramps, queue, links, alc, gains⟩ := (inRange_iff _).1 reset_inRange
  have talk : TalkListSound State.reset := by decide
  have levels : LevelsBounded State.reset := by decide
  have gates : GatesSound State.reset := by decide
  have fault : FaultSound State.reset := by decide
  have references : ReferencesSound State.reset := by decide
  have players : PlayersSound State.reset := by decide
  exact ⟨ramps, queue, links, talk, levels, alc, gates, fault, reset_pagesSound, references, rfl, players, gains,
    fun _ => ⟨rfl, rfl, rfl, rfl⟩⟩

end Sys2Proof.Machine
end

section
/-! SUPPORT. What the boundary hands out (R1, R19, R20, R57): the outputs of each position, saturation, peaks, the bits of
a record output. -/

namespace Sys2Proof.Machine

/-! ### Saturation and peaks (R19, R56, R57) -/

theorem saturate_toInt (y : Int) : (saturate y).toInt = max (-32768) (min 32767 y) := by
  have h := clampInt_mem (-32768) 32767 y (by omega)
  rw [saturate, BitVec.toInt_ofInt, Int.bmod_def]
  change _ = clampInt (-32768) 32767 y
  split <;> omega

@[simp] theorem saturate_zero : saturate 0 = 0 := by decide

theorem saturates_iff (x : Int) : saturates x = true ↔ x < -32768 ∨ 32767 < x := by
  simp [saturates]

/-- A running maximum bounds every value and is one of them, or the value it began with. -/
theorem foldl_max_spec {α : Type} (g : α → Nat) (l : List α) (a : Nat) :
    a ≤ l.foldl (fun m x => max m (g x)) a ∧ (∀ x ∈ l, g x ≤ l.foldl (fun m x => max m (g x)) a) ∧
      (l.foldl (fun m x => max m (g x)) a = a ∨ ∃ x ∈ l, g x = l.foldl (fun m x => max m (g x)) a) := by
  induction l generalizing a with
  | nil => simp
  | cons y rest ih =>
    obtain ⟨hle, hmem, hattained⟩ := ih (max a (g y))
    rw [List.foldl_cons]
    refine ⟨by omega, fun x hx => ?_, ?_⟩
    · rcases List.mem_cons.1 hx with rfl | hx
      · omega
      · exact hmem x hx
    · rcases hattained with h | ⟨x, hx, h⟩
      · rcases Nat.le_total a (g y) with hay | hay
        · exact .inr ⟨y, by simp, by omega⟩
        · exact .inl (by omega)
      · exact .inr ⟨x, List.mem_cons_of_mem y hx, h⟩

theorem magnitude_le_framePeak (f : Frame) (i : Fin 16) : (f[i]).toInt.natAbs ≤ framePeak f :=
  (foldl_max_spec magnitude f.toList 0).2.1 _ (by simp)

theorem framePeak_attained (f : Frame) : ∃ i : Fin 16, (f[i]).toInt.natAbs = framePeak f := by
  rcases (foldl_max_spec magnitude f.toList 0).2.2 with h | ⟨x, hx, h⟩
  · exact ⟨0, Nat.le_antisymm (magnitude_le_framePeak f 0) (by rw [framePeak, h]; exact Nat.zero_le _)⟩
  · obtain ⟨i, hi, rfl⟩ := List.getElem_of_mem hx
    exact ⟨⟨i, by simpa using hi⟩, by simpa [magnitude, framePeak] using h⟩

theorem framePeak_eq_zero {f : Frame} (h : ∀ i : Fin 16, f[i] = 0) : framePeak f = 0 := by
  obtain ⟨i, hi⟩ := framePeak_attained f
  rw [← hi, h i]
  rfl

/-! ### The outputs of a period (R1, R23) -/

/-- The outputs of each position are formed after that position's move. -/
theorem runPositions_outputs (v : InForce) (x : Inputs) (l : List (Fin 16)) (r : Ramps) (k : Nat) :
    (runPositions v x l r).2[k]? = l[k]?.map fun i => scaledOutputs v x (movesOf (k + 1) r) i := by
  induction l generalizing r k with
  | nil => simp [runPositions]
  | cons i rest ih =>
    cases k with
    | zero => rfl
    | succ k => exact ih (r.map Ramp.move) k

/-- The last scaled value of an output at a position of the period in progress (R17, R18). -/
def State.scaledAt (v : InForce) (s : State) (o : Output) (i : Fin 16) : Int :=
  (scaledOutputs v s.inputs (movesOf (i.1 + 1) s.ramps) i)[o]

/-- The outputs of the period in progress, position by position. -/
def State.periodOutputs (v : InForce) (s : State) : List (Vector Int 30) := (runPositions v s.inputs positions s.ramps).2

theorem periodOutputs_getElem? (v : InForce) (s : State) (k : Nat) :
    (s.periodOutputs v)[k]? = positions[k]?.map fun i => scaledOutputs v s.inputs (movesOf (k + 1) s.ramps) i :=
  runPositions_outputs v s.inputs positions s.ramps k

theorem outputAt_periodOutputs (v : InForce) (s : State) (o : Output) (i : Fin 16) :
    outputAt (s.periodOutputs v) o i = s.scaledAt v o i := by
  have h : (s.periodOutputs v)[i.1]? = some (scaledOutputs v s.inputs (movesOf (i.1 + 1) s.ramps) i) := by
    rw [periodOutputs_getElem?]
    simp [positions]
  rw [outputAt, List.getD_eq_getElem?_getD, h]
  rfl

theorem outputClipped_periodOutputs (v : InForce) (s : State) (o : Output) :
    outputClipped (s.periodOutputs v) o = true ↔ ∃ i : Fin 16, s.scaledAt v o i < -32768 ∨ 32767 < s.scaledAt v o i := by
  rw [outputClipped, List.any_eq_true]
  constructor
  · rintro ⟨w, hw, hsat⟩
    obtain ⟨k, hk⟩ := List.mem_iff_getElem?.1 hw
    rw [periodOutputs_getElem?, Option.map_eq_some_iff] at hk
    obtain ⟨i, hi, rfl⟩ := hk
    have hik : k = i.1 := by
      simp only [positions, List.getElem?_eq_some_iff, List.getElem_finRange] at hi
      obtain ⟨_, rfl⟩ := hi
      rfl
    subst hik
    exact ⟨i, (saturates_iff _).1 hsat⟩
  · rintro ⟨i, h⟩
    refine ⟨scaledOutputs v s.inputs (movesOf (i.1 + 1) s.ramps) i, ?_, (saturates_iff _).2 h⟩
    rw [List.mem_iff_getElem?]
    exact ⟨i.1, by rw [periodOutputs_getElem?]; simp [positions]⟩

theorem closePeriod_of_some {s : State} {v : InForce} (h : s.inForce = some v) :
    s.closePeriod.outputs = (Vec.tab fun o => outputFrame (s.periodOutputs v) o) ∧
      s.closePeriod.outputMeters = Vec.tab fun o =>
        (s.outputMeters[o]).update (outputFrame (s.periodOutputs v) o) (outputClipped (s.periodOutputs v) o) := by
  unfold State.closePeriod
  rw [h]
  exact ⟨rfl, rfl⟩

theorem closePeriod_of_none {s : State} (h : s.inForce = none) :
    s.closePeriod.outputs = (Vec.tab fun o => outputFrame [] o) ∧
      s.closePeriod.outputMeters = Vec.tab fun o => (s.outputMeters[o]).update (outputFrame [] o) false := by
  unfold State.closePeriod
  rw [h]
  exact ⟨rfl, rfl⟩

theorem closePeriod_outputs_of_some {s : State} {v : InForce} (h : s.inForce = some v) (o : Output) (i : Fin 16) :
    (s.closePeriod.outputs[o])[i] = saturate (s.scaledAt v o i) := by
  rw [(closePeriod_of_some h).1]
  simp [outputFrame, outputAt_periodOutputs]

theorem closePeriod_outputs_of_none {s : State} (h : s.inForce = none) (o : Output) (i : Fin 16) :
    (s.closePeriod.outputs[o])[i] = 0 := by
  rw [(closePeriod_of_none h).1]
  simp [outputFrame, outputAt]

theorem boundary_outputs (order : List Work) (trunks : Vector Frame 4) (s : State) :
    (s.boundary order trunks).outputs = s.closePeriod.outputs :=
  (boundary_kept order trunks s (q := .outputs) (by decide)).trans (by rw [begun_eq])

theorem boundary_outputMeters (order : List Work) (trunks : Vector Frame 4) (s : State) :
    (s.boundary order trunks).outputMeters = s.closePeriod.outputMeters :=
  (boundary_kept order trunks s (q := .outputMeters) (by decide)).trans (by rw [begun_eq])

/-- R1, R187: outside a reset the command is the boundary. -/
theorem exec_boundary {s : State} (h : s.outOfReset) (order : List Work) (trunks : Vector Frame 4) :
    exec (.mixPeriodBoundary order trunks) s = .next (s.boundary order trunks) := by
  change Host.Outcome.next (unlessInReset (State.boundary order trunks) s) = _
  rw [unlessInReset_of_outOfReset h]

/-- R57: each output's meter takes in the peak of the frame handed out. -/
theorem closePeriod_meter_peak (s : State) (o : Output) :
    (s.closePeriod.outputMeters[o]).peak = max (s.outputMeters[o]).peak (framePeak s.closePeriod.outputs[o]) := by
  cases h : s.inForce with
  | none => rw [(closePeriod_of_none h).1, (closePeriod_of_none h).2]; simp [OutputMeter.update]
  | some v => rw [(closePeriod_of_some h).1, (closePeriod_of_some h).2]; simp [OutputMeter.update]

/-! ### The bits of a record output (R20) -/

/-- The parts of a list of runs of one length, by place. -/
theorem flatMap_getElem? {α β : Type} {f : α → List β} {n : Nat} (hf : ∀ x, (f x).length = n) (l : List α) {i k : Nat}
    (hi : i < l.length) (hk : k < n) : (l.flatMap f)[n * i + k]? = (f l[i])[k]? := by
  induction l generalizing i with
  | nil => simp at hi
  | cons x rest ih =>
    cases i with
    | zero =>
      rw [List.flatMap_cons, List.getElem?_append_left (by rw [hf]; omega)]
      simp
    | succ i =>
      rw [List.flatMap_cons, List.getElem?_append_right (by rw [hf, Nat.mul_succ]; omega), hf,
        show n * (i + 1) + k - n = n * i + k by rw [Nat.mul_succ]; omega]
      exact ih (by simpa using hi)

theorem sampleBits_getElem? (x : Sample) {k : Nat} (hk : k < 16) : (sampleBits x)[k]? = some (x.getLsbD (15 - k)) := by
  simp [sampleBits, BitVec.getMsbD, hk]

theorem recordLine_length (s : State) (b : RecordBus) : (s.recordLine b).length = 256 := by
  simp [State.recordLine, List.length_flatMap]

theorem recordLine_getD (s : State) (b : RecordBus) (i k : Fin 16) :
    (s.recordLine b).getD (16 * i.1 + k.1) false =
      ((s.outputs[(⟨b.1 + 28, by omega⟩ : Output)])[i]).getLsbD (15 - k.1) := by
  rw [State.recordLine, List.getD_eq_getElem?_getD, flatMap_getElem? sampleBits_length _ (by simp) k.2,
    sampleBits_getElem? _ k.2]
  simp

/-! ### What the boundary hands out -/

/-- Settles O16: the boundary leaves what closePeriod hands out as it is. -/
theorem boundaryHandsOutThePeriod : Obligations.BoundaryHandsOutThePeriod := by
  intro order trunks s hs
  refine ⟨s.boundary order trunks, exec_boundary hs order trunks, ?_, ?_, ?_, ?_, ?_, saturate_toInt, ?_, ?_⟩
  · intro h o i
    rw [boundary_outputs]
    exact closePeriod_outputs_of_none h o i
  · intro v h o i
    rw [boundary_outputs]
    exact closePeriod_outputs_of_some h o i
  · intro o
    rw [boundary_outputs, boundary_outputMeters]
    exact closePeriod_meter_peak s o
  · intro h o
    rw [boundary_outputMeters, (closePeriod_of_none h).2]
    simp [OutputMeter.update]
  · intro v h o
    rw [boundary_outputMeters, (closePeriod_of_some h).2]
    simp only [Fin.getElem_fin, Vec.getElem_tab, OutputMeter.update, Bool.or_eq_true, outputClipped_periodOutputs]
    rfl
  · exact fun o => ⟨magnitude_le_framePeak _, framePeak_attained _⟩
  · exact fun b => ⟨recordLine_length _ b, recordLine_getD _ b⟩

/-! ### A STOPPED mixer hands out zeros (R19, R176) -/

@[simp] theorem rampScale_zero_right (x : Int) : rampScale x 0 = 0 := by simp [rampScale, roundShift]

/-- R17, R18: a master ramp at 0 brings every output to 0. -/
theorem scaledOutputs_of_master_zero {v : InForce} {x : Inputs} {r : Ramps} {i : Fin 16} (h : r.master.value = 0)
    (o : Output) : (scaledOutputs v x r i)[o] = 0 := by
  simp only [scaledOutputs, Fin.getElem_fin, Vec.getElem_tab, scaledPodFeed, scaledSend, h, rampScale_zero_right]
  split
  · rfl
  · split <;> rfl

theorem scaledAt_of_still {v : InForce} {s : State} (h : s.ramps.master.Still) (o : Output) (i : Fin 16) :
    s.scaledAt v o i = 0 := by
  refine scaledOutputs_of_master_zero ?_ o
  rw [movesOf_eq_map]
  simp only [Ramps.map, Ramp.iterate_move_still h]
  exact h.1

theorem closePeriod_outputs_of_still {s : State} (h : s.ramps.master.Still) (o : Output) (i : Fin 16) :
    (s.closePeriod.outputs[o])[i] = 0 := by
  cases hv : s.inForce with
  | none => exact closePeriod_outputs_of_none hv o i
  | some v => rw [closePeriod_outputs_of_some hv, scaledAt_of_still h, saturate_zero]

theorem OutputMeter.eq_of_fields {a b : OutputMeter} (hp : a.peak = b.peak) (hc : a.clip = b.clip) : a = b := by
  cases a
  cases b
  simp_all

theorem closePeriod_meters_of_still {s : State} (h : s.ramps.master.Still) :
    s.closePeriod.outputMeters = s.outputMeters := by
  have hclip (o : Output) : (s.closePeriod.outputMeters[o]).clip = (s.outputMeters[o]).clip := by
    cases hv : s.inForce with
    | none => rw [(closePeriod_of_none hv).2]; simp [OutputMeter.update]
    | some v =>
      have hc : outputClipped (s.periodOutputs v) o = false := by
        rw [Bool.eq_false_iff, ne_eq, outputClipped_periodOutputs]
        rintro ⟨i, hi⟩
        rw [scaledAt_of_still h] at hi
        omega
      rw [(closePeriod_of_some hv).2]
      simp [OutputMeter.update, hc]
  have hpeak (o : Output) : (s.closePeriod.outputMeters[o]).peak = (s.outputMeters[o]).peak := by
    rw [closePeriod_meter_peak, framePeak_eq_zero (closePeriod_outputs_of_still h o), Nat.max_zero]
  refine Vector.ext fun k hk => ?_
  have ho := hclip ⟨k, hk⟩
  have hp := hpeak ⟨k, hk⟩
  rw [Fin.getElem_fin, Fin.getElem_fin] at ho hp
  exact OutputMeter.eq_of_fields hp ho

/-- Settles O52: the session controller alone touches the mixer state and the master ramp's target, and it enters STOPPED
only where the ramp has arrived at 0. -/
theorem stepKeepsAStoppedMixerSilent : Obligations.StepKeepsAStoppedMixerSilent := by
  refine ⟨fun s t hs h => (step_keeps h).2 hs, fun order trunks s hs hzero hstop => ?_⟩
  refine ⟨s.boundary order trunks, exec_boundary hs order trunks, ?_, fun o i => ?_⟩
  · rw [boundary_outputMeters, closePeriod_meters_of_still (hzero hstop)]
  · rw [boundary_outputs]
    exact closePeriod_outputs_of_still (hzero hstop) o i

end Sys2Proof.Machine
end

section
/-! SUPPORT. The mix (Chapter 1): what each output is formed from (R7 to R18), the bounds of the sums (R13), and what an
output does not depend on (R13 to R16). -/

namespace Sys2Proof.Machine

/-! ### Sums and outputs by name -/

theorem sumOver_eq {n : Nat} (f : Fin n → Int) : sumOver f = ∑ i, f i := List.sum_ofFn

theorem gated_eq (b : Bool) (x : Int) : gated b x = if b = true then x else 0 := rfl

@[simp] theorem gated_false (x : Int) : gated false x = 0 := rfl

@[simp] theorem gated_true (x : Int) : gated true x = x := rfl

/-- The output of a record bus (R20). -/
abbrev recordOutput (b : RecordBus) : Output := ⟨b.1 + 28, by omega⟩

section
variable (v : InForce) (x : Inputs) (r : Ramps) (i : Fin 16)

/-- R17: the last scaled value of a pod feed. -/
theorem scaledOutputs_pod (j : Pod) :
    (scaledOutputs v x r i)[podChannel j] =
      scaledPodFeed v r (podFeedValue v (contributions v x r i) (busSums v (contributions v x r i)) j) j := by
  simp [scaledOutputs, podChannel]

/-- R18: the last scaled value of a trunk send. -/
theorem scaledOutputs_trunk (k : Trunk) :
    (scaledOutputs v x r i)[trunkChannel k] =
      scaledSend r (trunkSendValue v (contributions v x r i) (busSums v (contributions v x r i)) k) v.feeds.sendGain[k] := by
  have h : (trunkChannel k).1 < 28 := by simp [trunkChannel]; omega
  simp [scaledOutputs, trunkChannel] at h ⊢
  simp [h]

/-- R18: the last scaled value of a record bus. -/
theorem scaledOutputs_record (b : RecordBus) :
    (scaledOutputs v x r i)[recordOutput b] =
      scaledSend r (recordValue v (busSums v (contributions v x r i)) b) (v.feeds.record[b]).gain := by
  have h : ¬ b.1 + 28 < 24 := by omega
  simp [scaledOutputs, recordOutput, h]

end

/-- An output from 25 on is a trunk's or a record bus's. -/
theorem output_far {o : Output} (h : 24 ≤ o.1) : (∃ k : Trunk, o = trunkChannel k) ∨ ∃ b : RecordBus, o = recordOutput b := by
  by_cases hk : o.1 < 28
  · exact .inl ⟨⟨o.1 - 24, by omega⟩, Fin.ext (by simp [trunkChannel]; omega)⟩
  · exact .inr ⟨⟨o.1 - 28, by omega⟩, Fin.ext (by simp; omega)⟩

/-! ### Mix-minus (R14, R15) -/

/-- R12: a bus carries the pods of the roster that are not excluded and, apart from them, the excluded ones. -/
theorem rl_sub_exclusionSum (v : InForce) (c : Contributions) (j : Pod) :
    (busSums v c).rl - exclusionSum v c j =
      ∑ p ∈ Finset.univ.filter (fun p => v.roster.pods[p] = true ∧ excluded v.roster v.feeds.zone j p = false), c.cL[p] := by
  simp only [busSums, exclusionSum, sumOver_eq]
  rw [← Finset.sum_sub_distrib, Finset.sum_filter]
  refine Finset.sum_congr rfl fun p _ => ?_
  cases v.roster.pods[p] <;> cases excluded v.roster v.feeds.zone j p <;> simp

theorem podFeedValue_of_roster {v : InForce} {j : Pod} (c : Contributions) (h : v.roster.pods[j] = true) :
    podFeedValue v c (busSums v c) j =
      (∑ p ∈ Finset.univ.filter (fun p => v.roster.pods[p] = true ∧ excluded v.roster v.feeds.zone j p = false), c.cL[p]) +
        (busSums v c).t + (busSums v c).ppod := by
  rw [podFeedValue, h, gated_true, rl_sub_exclusionSum]

theorem podFeedValue_of_notRoster {v : InForce} {j : Pod} (c : Contributions) (b : BusSums)
    (h : v.roster.pods[j] = false) : podFeedValue v c b j = 0 := by
  rw [podFeedValue, h, gated_false]

theorem t_sub_own {v : InForce} {k : Trunk} (c : Contributions) (h : v.roster.trunks[k] = true) :
    (busSums v c).t - c.t[k] = ∑ l ∈ Finset.univ.filter (fun l => v.roster.trunks[l] = true ∧ l ≠ k), c.t[l] := by
  have own : c.t[k] = ∑ l : Trunk, if l = k then c.t[l] else 0 := by simp
  simp only [busSums, sumOver_eq]
  rw [own, ← Finset.sum_sub_distrib, Finset.sum_filter]
  refine Finset.sum_congr rfl fun l _ => ?_
  by_cases hl : l = k
  · subst hl
    simp [h]
  · simp [hl, gated_eq]

theorem trunkSendValue_of_roster {v : InForce} {k : Trunk} (c : Contributions) (h : v.roster.trunks[k] = true) :
    trunkSendValue v c (busSums v c) k =
      (busSums v c).rs + (∑ l ∈ Finset.univ.filter (fun l => v.roster.trunks[l] = true ∧ l ≠ k), c.t[l]) +
        (busSums v c).ptrk := by
  rw [trunkSendValue, h, gated_true, ← t_sub_own c h]
  ring

theorem trunkSendValue_of_notRoster {v : InForce} {k : Trunk} (c : Contributions) (b : BusSums)
    (h : v.roster.trunks[k] = false) : trunkSendValue v c b k = 0 := by
  rw [trunkSendValue, h, gated_false]

/-! ### Bounds (R13) -/

/-- The Lin12 entry of a gain of at most `K` steps is at most `N` where 4096 × 10^(K/40) < N + 1/2. -/
theorem lin12_le {k : Int} {K N : Nat} (hk : clampInt (-120) 48 k ≤ K) (h : (2 * 4096) ^ 40 * 10 ^ K < (2 * N + 1) ^ 40) :
    lin12 k ≤ N := by
  have root_le {y : Nat} (hy : y ≤ (2 * 4096) ^ 40 * 10 ^ K) : root40 y < 2 * N + 1 :=
    lt_of_pow_lt_pow_left₀ 40 (Nat.zero_le _) (((root40_pow_le y).trans hy).trans_lt h)
  unfold lin12 scaledPower
  split
  · have := root_le (Nat.mul_le_mul_left ((2 * 4096) ^ 40)
      (Nat.pow_le_pow_right (by omega : 0 < 10) (show (clampInt (-120) 48 k).toNat ≤ K by omega)))
    omega
  · have := root_le ((Nat.div_le_self ((2 * 4096) ^ 40) (10 ^ (-clampInt (-120) 48 k).toNat)).trans
      (Nat.le_mul_of_pos_right _ (by positivity)))
    omega

theorem lin12_le_max (k : Int) : lin12 k ≤ 64917 :=
  lin12_le (K := 48) (clampInt_mem (-120) 48 k (by omega)).2 (by norm_num)

/-- R137: the greatest fader of a trunk is +24. -/
theorem lin12_le_of_le_24 {k : Int} (h : k ≤ 24) : lin12 k ≤ 16306 :=
  lin12_le (K := 24) (by unfold clampInt; omega) (by norm_num)

theorem lin12_le_of_nonpos {k : Int} (h : k ≤ 0) : lin12 k ≤ 4096 :=
  lin12_le (K := 0) (by unfold clampInt; omega) (by norm_num)

theorem roundShift_twelve (x : Int) : roundShift 12 x = (x + 2048) / 4096 := by norm_num [roundShift]

theorem roundShift_fifteen (x : Int) : roundShift 15 x = (x + 16384) / 32768 := by norm_num [roundShift]

theorem abs_toInt_le (s : Sample) : |s.toInt| ≤ 32768 := by
  have := s.toInt_lt
  have := s.le_toInt
  rw [abs_le]
  constructor <;> norm_num at * <;> omega

/-- R7, R10, R11: a sample scaled by a gain of at most `G`. -/
theorem abs_scaled_le (s : Sample) {g G : Nat} (h : g ≤ G) : |roundShift 12 (s.toInt * g)| ≤ 8 * G := by
  have hp : |s.toInt * g| ≤ 32768 * G := by
    rw [abs_mul, Nat.abs_cast]
    exact mul_le_mul (abs_toInt_le s) (by exact_mod_cast h) (by positivity) (by norm_num)
  rw [abs_le] at hp
  rw [roundShift_twelve, abs_le]
  omega

/-- R9, R10, R11: a ramp at most at full scale does not enlarge a value. -/
theorem abs_rampScale_le {y B : Int} {r : Nat} (hy : |y| ≤ B) (hr : r ≤ 32768) : |rampScale y r| ≤ B := by
  have hp : |y * r| ≤ B * 32768 := by
    rw [abs_mul, Nat.abs_cast]
    exact mul_le_mul hy (by exact_mod_cast hr) (by positivity) ((abs_nonneg y).trans hy)
  rw [abs_le] at hp
  rw [rampScale, roundShift_fifteen, abs_le]
  omega

theorem factor_le {g m : Nat} (hg : g ≤ 32768) (hm : m ≤ 32768) : g * m / 32768 ≤ 32768 :=
  Nat.div_le_of_le_mul (Nat.mul_le_mul hg hm)

theorem abs_gated_le {b : Bool} {x B : Int} (h : |x| ≤ B) : |gated b x| ≤ B := by
  cases b
  · simpa using (abs_nonneg x).trans h
  · exact h

theorem abs_sumOver_le {n : Nat} {f : Fin n → Int} {B : Int} (h : ∀ i, |f i| ≤ B) : |sumOver f| ≤ n * B := by
  rw [sumOver_eq]
  calc |∑ i, f i| ≤ ∑ i, |f i| := Finset.abs_sum_le_sum_abs _ _
    _ ≤ ∑ _i : Fin n, B := Finset.sum_le_sum fun i _ => h i
    _ = n * B := by simp

/-- A sum over some of the indices is bounded as one over all. -/
theorem abs_sum_filter_le {n : Nat} {f : Fin n → Int} {B : Int} (P : Fin n → Prop) [DecidablePred P]
    (h : ∀ i, |f i| ≤ B) : |∑ i ∈ Finset.univ.filter P, f i| ≤ n * B := by
  rw [Finset.sum_filter, ← sumOver_eq]
  refine abs_sumOver_le fun i => ?_
  split
  · exact h i
  · simpa using (abs_nonneg _).trans (h i)

/-- R9 to R11: the bounds of the contributions. -/
structure Contributions.Bounded (c : Contributions) : Prop where
  cL : ∀ p : Pod, |c.cL[p]| ≤ 519336
  cS : ∀ p : Pod, |c.cS[p]| ≤ 519336
  t : ∀ k : Trunk, |c.t[k]| ≤ 130448
  pc : ∀ n : Player, |c.pc[n]| ≤ 32768

/-- R13: a sum over pods, one over trunks and one over players. -/
theorem natAbs_three_le {a b d : Int} (ha : |a| ≤ 24 * 519336) (hb : |b| ≤ 4 * 130448) (hd : d.natAbs ≤ 65536) :
    (a + b + d).natAbs ≤ 13051392 := by
  rw [Int.abs_eq_natAbs] at ha hb
  omega

section
variable (v : InForce) {c : Contributions} (hc : c.Bounded)
include hc

theorem rl_natAbs_le : (busSums v c).rl.natAbs ≤ 12464064 := by
  have h : |(busSums v c).rl| ≤ 24 * 519336 := abs_sumOver_le fun p => abs_gated_le (hc.cL p)
  rw [Int.abs_eq_natAbs] at h
  omega

theorem abs_rs_le : |(busSums v c).rs| ≤ 24 * 519336 := abs_sumOver_le fun p => abs_gated_le (hc.cS p)

theorem abs_t_le : |(busSums v c).t| ≤ 4 * 130448 := abs_sumOver_le fun k => abs_gated_le (hc.t k)

theorem rs_natAbs_le : (busSums v c).rs.natAbs ≤ 12464064 := by
  have h := abs_rs_le v hc
  rw [Int.abs_eq_natAbs] at h
  omega

theorem t_natAbs_le : (busSums v c).t.natAbs ≤ 521792 := by
  have h := abs_t_le v hc
  rw [Int.abs_eq_natAbs] at h
  omega

/-- R13: a player sum, whatever the routing. -/
theorem playerSum_natAbs_le (flag : Player → Bool) : (sumOver fun n : Player => gated (flag n) c.pc[n]).natAbs ≤ 65536 := by
  have h : |sumOver fun n : Player => gated (flag n) c.pc[n]| ≤ 2 * 32768 :=
    abs_sumOver_le fun n => abs_gated_le (hc.pc n)
  rw [Int.abs_eq_natAbs] at h
  omega

theorem ppod_natAbs_le : (busSums v c).ppod.natAbs ≤ 65536 := playerSum_natAbs_le hc fun n => (v.routing[n]).pod

theorem ptrk_natAbs_le : (busSums v c).ptrk.natAbs ≤ 65536 := playerSum_natAbs_le hc fun n => (v.routing[n]).trunk

theorem prec_natAbs_le : (busSums v c).prec.natAbs ≤ 65536 := playerSum_natAbs_le hc fun n => (v.routing[n]).record

theorem podFeedValue_natAbs_le (j : Pod) : (podFeedValue v c (busSums v c) j).natAbs ≤ 13051392 := by
  cases hj : v.roster.pods[j] with
  | false => rw [podFeedValue_of_notRoster c _ hj]; decide
  | true =>
    rw [podFeedValue_of_roster c hj]
    exact natAbs_three_le (abs_sum_filter_le _ hc.cL) (abs_t_le v hc) (ppod_natAbs_le v hc)

theorem trunkSendValue_natAbs_le (k : Trunk) : (trunkSendValue v c (busSums v c) k).natAbs ≤ 13051392 := by
  cases hk : v.roster.trunks[k] with
  | false => rw [trunkSendValue_of_notRoster c _ hk]; decide
  | true =>
    rw [trunkSendValue_of_roster c hk]
    exact natAbs_three_le (abs_rs_le v hc) (abs_sum_filter_le _ hc.t) (ptrk_natAbs_le v hc)

theorem recordValue_natAbs_le (o : RecordBus) : (recordValue v (busSums v c) o).natAbs ≤ 13051392 := by
  have gated_le (f : Bool) (y : Int) : (gated f y).natAbs ≤ y.natAbs := by
    cases f
    · exact Nat.zero_le _
    · exact le_rfl
  have room := gated_le (v.feeds.record[o]).room (busSums v c).rs
  have far := gated_le (v.feeds.record[o]).far (busSums v c).t
  have prompt := gated_le (v.feeds.record[o]).prompt (busSums v c).prec
  have pods := rs_natAbs_le v hc
  have trunks := t_natAbs_le v hc
  have players := prec_natAbs_le v hc
  rw [recordValue]
  omega

end

/-- Settles O18: the contributions lie in their bounds, and so do their sums. -/
theorem busSumsStayInTheirBounds : Obligations.BusSumsStayInTheirBounds := by
  intro v x r i hfeeds hgain hpods htrunks hplayers
  have hc : (contributions v x r i).Bounded := by
    constructor <;> intro p <;> simp only [contributions, Fin.getElem_fin, Vec.getElem_tab]
    · exact abs_rampScale_le (abs_scaled_le _ (lin12_le_max _)) (factor_le (hpods p).1 (hpods p).2.1)
    · exact abs_rampScale_le (abs_scaled_le _ (lin12_le_max _))
        (factor_le (factor_le (hpods p).1 (hpods p).2.1) (hpods p).2.2)
    · exact abs_gated_le (abs_rampScale_le (abs_scaled_le _ (lin12_le_of_le_24 (hfeeds.2.1 p).1.2)) (htrunks p))
    · exact abs_rampScale_le (abs_scaled_le _ (lin12_le_of_nonpos (hgain p i))) (hplayers p)
  have rl := rl_natAbs_le v hc
  have t := t_natAbs_le v hc
  have ppod := ppod_natAbs_le v hc
  exact ⟨⟨rl, rs_natAbs_le v hc, t, ppod, ptrk_natAbs_le v hc, prec_natAbs_le v hc, by omega⟩,
    fun j => ⟨podFeedValue_natAbs_le v hc j, podFeedValue_of_roster _⟩,
    fun k => ⟨trunkSendValue_natAbs_le v hc k, trunkSendValue_of_roster _⟩, recordValue_natAbs_le v hc⟩

/-! ### What an output does not depend on (R13 to R16) -/

theorem Frame.eq_of_positions {f g : Frame} (h : ∀ i : Fin 16, f[i] = g[i]) : f = g :=
  Vector.ext fun k hk => h ⟨k, hk⟩

/-- Outputs of the period that agree value by value are handed out alike. -/
theorem boundary_output_congr {order : List Work} {trunks : Vector Frame 4} {s u : State} {o : Output}
    (hforce : s.inForce = u.inForce)
    (h : ∀ v : InForce, s.inForce = some v → ∀ i : Fin 16, s.scaledAt v o i = u.scaledAt v o i) :
    (s.boundary order trunks).outputs[o] = (u.boundary order trunks).outputs[o] := by
  rw [boundary_outputs, boundary_outputs]
  refine Frame.eq_of_positions fun i => ?_
  cases hv : s.inForce with
  | none => rw [closePeriod_outputs_of_none hv, closePeriod_outputs_of_none (hforce ▸ hv)]
  | some v => rw [closePeriod_outputs_of_some hv, closePeriod_outputs_of_some (hforce ▸ hv), h v hv]

/-- The sums over trunks and players come from their contributions. -/
theorem busSums_congr {v : InForce} {c c' : Contributions} (ht : c'.t = c.t) (hpc : c'.pc = c.pc) :
    (busSums v c').t = (busSums v c).t ∧ (busSums v c').ppod = (busSums v c).ppod ∧
      (busSums v c').ptrk = (busSums v c).ptrk ∧ (busSums v c').prec = (busSums v c).prec := by
  simp only [busSums, ht, hpc, and_self]

/-- R14: the value of a pod feed comes from the pods outside its exclusion set. -/
theorem podFeedValue_congr {v : InForce} {c c' : Contributions} {j : Pod}
    (h : ∀ p : Pod, excluded v.roster v.feeds.zone j p = false → c'.cL[p] = c.cL[p]) (ht : c'.t = c.t)
    (hpc : c'.pc = c.pc) : podFeedValue v c' (busSums v c') j = podFeedValue v c (busSums v c) j := by
  cases hj : v.roster.pods[j] with
  | false => rw [podFeedValue_of_notRoster _ _ hj, podFeedValue_of_notRoster _ _ hj]
  | true =>
    obtain ⟨hbt, hppod, -⟩ := busSums_congr (v := v) ht hpc
    rw [podFeedValue_of_roster _ hj, podFeedValue_of_roster _ hj, hbt, hppod,
      Finset.sum_congr rfl fun p hp => h p (Finset.mem_filter.1 hp).2.2]

/-- R15: the value of a trunk send comes from the other trunks. -/
theorem trunkSendValue_congr {v : InForce} {c c' : Contributions} {k : Trunk} (hcS : c'.cS = c.cS)
    (h : ∀ l : Trunk, l ≠ k → c'.t[l] = c.t[l]) (hpc : c'.pc = c.pc) :
    trunkSendValue v c' (busSums v c') k = trunkSendValue v c (busSums v c) k := by
  cases hk : v.roster.trunks[k] with
  | false => rw [trunkSendValue_of_notRoster _ _ hk, trunkSendValue_of_notRoster _ _ hk]
  | true =>
    have hrs : (busSums v c').rs = (busSums v c).rs := by simp only [busSums, hcS]
    have hptrk : (busSums v c').ptrk = (busSums v c).ptrk := by simp only [busSums, hpc]
    rw [trunkSendValue_of_roster _ hk, trunkSendValue_of_roster _ hk, hrs, hptrk,
      Finset.sum_congr rfl fun l hl => h l (Finset.mem_filter.1 hl).2.2]

/-- Settles O19: a feed's and a send's value leaves the own inputs out of its sum. -/
theorem noOutputHearsItsOwnInput : Obligations.NoOutputHearsItsOwnInput := by
  refine ⟨fun order trunks s v j mics hs hv h => ?_, fun order trunks received s k hs h => ?_⟩
  · let u : State := { s with inputs := { s.inputs with pods := mics } }
    refine ⟨s.boundary order trunks, u.boundary order trunks, exec_boundary hs order trunks,
      exec_boundary (s := u) hs order trunks, boundary_output_congr (by rfl) fun w hw i => ?_⟩
    obtain rfl : v = w := Option.some.inj (hv.symm.trans hw)
    simp only [State.scaledAt, scaledOutputs_pod]
    refine congrArg (scaledPodFeed v _ · j) (podFeedValue_congr (fun p hp => ?_) (by rfl) (by rfl)).symm
    have hm := h p hp
    simp only [Fin.getElem_fin] at hm
    simp [contributions, podScaled, u, hm]
  · let u : State := { s with inputs := { s.inputs with trunks := received } }
    refine ⟨s.boundary order trunks, u.boundary order trunks, exec_boundary hs order trunks,
      exec_boundary (s := u) hs order trunks, boundary_output_congr (by rfl) fun w _ i => ?_⟩
    simp only [State.scaledAt, scaledOutputs_trunk]
    refine congrArg (scaledSend _ · _) (trunkSendValue_congr (by rfl) (fun l hl => ?_) (by rfl)).symm
    have hr := h l hl
    simp only [Fin.getElem_fin] at hr
    simp [contributions, u, hr]

/-! ### Privacy (R8, R9, R88) -/

/-- R8, R9: with a privacy ramp at 0 the pod's contribution to the send bus is 0. -/
theorem cS_of_privacy_zero {v : InForce} {x : Inputs} {r : Ramps} {i : Fin 16} {p : Pod}
    (h : (r.privacy[p]).value = 0) : (contributions v x r i).cS[p] = 0 := by
  simp only [Fin.getElem_fin] at h
  simp [contributions, sendFactor, h]

theorem Ramp.move_of_at_zero {r : Ramp} (hv : r.value = 0) (ht : r.target = 0) : r.move = r := by
  unfold Ramp.move
  rw [if_neg (by omega), hv, ht]
  cases r
  simp_all

theorem movesOf_privacy (n : Nat) (r : Ramps) (p : Pod) : (movesOf n r).privacy[p] = Ramp.move^[n] r.privacy[p] := by
  rw [movesOf_eq_map]
  simp [Ramps.map]

theorem rs_of_privacy_zero {v : InForce} {x : Inputs} {r : Ramps} {i : Fin 16}
    (h : ∀ p : Pod, (r.privacy[p]).value = 0) : (busSums v (contributions v x r i)).rs = 0 := by
  simp only [busSums, sumOver_eq]
  refine Finset.sum_eq_zero fun p _ => ?_
  rw [cS_of_privacy_zero (h p), gated_eq, ite_self]

/-- R15, R16: with the send bus at 0 no microphone reaches a trunk send or a record bus. -/
theorem scaledOutputs_far_congr {v : InForce} {x : Inputs} {r : Ramps} {i : Fin 16} (mics : Vector Frame 24)
    (h : ∀ p : Pod, (r.privacy[p]).value = 0) {o : Output} (ho : 24 ≤ o.1) :
    (scaledOutputs v { x with pods := mics } r i)[o] = (scaledOutputs v x r i)[o] := by
  have hrs (y : Inputs) : (busSums v (contributions v y r i)).rs = 0 := rs_of_privacy_zero h
  have ht : (contributions v { x with pods := mics } r i).t = (contributions v x r i).t := rfl
  have hpc : (contributions v { x with pods := mics } r i).pc = (contributions v x r i).pc := rfl
  obtain ⟨hbt, -, hptrk, hprec⟩ := busSums_congr (v := v) ht hpc
  rcases output_far ho with ⟨k, rfl⟩ | ⟨b, rfl⟩
  · rw [scaledOutputs_trunk, scaledOutputs_trunk, trunkSendValue, trunkSendValue, hrs, hrs, hbt, hptrk, ht]
  · rw [scaledOutputs_record, scaledOutputs_record, recordValue, recordValue, hrs, hrs, hbt, hprec]

/-- Settles O20: privacy ramps at rest at 0 stay there, and keep the send bus at 0. -/
theorem privacyKeepsPodsFromTheFarEnd : Obligations.PrivacyKeepsPodsFromTheFarEnd := by
  intro order trunks s mics hs hp
  let u : State := { s with inputs := { s.inputs with pods := mics } }
  refine ⟨s.boundary order trunks, u.boundary order trunks, exec_boundary hs order trunks,
    exec_boundary (s := u) hs order trunks, fun o ho => boundary_output_congr (by rfl) fun v _ i => ?_⟩
  refine (scaledOutputs_far_congr mics (fun p => ?_) ho).symm
  rw [movesOf_privacy, Function.iterate_fixed (Ramp.move_of_at_zero (hp p).1 (hp p).2)]
  exact (hp p).1

end Sys2Proof.Machine
end

section
/-! The gain tables are the nearest integers (Introduction, Conventions), and the outputs are the sums of the rules: O17. -/

namespace Sys2Proof.Machine

/-! ### The gain tables -/

/-- One pass over the bits below `n` closes in on the root: it was below `r + 2^n`, and is found exactly. -/
theorem root_bits_spec (y n r : Nat) (hr : r ^ 40 ≤ y) (hy : y < (r + 2 ^ n) ^ 40) :
    let m := (List.range n).reverse.foldl (fun r b => if (r + 2 ^ b) ^ 40 ≤ y then r + 2 ^ b else r) r
    m ^ 40 ≤ y ∧ y < (m + 1) ^ 40 := by
  induction n generalizing r with
  | zero => exact ⟨hr, hy⟩
  | succ n ih =>
    rw [List.range_succ, List.reverse_append, List.reverse_singleton, List.singleton_append, List.foldl_cons]
    split
    · rename_i hbit
      exact ih _ hbit (by rwa [Nat.add_assoc, ← Nat.two_mul, ← Nat.pow_succ'])
    · rename_i hbit
      exact ih _ hr (Nat.lt_of_not_le hbit)

/-- The root found bit by bit is the integer part of the 40th root. -/
theorem root40_spec {y : Nat} (hy : y < (2 ^ 18) ^ 40) : root40 y ^ 40 ≤ y ∧ y < (root40 y + 1) ^ 40 :=
  root_bits_spec y 18 0 (by simp) (by simpa using hy)

/-- The number whose 40th root `scaledPower` takes. -/
def scaledRadicand (scale : Nat) (k : Int) : Nat :=
  if 0 ≤ k then (2 * scale) ^ 40 * 10 ^ k.toNat else (2 * scale) ^ 40 / 10 ^ (-k).toNat

theorem scaledPower_eq (scale : Nat) (k : Int) : scaledPower scale k = (root40 (scaledRadicand scale k) + 1) / 2 := rfl

/-- 10^(k/40) to the 40th power. -/
theorem tenth_pow (k : Int) : ((10 : ℝ) ^ ((k : ℝ) / 40)) ^ 40 = (10 : ℝ) ^ k := by
  rw [← Real.rpow_natCast, ← Real.rpow_mul (by norm_num), ← Real.rpow_intCast]
  congr 1
  push_cast
  ring

/-- The integers whose 40th power the radicand reaches are those at most 2 × scale × 10^(k/40). -/
theorem pow_le_scaledRadicand (scale : Nat) (k : Int) (n : Nat) :
    n ^ 40 ≤ scaledRadicand scale k ↔ (n : ℝ) ≤ 2 * scale * (10 : ℝ) ^ ((k : ℝ) / 40) := by
  have hx : (0 : ℝ) ≤ 2 * scale * (10 : ℝ) ^ ((k : ℝ) / 40) := by positivity
  rw [← pow_le_pow_iff_left₀ (Nat.cast_nonneg n) hx (by norm_num : (40 : Nat) ≠ 0), mul_pow, tenth_pow, scaledRadicand]
  split
  · rename_i hk
    obtain ⟨m, rfl⟩ := Int.eq_ofNat_of_zero_le hk
    rw [Int.toNat_natCast, zpow_natCast, ← Nat.cast_le (α := ℝ)]
    push_cast
    rfl
  · rename_i hk
    obtain ⟨m, hm⟩ := Int.eq_ofNat_of_zero_le (show 0 ≤ -k by omega)
    obtain rfl : k = -(m : Int) := by omega
    rw [Int.neg_neg, Int.toNat_natCast, Nat.le_div_iff_mul_le (by positivity), zpow_neg, zpow_natCast,
      ← div_eq_mul_inv, le_div_iff₀ (by positivity), ← Nat.cast_le (α := ℝ)]
    push_cast
    rfl

/-- The root is the integer part of 2 × scale × 10^(k/40). -/
theorem root40_scaledRadicand {scale : Nat} {k : Int} (h : scaledRadicand scale k < (2 ^ 18) ^ 40) :
    (root40 (scaledRadicand scale k) : ℝ) ≤ 2 * scale * (10 : ℝ) ^ ((k : ℝ) / 40) ∧
      2 * scale * (10 : ℝ) ^ ((k : ℝ) / 40) < root40 (scaledRadicand scale k) + 1 := by
  obtain ⟨hle, hlt⟩ := root40_spec h
  refine ⟨(pow_le_scaledRadicand _ _ _).1 hle, lt_of_not_ge fun hge => ?_⟩
  exact absurd ((pow_le_scaledRadicand scale k _).2 (by exact_mod_cast hge)) (by omega)

/-- An odd power is no product with an even power. -/
theorem odd_pow_ne_even_pow_mul (m a e t : Nat) (he : e ≠ 0) : (2 * m + 1) ^ e ≠ (2 * a) ^ e * t := by
  intro h
  have hodd : Odd ((2 * m + 1) ^ e) := (odd_two_mul_add_one m).pow
  rw [h] at hodd
  exact Nat.not_even_iff_odd.2 hodd (((even_two_mul a).pow_of_ne_zero he).mul_right t)

/-- A power of a number that 5 does not divide is no multiple of a positive power of 10. -/
theorem mul_ten_pow_ne_pow {b : Nat} (h5 : ¬ 5 ∣ b) (c n e : Nat) : c * 10 ^ (n + 1) ≠ b ^ e := by
  intro h
  have hdvd : 5 ∣ c * 10 ^ (n + 1) := (Dvd.dvd.pow (by norm_num : 5 ∣ 10) (by omega)).mul_left c
  rw [h] at hdvd
  exact h5 ((by norm_num : Nat.Prime 5).dvd_of_dvd_pow hdvd)

/-- 2 × scale × 10^(k/40) is no odd integer where 5 does not divide 2 × scale, so no entry lies halfway. -/
theorem ne_odd {scale : Nat} (h5 : ¬ 5 ∣ 2 * scale) (k : Int) (m : Nat) :
    2 * scale * (10 : ℝ) ^ ((k : ℝ) / 40) ≠ (2 * m + 1 : Nat) := by
  intro h
  have hpow : ((2 * m + 1 : Nat) : ℝ) ^ 40 = (2 * scale : Nat) ^ 40 * (10 : ℝ) ^ k := by
    rw [← h, mul_pow, tenth_pow]
    push_cast
    rfl
  have he : (40 : Nat) ≠ 0 := by norm_num
  generalize (40 : Nat) = e at hpow he
  rcases Int.le_total 0 k with hk | hk
  · obtain ⟨n, rfl⟩ := Int.eq_ofNat_of_zero_le hk
    rw [zpow_natCast] at hpow
    have hnat : (2 * m + 1) ^ e = (2 * scale) ^ e * 10 ^ n := by exact_mod_cast hpow
    exact odd_pow_ne_even_pow_mul m scale e _ he hnat
  · obtain ⟨n, hn⟩ := Int.eq_ofNat_of_zero_le (show 0 ≤ -k by omega)
    obtain rfl : k = -(n : Int) := by omega
    rw [zpow_neg, zpow_natCast, ← div_eq_mul_inv, eq_div_iff (by positivity)] at hpow
    have hnat : (2 * m + 1) ^ e * 10 ^ n = (2 * scale) ^ e := by exact_mod_cast hpow
    cases n with
    | zero => exact odd_pow_ne_even_pow_mul m scale e 1 he (by rwa [Nat.pow_zero, Nat.mul_one, ← Nat.mul_one ((2 * scale) ^ e)] at hnat)
    | succ n => exact mul_ten_pow_ne_pow h5 _ n e hnat

/-- An entry is the integer nearest to scale × 10^(k/40). -/
theorem scaledPower_near {scale : Nat} (h5 : ¬ 5 ∣ 2 * scale) {k : Int} (h : scaledRadicand scale k < (2 ^ 18) ^ 40) :
    |(scaledPower scale k : ℝ) - scale * (10 : ℝ) ^ ((k : ℝ) / 40)| < 1 / 2 := by
  obtain ⟨hle, hlt⟩ := root40_scaledRadicand h
  rw [scaledPower_eq, abs_lt]
  generalize root40 (scaledRadicand scale k) = n at hle hlt
  rcases Nat.even_or_odd' n with ⟨m, rfl | rfl⟩
  · rw [show (2 * m + 1) / 2 = m by omega]
    push_cast at hle hlt
    constructor <;> linarith
  · have hne := (ne_odd h5 k m).symm
    have hlt' := lt_of_le_of_ne hle hne
    rw [show (2 * m + 1 + 1) / 2 = m + 1 by omega]
    push_cast at hlt hlt' ⊢
    constructor <;> linarith

theorem lin12_near {k : Int} (hlo : -120 ≤ k) (hhi : k ≤ 48) :
    |(lin12 k : ℝ) - 4096 * (10 : ℝ) ^ ((k : ℝ) / 40)| < 1 / 2 := by
  have hk : clampInt (-120) 48 k = k := by unfold clampInt; omega
  have hrad : scaledRadicand 4096 k < (2 ^ 18) ^ 40 := by
    unfold scaledRadicand
    split
    · calc (2 * 4096) ^ 40 * 10 ^ k.toNat ≤ (2 * 4096) ^ 40 * 10 ^ 48 :=
          Nat.mul_le_mul_left _ (Nat.pow_le_pow_right (by norm_num) (by omega))
        _ < (2 ^ 18) ^ 40 := by norm_num
    · exact (Nat.div_le_self _ _).trans_lt (by norm_num)
  have := scaledPower_near (by norm_num) hrad
  rw [lin12, hk]
  exact_mod_cast this

theorem lin15_near {k : Int} (hlo : -120 ≤ k) (hhi : k ≤ 0) :
    |(lin15 k : ℝ) - 32768 * (10 : ℝ) ^ ((k : ℝ) / 40)| < 1 / 2 := by
  have hk : clampInt (-120) 0 k = k := by unfold clampInt; omega
  have hrad : scaledRadicand 32768 k < (2 ^ 18) ^ 40 := by
    unfold scaledRadicand
    split
    · rw [show k.toNat = 0 by omega]
      norm_num
    · exact (Nat.div_le_self _ _).trans_lt (by norm_num)
  have := scaledPower_near (by norm_num) hrad
  rw [lin15, hk]
  exact_mod_cast this

/-- R7: a gain is clamped before the table is read. -/
theorem lin12_clamp (k : Int) : lin12 k = lin12 (max (-120) (min 48 k)) := by
  unfold lin12 clampInt
  congr 1
  omega

/-! ### The contributions written out (R7 to R11) -/

section
variable (v : InForce) (x : Inputs) (r : Ramps) (i : Fin 16)

/-- R7, R8, R9: a pod's contribution to the room's feeds. -/
theorem contributions_cL (p : Pod) :
    (contributions v x r i).cL[p] =
      (((x.pods[p])[i].toInt * lin12 (v.feeds.podFader[p] + v.alcGain[p]) + 2048) / 4096 *
        ((r.gate[p]).value * (r.localMute[p]).value / 32768 : Nat) + 16384) / 32768 := by
  simp [contributions, podScaled, scaledSample, podGain, rampScale, localFactor, roundShift_twelve, roundShift_fifteen]

/-- R7, R8, R9: a pod's contribution to the send bus. -/
theorem contributions_cS (p : Pod) :
    (contributions v x r i).cS[p] =
      (((x.pods[p])[i].toInt * lin12 (v.feeds.podFader[p] + v.alcGain[p]) + 2048) / 4096 *
        ((r.gate[p]).value * (r.localMute[p]).value / 32768 * (r.privacy[p]).value / 32768 : Nat) + 16384) / 32768 := by
  simp [contributions, podScaled, scaledSample, podGain, rampScale, localFactor, sendFactor, roundShift_twelve,
    roundShift_fifteen]

/-- R10: a trunk's contribution, of a trunk of the roster. -/
theorem contributions_t {k : Trunk} (h : v.roster.trunks[k] = true) :
    (contributions v x r i).t[k] =
      (((x.trunks[k])[i].toInt * lin12 v.feeds.trunkFader[k] + 2048) / 4096 * (r.trunkMute[k]).value + 16384) /
        32768 := by
  simp only [Fin.getElem_fin] at h
  simp [contributions, trunkScaled, rampScale, roundShift_twelve, roundShift_fifteen, h]

/-- R11: a player's contribution. -/
theorem contributions_pc (n : Player) :
    (contributions v x r i).pc[n] =
      ((((x.players[n])[i]).sample.toInt * lin12 ((x.players[n])[i]).gain + 2048) / 4096 * (r.player[n]).value + 16384) /
        32768 := by
  simp [contributions, rampScale, roundShift_twelve, roundShift_fifteen]

/-- R12: the far-end bus. -/
theorem busSums_contributions_t :
    (busSums v (contributions v x r i)).t = ∑ k : Trunk, if v.roster.trunks[k] then
      (((x.trunks[k])[i].toInt * lin12 v.feeds.trunkFader[k] + 2048) / 4096 * (r.trunkMute[k]).value + 16384) / 32768
      else 0 := by
  simp only [busSums, sumOver_eq, gated_eq]
  refine Finset.sum_congr rfl fun k _ => ?_
  split
  · rename_i h
    exact contributions_t v x r i h
  · rfl

/-- R17. -/
theorem scaledPodFeed_eq (a : Int) (j : Pod) :
    scaledPodFeed v r a j =
      (((a * lin12 v.feeds.volume[j] + 2048) / 4096 * (r.duck[j]).value + 16384) / 32768 * r.master.value + 16384) /
        32768 := by
  simp [scaledPodFeed, rampScale, roundShift_twelve, roundShift_fifteen]

/-- R18. -/
theorem scaledSend_eq (a gain : Int) :
    scaledSend r a gain = ((a * lin12 gain + 2048) / 4096 * r.master.value + 16384) / 32768 := by
  simp [scaledSend, rampScale, roundShift_twelve, roundShift_fifteen]

end

/-- R133: for feeds of the roster, the pods of the roster that are not excluded. -/
theorem excluded_false_iff {v : InForce} {j p : Pod} (hj : v.roster.pods[j] = true) (hp : v.roster.pods[p] = true) :
    excluded v.roster v.feeds.zone j p = false ↔
      ¬ (p = j ∨ (v.feeds.zone[j] ≠ 0 ∧ v.feeds.zone[p] = v.feeds.zone[j])) := by
  simp only [excluded, hj, hp, Bool.true_and, ← Bool.decide_and, ← Bool.decide_or, decide_eq_false_iff_not]

/-- Settles O17: each sum of the rules, by the equations of the contributions and of the mix-minus. -/
theorem outputsAreTheMixOfTheRules : Obligations.OutputsAreTheMixOfTheRules := by
  refine ⟨fun k hlo => ⟨lin12_near hlo, lin15_near hlo⟩, lin12_clamp, ?_⟩
  intro v x r i q rL cL cS tr pc mate far send scaled
  have hfar : (busSums v (contributions v x r i)).t = far := busSums_contributions_t v x r i
  have hsend : (busSums v (contributions v x r i)).rs = send := by
    simp only [busSums, sumOver_eq, gated_eq, contributions_cS, send, cS, q, rL]
  have hplayers (flag : Player → Bool) :
      (sumOver fun n => gated (flag n) (contributions v x r i).pc[n]) = ∑ n : Player, if flag n then pc n else 0 := by
    simp only [sumOver_eq, gated_eq, contributions_pc, pc]
  have hpod : (busSums v (contributions v x r i)).ppod = _ := hplayers fun n => (v.routing[n]).pod
  have htrunk : (busSums v (contributions v x r i)).ptrk = _ := hplayers fun n => (v.routing[n]).trunk
  have hrecord : (busSums v (contributions v x r i)).prec = _ := hplayers fun n => (v.routing[n]).record
  refine ⟨fun j hj => ?_, fun j hj => ?_, fun k hk => ?_, fun k hk => ?_, fun b => ?_⟩
  · have hpods : ∑ p ∈ Finset.univ.filter
          (fun p => v.roster.pods[p] = true ∧ excluded v.roster v.feeds.zone j p = false), (contributions v x r i).cL[p] =
        ∑ p ∈ Finset.univ.filter (fun p => v.roster.pods[p] = true ∧ ¬ mate j p), cL p := by
      refine Finset.sum_congr (Finset.filter_congr fun p _ => ?_) fun p _ => contributions_cL v x r i p
      exact and_congr_right fun hp => excluded_false_iff hj hp
    rw [scaledOutputs_pod, scaledPodFeed_eq, podFeedValue_of_roster _ hj, hpods, hfar, hpod]
  · rw [scaledOutputs_pod, scaledPodFeed_eq, podFeedValue_of_notRoster _ _ hj]
    norm_num
  · have hothers : ∑ l ∈ Finset.univ.filter (fun l => v.roster.trunks[l] = true ∧ l ≠ k), (contributions v x r i).t[l] =
        ∑ l ∈ Finset.univ.filter (fun l => v.roster.trunks[l] = true ∧ l ≠ k), tr l :=
      Finset.sum_congr rfl fun l hl => contributions_t v x r i (Finset.mem_filter.1 hl).2.1
    rw [scaledOutputs_trunk, scaledSend_eq, trunkSendValue_of_roster _ hk, hsend, hothers, htrunk]
  · rw [scaledOutputs_trunk, scaledSend_eq, trunkSendValue_of_notRoster _ _ hk]
    norm_num
  · rw [scaledOutputs_record, scaledSend_eq, recordValue, hsend, hfar, hrecord]
    rfl

end Sys2Proof.Machine
end

section
/-! The ramps (section 1.8): how pending settings come in force, and that a target is reached within its length: O22. -/

namespace Sys2Proof.Machine

/-! ### Settings that come in force (R22, R24) -/

theorem Ramp.takeJump_of_none {r : Ramp} (h : r.pendingJump = none) : r.takeJump = r := by
  rw [Ramp.takeJump, h]

theorem Ramp.takeJump_of_some {r : Ramp} {v : Nat} (h : r.pendingJump = some v) :
    r.takeJump = { r with value := v, target := v, arrivalPending := false, pendingJump := none } := by
  rw [Ramp.takeJump, h]

theorem Ramp.takeJump_pendingTarget (r : Ramp) : r.takeJump.pendingTarget = r.pendingTarget := by
  unfold Ramp.takeJump
  split <;> rfl

theorem Ramp.takeTarget_of_none {r : Ramp} (h : r.pendingTarget = none) : r.takeTarget = r := by
  rw [Ramp.takeTarget, h]

theorem Ramp.takeTarget_of_some {r : Ramp} {t len : Nat} (h : r.pendingTarget = some (t, len)) :
    r.takeTarget = { r with target := t, step := some (rampStep len), arrivalPending := true, pendingTarget := none } := by
  rw [Ramp.takeTarget, h]

/-- R22, R24: a target that comes in force, after the jump if one is pending. -/
theorem Ramp.comeInForce_of_target {r : Ramp} {t len : Nat} (h : r.pendingTarget = some (t, len)) :
    r.comeInForce = { r with
      value := r.pendingJump.getD r.value, target := t, step := some (rampStep len), arrivalPending := true
      pendingTarget := none, pendingJump := none } := by
  rw [Ramp.comeInForce, Ramp.takeTarget_of_some (by rw [Ramp.takeJump_pendingTarget, h])]
  cases hj : r.pendingJump with
  | none =>
    rw [Ramp.takeJump_of_none hj]
    cases r
    simp_all
  | some v => rw [Ramp.takeJump_of_some hj]; rfl

/-- R22: the step is 32768 / (length × 16), rounded up. -/
theorem rampStep_bounds {len : Nat} (h : 1 ≤ len) :
    32768 ≤ rampStep len * (len * 16) ∧ rampStep len * (len * 16) < 32768 + len * 16 := by
  have hmod := Nat.mod_add_div (32768 + len * 16 - 1) (len * 16)
  have hlt : (32768 + len * 16 - 1) % (len * 16) < len * 16 := Nat.mod_lt _ (by omega)
  rw [show rampStep len = (32768 + len * 16 - 1) / (len * 16) from rfl, Nat.mul_comm _ (len * 16)]
  omega

/-! ### Moves (R23) -/

theorem Ramp.move_of_lt {r : Ramp} (h : r.value < r.target) :
    r.move = { r with value := min r.target (r.value + r.step.getD 0) } := by
  rw [Ramp.move, if_pos h]

theorem Ramp.move_of_le {r : Ramp} (h : r.target ≤ r.value) :
    r.move = { r with value := max r.target (r.value - r.step.getD 0) } := by
  rw [Ramp.move, if_neg (by omega)]

theorem Ramp.move_of_eq {r : Ramp} (h : r.value = r.target) : r.move = r := by
  rw [Ramp.move_of_le h.ge, Nat.max_eq_left (by omega)]
  cases r
  simp_all

theorem Ramp.move_target (r : Ramp) : r.move.target = r.target := by
  unfold Ramp.move
  split <;> rfl

theorem Ramp.move_step (r : Ramp) : r.move.step = r.step := by
  unfold Ramp.move
  split <;> rfl

/-- R23: `n` moves close a distance of at most `n` steps. -/
theorem Ramp.iterate_move_reaches {n st : Nat} {r : Ramp} (hst : r.step = some st)
    (hup : r.target ≤ r.value + n * st) (hdown : r.value ≤ r.target + n * st) : (Ramp.move^[n] r).value = r.target := by
  induction n generalizing r with
  | zero => simp only [Function.iterate_zero, id]; omega
  | succ n ih =>
    rw [Function.iterate_succ_apply, ← Ramp.move_target r]
    rw [Nat.succ_mul] at hup hdown
    refine ih ((Ramp.move_step r).trans hst) ?_ ?_ <;> rw [Ramp.move_target] <;>
      rcases Nat.lt_or_ge r.value r.target with h | h
    · rw [Ramp.move_of_lt h, hst, Option.getD_some]; dsimp only; omega
    · have := (r.move_between.2 h).1; omega
    · have := (r.move_between.1 h.le).2; omega
    · rw [Ramp.move_of_le h, hst, Option.getD_some]; dsimp only; omega

/-- R22, R23: a target that comes in force is reached within its length. -/
theorem Ramp.reaches_target {r : Ramp} {t len : Nat} (h : r.pendingTarget = some (t, len)) (hlen : 1 ≤ len)
    (hb : r.Bounded) : (Ramp.move^[16 * len] r.comeInForce).value = t := by
  have hc := Ramp.comeInForce_of_target h
  have hbounded := Ramp.comeInForce_bounded hb
  have hvalue : r.comeInForce.value ≤ 32768 := hbounded.1
  have htarget : r.comeInForce.target ≤ 32768 := hbounded.2.1
  have hstep := (rampStep_bounds hlen).1
  rw [Nat.mul_comm, Nat.mul_comm len] at hstep
  rw [Ramp.iterate_move_reaches (st := rampStep len) (by rw [hc]) (by omega) (by omega), hc]

/-- Settles O22: each clause is one of the equations of the ramp's operations. -/
theorem rampsReachTheirTargetsInTheirLength : Obligations.RampsReachTheirTargetsInTheirLength := by
  intro r
  refine ⟨fun t len h => if_pos h, fun t len h => if_neg h, fun v => rfl, fun ht hj => ?_, fun v hj ht => ?_,
    fun t len ht hlen => ?_, fun t len ht hlen hb => ⟨by rw [Ramp.comeInForce_of_target ht],
      Ramp.reaches_target ht hlen hb⟩, fun st hst => ⟨fun h => ?_, fun h => ?_⟩, Ramp.move_of_eq, r.move_between.1,
    r.move_between.2, r.arrives_iff, rfl⟩
  · rw [Ramp.comeInForce, Ramp.takeJump_of_none hj, Ramp.takeTarget_of_none ht]
  · rw [Ramp.comeInForce, Ramp.takeTarget_of_none (r.takeJump_pendingTarget.trans ht), Ramp.takeJump_of_some hj]
    exact ⟨rfl, rfl, rfl, rfl, ht⟩
  · rw [Ramp.comeInForce_of_target ht]
    exact ⟨(rampStep_bounds hlen).1, (rampStep_bounds hlen).2, rfl⟩
  · rw [Ramp.move_of_lt h, hst, Option.getD_some]
  · rw [Ramp.move_of_le h.le, hst, Option.getD_some]

end Sys2Proof.Machine
end

section
/-! What the boundary opens the next period with: the takes of the links, the levels measured, the feed frames: O21. -/

namespace Sys2Proof.Machine

/-! ### One link at a boundary (R31 to R34, R39, R40) -/

/-- R33: the coast run that an empty take of a LOCKED or COASTING link brings. -/
def Link.nextCoastRun (l : Link) : Nat := if l.state = .coasting then l.coastRun + 1 else 1

section
variable (q : LinkParams) {l : Link}

/-- R39: the take of a link that holds a frame. -/
theorem Link.boundary_takes {f : MicFrame} {rest : List MicFrame} (hs : l.state.takes = true) (hf : l.fifo = f :: rest) :
    (l.boundary q).1.fifo = rest ∧ (l.boundary q).1.lastTaken = f ∧ (l.boundary q).2.1.samples = f.samples := by
  cases h : l.state with
  | off | absent | acquiring => rw [h] at hs; cases hs
  | settling =>
    simp only [Link.boundary, h, hf, Link.settlingTake]
    split <;> exact ⟨rfl, rfl, rfl⟩
  | locked | coasting =>
    simp only [Link.boundary, h, hf]
    exact ⟨rfl, rfl, rfl⟩

/-- R33, R34: the empty take of a link that can coast. -/
theorem Link.boundary_empty (hs : l.state.trusted = true) (hf : l.fifo = []) :
    l.boundary q = l.emptyTake q l.nextCoastRun := by
  cases h : l.state with
  | off | absent | acquiring | settling => rw [h] at hs; cases hs
  | locked | coasting => simp [Link.boundary, h, hf, Link.nextCoastRun]

theorem Link.boundary_underrun (hs : l.state = .settling) (hf : l.fifo = []) : (l.boundary q).2.1 = .nothing := by
  simp only [Link.boundary, hs, hf]

theorem Link.boundary_of_not_takes (hs : l.state.takes = false) : (l.boundary q).2.1 = .nothing := by
  cases h : l.state with
  | off | absent | acquiring => simp only [Link.boundary, h]
  | settling | locked | coasting => rw [h] at hs; cases hs

theorem Link.emptyTake_feedSequence (run : Nat) (l : Link) : (l.emptyTake q run).1.feedSequence = l.feedSequence := by
  unfold Link.emptyTake
  split <;> rfl

/-- R44: the feed sequence is not the take's to change. -/
theorem Link.boundary_feedSequence (l : Link) : (l.boundary q).1.feedSequence = l.feedSequence := by
  unfold Link.boundary
  split
  · rfl
  · rfl
  · unfold Link.acquiringBoundary
    split <;> rfl
  · split
    · unfold Link.settlingTake
      dsimp only
      split <;> rfl
    · rfl
  · split
    · rfl
    · exact Link.emptyTake_feedSequence q _ l
  · split
    · rfl
    · exact Link.emptyTake_feedSequence q _ l

end

/-! ### The takes of a boundary -/

/-- That a pod's link and its samples are left alone. -/
def PodKept (p : Pod) (s t : State) : Prop := t.links[p] = s.links[p] ∧ t.inputs.pods[p] = s.inputs.pods[p]

theorem PodKept.trans {p : Pod} {s t u : State} (h : PodKept p s t) (k : PodKept p t u) : PodKept p s u :=
  ⟨k.1.trans h.1, k.2.trans h.2⟩

theorem PodKept.of_moves {p : Pod} {A : List Part} {s t : State} (h : Moves A s t) (hl : Part.links ∉ A)
    (hi : Part.podInputs ∉ A) : PodKept p s t := by
  have links : t.links = s.links := h.frame .links hl
  have inputs : t.inputs.pods = s.inputs.pods := h.frame .podInputs hi
  rw [PodKept, links, inputs]
  exact ⟨rfl, rfl⟩

theorem take_links (p : Pod) (g : Progress) :
    (g.take p).state.links = Vec.put g.state.links p ((g.state.links[p]).boundary g.state.linkParams).1 := by
  simp only [Progress.take, State.placeTake, State.linkBoundary, State.moveLink_links]

theorem take_inputs (p : Pod) (g : Progress) :
    (g.take p).state.inputs.pods = Vec.put g.state.inputs.pods p (g.state.linkYield p).samples := by
  simp only [Progress.take, State.placeTake, State.linkBoundary, State.moveLink_inputs]

/-- No work but its own take touches a pod's link and samples. -/
theorem work_podKept (before : State) (a : Arrivals) (g : Progress) {w : Work} {p : Pod} (h : w ≠ .take p) :
    PodKept p g.state (g.work before a w).state := by
  cases w with
  | take q =>
    have hne : (q : Nat) ≠ p := fun e => h (by rw [Fin.ext e])
    rw [PodKept, work_take, take_links, take_inputs]
    exact ⟨Vec.getElem_put_ne _ _ _ _ p.2 hne, Vec.getElem_put_ne _ _ _ _ p.2 hne⟩
  | keys | automixer | player n | levelControl | session =>
    exact .of_moves (work_moves before a g _) (by simp only [partsOf]; decide) (by simp only [partsOf]; decide)

theorem works_podKept (before : State) (a : Arrivals) (g : Progress) (l : List Work) {p : Pod} (h : Work.take p ∉ l) :
    PodKept p g.state (l.foldl (Progress.work before a) g).state := by
  induction l generalizing g with
  | nil => exact ⟨rfl, rfl⟩
  | cons w rest ih =>
    exact (work_podKept before a g fun e => h (by simp [e])).trans (ih _ fun hw => h (List.mem_cons_of_mem w hw))

/-- R3, R39: after the work of a boundary each link has moved once, and its take has given the pod's samples. -/
theorem worked_pod (order : List Work) (s : State) (p : Pod) :
    (s.worked order).links[p] = ((s.links[p]).boundary s.linkParams).1 ∧
      (s.worked order).inputs.pods[p] = ((s.links[p]).boundary s.linkParams).2.1.samples := by
  obtain ⟨l₁, l₂, hsched, h₁, h₂⟩ := schedule_split (.take p) order
  unfold State.worked State.boundaryWork
  rw [hsched, List.foldl_append, List.foldl_cons, work_take]
  generalize hg : l₁.foldl (Progress.work s s.closePeriod.ramps.arrivals) _ = g
  have hlink : g.state.links[p] = s.links[p] := by
    rw [← hg]
    exact (works_podKept s _ { state := s.begun, keys := _ } l₁ h₁).1.trans (by rw [begun_eq])
  have hparams : g.state.linkParams = s.linkParams := by
    rw [← hg]
    exact ((works_moves s _ { state := s.begun, keys := _ } l₁).frame .linkParams (by decide)).trans (by rw [begun_eq])
  obtain ⟨hlinks, hinputs⟩ := works_podKept s s.closePeriod.ramps.arrivals (g.take p) l₂ h₂
  rw [hlinks, hinputs, take_links, take_inputs, State.linkYield, hlink, hparams]
  simp

/-! ### The end of the boundary -/

/-- The state that the feed frames are formed from. -/
def State.beforeFeeds (order : List Work) (trunks : Vector Frame 4) (s : State) : State :=
  ((((s.worked order).judgeDucks s).placeTrunks trunks).measureAll).giveLeds s

theorem ready_eq (order : List Work) (trunks : Vector Frame 4) (s : State) :
    s.ready order trunks = (s.beforeFeeds order trunks).sendFeeds := rfl

theorem beforeFeeds_moves (order : List Work) (trunks : Vector Frame 4) (s : State) :
    Moves [.ducks, .duckRamps, .trunkInputs, .detectors, .mutes] (s.worked order) (s.beforeFeeds order trunks) := by
  have ducked : Moves [.ducks, .duckRamps, .trunkInputs, .detectors, .mutes] _ _ :=
    (judgeDucks_moves (s.worked order) s).wide (by decide)
  have placed : Moves [.ducks, .duckRamps, .trunkInputs, .detectors, .mutes] _
      (((s.worked order).judgeDucks s).placeTrunks trunks) := ducked.trans ((moves_trunkInputs _ _).wide (by decide))
  exact (placed.trans ((moves_detectors _ _).wide (by decide))).trans ((moves_mutes _ _).wide (by decide))

section
variable (s : State)

theorem openPeriod_inForce :
    s.openPeriod.inForce = some { roster := s.session.roster, feeds := s.router.feeds,
                                  alcGain := Vec.tab fun p => (s.alc.records[p]).gain,
                                  routing := Vec.tab fun n => (s.player n).routing } := rfl

/-- R44: the feed sequence of a link that is not OFF goes on. -/
theorem sendFeeds_links (p : Pod) :
    s.sendFeeds.links[p] = if (s.links[p]).state = .off then s.links[p]
      else { s.links[p] with feedSequence := (s.links[p]).feedSequence + 1 } := by
  simp [State.sendFeeds]

theorem sendFeeds_feedFrames (p : Pod) :
    s.sendFeeds.feedFrames[p] = if (s.links[p]).state = .off then none
      else some ((s.links[p]).feedFrame s.outputs[podChannel p] s.mutes.led[p]) := by
  simp [State.sendFeeds]

/-- R44, R45: the feed frame that a link leaves the boundary with. -/
theorem sendFeeds_frame_of_state (p : Pod) :
    s.sendFeeds.feedFrames[p] =
      if (s.sendFeeds.links[p]).state = .off then none
      else if (s.sendFeeds.links[p]).state.trusted then
        some { sequence := (s.links[p]).feedSequence, led := s.mutes.led[p], samples := s.outputs[podChannel p] }
      else some { sequence := (s.links[p]).feedSequence, led := .off, samples := silentFrame } := by
  have hstate : (s.sendFeeds.links[p]).state = (s.links[p]).state := by
    rw [sendFeeds_links]
    split <;> rfl
  rw [sendFeeds_feedFrames, hstate, Link.feedFrame]
  split
  · rfl
  · split <;> rfl

end

/-- The duck judging leaves the roster alone, and the trunk samples follow it (R4). -/
theorem beforeFeeds_trunks (order : List Work) (trunks : Vector Frame 4) (s : State) (k : Trunk) :
    (s.beforeFeeds order trunks).inputs.trunks[k] = if s.session.roster.trunks[k] then trunks[k] else silentFrame := by
  have hroster : ((s.worked order).judgeDucks s).session.roster = s.session.roster := by
    have hb : s.begun.session.roster = s.session.roster := by rw [begun_eq]
    have hw : (s.worked order).session.roster = _ := (worked_moves order s).frame .roster (by decide)
    have hd : ((s.worked order).judgeDucks s).session.roster = _ := (judgeDucks_moves _ s).frame .roster (by decide)
    rw [hd, hw, hb]
  simp only [State.beforeFeeds, State.giveLeds, State.measureAll, State.placeTrunks, hroster]
  simp

/-- R49: what is measured is the input of the period opened. -/
theorem beforeFeeds_detectors (order : List Work) (trunks : Vector Frame 4) (s : State) (c : Channel) :
    (s.beforeFeeds order trunks).detectors[c] =
      (s.detectors[c]).measure ((s.beforeFeeds order trunks).inputs.measured c) := by
  have hkept : ((s.worked order).judgeDucks s).detectors = s.detectors := by
    have hb : s.begun.detectors = s.detectors := by rw [begun_eq]
    have hw : (s.worked order).detectors = _ := (worked_moves order s).frame .detectors (by decide)
    have hd : ((s.worked order).judgeDucks s).detectors = _ := (judgeDucks_moves _ s).frame .detectors (by decide)
    rw [hd, hw, hb]
  simp only [State.beforeFeeds, State.giveLeds, State.measureAll, State.placeTrunks, hkept]
  simp

/-- Opening the period and sending the feeds write the ramps, the values in force, the links and the feed frames. -/
theorem boundary_fields (order : List Work) (trunks : Vector Frame 4) (s : State) :
    (s.boundary order trunks).inputs = (s.beforeFeeds order trunks).inputs ∧
      (s.boundary order trunks).detectors = (s.beforeFeeds order trunks).detectors ∧
      (s.boundary order trunks).outputs = (s.beforeFeeds order trunks).outputs ∧
      (s.boundary order trunks).mutes = (s.beforeFeeds order trunks).mutes ∧
      (s.boundary order trunks).links = (s.beforeFeeds order trunks).sendFeeds.links ∧
      (s.boundary order trunks).feedFrames = (s.beforeFeeds order trunks).sendFeeds.feedFrames := by
  rw [boundary_eq, ready_eq]
  generalize s.beforeFeeds order trunks = u
  exact ⟨rfl, rfl, rfl, rfl, rfl, rfl⟩

/-! ### Levels (R50 to R52, R56) -/

section
variable (d : Detector)

theorem Detector.updateFloor_levels :
    d.updateFloor.frameLevel = d.frameLevel ∧ d.updateFloor.peak = d.peak ∧ d.updateFloor.smoothed = d.smoothed := by
  unfold Detector.updateFloor
  split
  · exact ⟨rfl, rfl, rfl⟩
  · split <;> exact ⟨rfl, rfl, rfl⟩

theorem Detector.updateFloor_of_lt (h : d.smoothed < d.noiseFloor) :
    d.updateFloor = { d with noiseFloor := d.smoothed, riseCounter := 0 } := by
  rw [Detector.updateFloor, if_pos h]

theorem Detector.updateFloor_of_counting (h : d.noiseFloor ≤ d.smoothed) (hr : d.riseCounter + 1 < 64) :
    d.updateFloor = { d with riseCounter := d.riseCounter + 1 } := by
  rw [Detector.updateFloor, if_neg (by omega), if_neg (by omega)]

theorem Detector.updateFloor_of_rise (h : d.noiseFloor ≤ d.smoothed) (hr : 64 ≤ d.riseCounter + 1) :
    d.updateFloor = { d with noiseFloor := min (d.noiseFloor + 1) d.smoothed, riseCounter := 0 } := by
  rw [Detector.updateFloor, if_neg (by omega), if_pos hr]

/-- R51: at an equal level both rules leave the smoothed level as it is. -/
theorem smooth_eq (level smoothed : Int) :
    smooth level smoothed = if smoothed ≤ level then smoothed + (level - smoothed + 1) / 2
      else smoothed - (smoothed - level + 15) / 16 := by
  unfold smooth
  split
  · rw [if_pos (by omega)]
  · split
    · rw [if_neg (by omega)]
    · rw [if_pos (by omega)]
      omega

end

/-! ### Ramps that only the moves touch -/

theorem boundary_ramps (order : List Work) (trunks : Vector Frame 4) (s : State) :
    (s.boundary order trunks).ramps = (s.ready order trunks).ramps.map Ramp.comeInForce := by
  rw [boundary_eq, openPeriod_ramps]

theorem ready_kept (order : List Work) (trunks : Vector Frame 4) (s : State) {q : Part}
    (h : q ∉ workParts ++ finishParts) : q.kept s.begun (s.ready order trunks) := by
  rw [List.mem_append, not_or] at h
  exact Part.kept_trans ((worked_moves order s).frame q h.1) ((ready_moves order trunks s).frame q h.2)

theorem begun_ramps (s : State) : s.begun.ramps = s.ramps.map (Ramp.passed s.inForce.isSome) := by rw [begun_eq]

theorem boundary_privacy (order : List Work) (trunks : Vector Frame 4) (s : State) (p : Pod) :
    (s.boundary order trunks).ramps.privacy[p] = ((s.ramps.privacy[p]).passed s.inForce.isSome).comeInForce := by
  have h : (s.ready order trunks).ramps.privacy = s.begun.ramps.privacy :=
    ready_kept order trunks s (q := .privacyRamps) (by decide)
  rw [boundary_ramps]
  simp [Ramps.map, h, begun_ramps]

theorem boundary_trunkMute (order : List Work) (trunks : Vector Frame 4) (s : State) (k : Trunk) :
    (s.boundary order trunks).ramps.trunkMute[k] = ((s.ramps.trunkMute[k]).passed s.inForce.isSome).comeInForce := by
  have h : (s.ready order trunks).ramps.trunkMute = s.begun.ramps.trunkMute :=
    ready_kept order trunks s (q := .trunkMuteRamps) (by decide)
  rw [boundary_ramps]
  simp [Ramps.map, h, begun_ramps]

/-- R2: what the period opened has in force is what is set as the boundary ends. -/
theorem boundary_inForce (order : List Work) (trunks : Vector Frame 4) (s : State) :
    (s.boundary order trunks).inForce = some
      { roster := s.session.roster, feeds := s.router.feeds,
        alcGain := Vec.tab fun p => ((s.boundary order trunks).alc.records[p]).gain,
        routing := Vec.tab fun n => ((s.boundary order trunks).player n).routing } := by
  have hroster : (s.ready order trunks).session.roster = s.session.roster := by
    rw [show (s.ready order trunks).session.roster = s.begun.session.roster from
      ready_kept order trunks s (q := .roster) (by decide), begun_eq]
  have hfeeds : (s.ready order trunks).router.feeds = s.router.feeds := by
    rw [show (s.ready order trunks).router.feeds = s.begun.router.feeds from
      ready_kept order trunks s (q := .feeds) (by decide), begun_eq]
  rw [boundary_eq, openPeriod_inForce, hroster, hfeeds]
  generalize s.ready order trunks = u
  rfl

/-- R3, R39 to R41: the samples that a take gives, in each state of the link. -/
theorem takes_of_link (q : LinkParams) (l : Link) :
    let run := if l.state = .coasting then l.coastRun + 1 else 1
    (∀ (f : MicFrame) (rest : List MicFrame), l.state.takes = true → l.fifo = f :: rest →
      (l.boundary q).2.1.samples = f.samples ∧ (l.boundary q).1.fifo = rest ∧ (l.boundary q).1.lastTaken = f) ∧
    (l.state.trusted = true → l.fifo = [] → run < q.unlockCount → ∀ i : Fin 16, ((l.boundary q).2.1.samples)[i] =
      if run ≤ 4 then ((l.lastTaken.samples)[i]).sshiftRight run else 0) ∧
    (l.state.trusted = true → l.fifo = [] → q.unlockCount ≤ run → (l.boundary q).2.1.samples = silentFrame) ∧
    (l.state = .settling → l.fifo = [] → (l.boundary q).2.1.samples = silentFrame) ∧
    (l.state.takes = false → (l.boundary q).2.1.samples = silentFrame) := by
  intro run
  refine ⟨fun f rest hs hf => ?_, fun hs hf hrun i => ?_, fun hs hf hrun => ?_, fun hs hf => ?_, fun hs => ?_⟩
  · obtain ⟨hrest, hlast, hsamples⟩ := Link.boundary_takes q hs hf
    exact ⟨hsamples, hrest, hlast⟩
  · rw [Link.boundary_empty q hs hf, Link.emptyTake, if_neg (Nat.not_le.2 (show l.nextCoastRun < _ from hrun))]
    exact Vec.getElem_tab _ _ i.2
  · rw [Link.boundary_empty q hs hf, Link.emptyTake, if_pos (show _ ≤ l.nextCoastRun from hrun), Yield.samples]
  · rw [Link.boundary_underrun q hs hf, Yield.samples]
  · rw [Link.boundary_of_not_takes q hs, Yield.samples]

/-- R50 to R52, R56: a detector after a measurement. -/
theorem Detector.measure_spec (d : Detector) (f : Frame) :
    let e := d.measure f
    let level := levelOfFrame f
    e.frameLevel = some level ∧ e.peak = max d.peak (framePeak f) ∧
    e.smoothed = (if d.smoothed ≤ level then d.smoothed + (level - d.smoothed + 1) / 2
      else d.smoothed - (d.smoothed - level + 15) / 16) ∧
    (e.smoothed < d.noiseFloor → e.noiseFloor = e.smoothed ∧ e.riseCounter = 0) ∧
    (d.noiseFloor ≤ e.smoothed → d.riseCounter + 1 < 64 →
      e.noiseFloor = d.noiseFloor ∧ e.riseCounter = d.riseCounter + 1) ∧
    (d.noiseFloor ≤ e.smoothed → 64 ≤ d.riseCounter + 1 →
      e.noiseFloor = min (d.noiseFloor + 1) e.smoothed ∧ e.riseCounter = 0) := by
  simp only [Detector.measure]
  generalize levelOfFrame f = level
  let u : Detector := { d with frameLevel := some level, smoothed := smooth level d.smoothed, peak := max d.peak (framePeak f) }
  obtain ⟨hlevel, hpeak, hsmooth⟩ := u.updateFloor_levels
  rw [hlevel, hpeak, hsmooth]
  refine ⟨rfl, rfl, smooth_eq level d.smoothed, fun h => ?_, fun h hr => ?_, fun h hr => ?_⟩
  · rw [Detector.updateFloor_of_lt u h]
    exact ⟨rfl, rfl⟩
  · rw [Detector.updateFloor_of_counting u h hr]
    exact ⟨rfl, rfl⟩
  · rw [Detector.updateFloor_of_rise u h hr]
    exact ⟨rfl, rfl⟩

/-- A link after the feeds are sent, in what the takes left it with. -/
theorem boundary_link (order : List Work) (trunks : Vector Frame 4) (s : State) (p : Pod) :
    ((s.boundary order trunks).links[p]).fifo = ((s.links[p]).boundary s.linkParams).1.fifo ∧
      ((s.boundary order trunks).links[p]).lastTaken = ((s.links[p]).boundary s.linkParams).1.lastTaken := by
  obtain ⟨-, -, -, -, hlinks, -⟩ := boundary_fields order trunks s
  have hkept : (s.beforeFeeds order trunks).links = _ := (beforeFeeds_moves order trunks s).frame .links (by decide)
  rw [hlinks, sendFeeds_links, hkept, (worked_pod order s p).1]
  split <;> exact ⟨rfl, rfl⟩

theorem boundary_podInput (order : List Work) (trunks : Vector Frame 4) (s : State) (p : Pod) :
    (s.boundary order trunks).inputs.pods[p] = ((s.links[p]).boundary s.linkParams).2.1.samples := by
  have hkept : (s.beforeFeeds order trunks).inputs.pods = _ :=
    (beforeFeeds_moves order trunks s).frame .podInputs (by decide)
  rw [(boundary_fields order trunks s).1, hkept, (worked_pod order s p).2]

/-- R44, R45. -/
theorem boundary_feedFrame (order : List Work) (trunks : Vector Frame 4) (s : State) (p : Pod) :
    let t := s.boundary order trunks
    t.feedFrames[p] =
      if (t.links[p]).state = .off then none
      else if (t.links[p]).state.trusted then
        some { sequence := (s.links[p]).feedSequence, led := t.mutes.led[p], samples := t.outputs[podChannel p] }
      else some { sequence := (s.links[p]).feedSequence, led := .off, samples := silentFrame } := by
  intro t
  obtain ⟨-, -, houtputs, hmutes, hlinks, hframes⟩ := boundary_fields order trunks s
  have hkept : (s.beforeFeeds order trunks).links = _ := (beforeFeeds_moves order trunks s).frame .links (by decide)
  have hsequence : ((s.beforeFeeds order trunks).links[p]).feedSequence = (s.links[p]).feedSequence := by
    rw [hkept, (worked_pod order s p).1, Link.boundary_feedSequence]
  simp only [t]
  rw [houtputs, hmutes, hlinks, hframes, sendFeeds_frame_of_state, hsequence]

/-- Settles O21: each part of the new period from the lemma of the work that gives it. -/
theorem boundaryOpensThePeriod : Obligations.BoundaryOpensThePeriod := by
  intro order trunks s hs
  obtain ⟨hinputs, hdetectors, -⟩ := boundary_fields order trunks s
  refine ⟨s.boundary order trunks, exec_boundary hs order trunks, boundary_inForce order trunks s,
    fun k => ?_, ⟨boundary_privacy order trunks s, boundary_trunkMute order trunks s, boundary_master order trunks s⟩,
    fun p => ?_, fun c => ?_, boundary_feedFrame order trunks s⟩
  · rw [hinputs, beforeFeeds_trunks]
  · obtain ⟨hfifo, hlast⟩ := boundary_link order trunks s p
    dsimp only
    rw [boundary_podInput, hfifo, hlast]
    exact takes_of_link s.linkParams s.links[p]
  · dsimp only
    rw [hdetectors, hinputs, beforeFeeds_detectors]
    exact Detector.measure_spec _ _

end Sys2Proof.Machine
end

section
/-! The commands to the players and the arrivals of their ramps: O46. -/

namespace Sys2Proof.Machine

@[simp] theorem Vec.put_put {α : Type} {n : Nat} (v : Vector α n) (i : Fin n) (x y : α) :
    Vec.put (Vec.put v i x) i y = Vec.put v i y := by
  ext k hk
  by_cases h : i.1 = k <;> simp [Vec.getElem_put, h]

/-! ### Requests -/

/-- A request that is taken is answered, and has the effect that its verdict gives. -/
theorem takeRequest_verdict {ty tag : Byte} {n : Nat} {judge : State → Verdict} {s : State} {v : Verdict} (h : s.takes)
    (hv : judge s.hunt = v) :
    takeRequest ty tag n judge s = v.effect (s.answered (answerType ty) tag (v.status.code :: v.fields)) := by
  rw [takeRequest_of_takes h, hv, hunt_queueAnswer]

/-! ### The end of a cue (R152, R172) -/

theorem release_eq (st : ClipStore) (c : ClipId) : st.release c = { st with clips := (st.release c).clips } := rfl

/-- R152: one reference given back. -/
theorem release_clip (st : ClipStore) (c d : ClipId) :
    (st.release c).clips[d] =
      { st.clips[d] with references := (st.clips[d]).references - if c = d then 1 else 0 } := by
  by_cases h : c = d
  · subst h
    simp [ClipStore.release, ClipStore.setClip]
  · rw [if_neg h]
    exact Vec.getElem_put_ne _ _ _ _ d.2 fun e => h (Fin.ext e)

/-- R152: the references of a cue's segments given back one by one. -/
theorem foldl_release_clip (cue : List Segment) (st : ClipStore) (d : ClipId) :
    ((cue.map Segment.clip).foldl ClipStore.release st).clips[d] =
      { st.clips[d] with
        references := (st.clips[d]).references - (cue.filter fun g => g.clip == d).length } := by
  induction cue generalizing st with
  | nil => rfl
  | cons g rest ih =>
    rw [List.map_cons, List.foldl_cons, ih, release_clip, List.filter_cons]
    by_cases h : g.clip = d
    · simp only [h, beq_self_eq_true, if_true, List.length_cons]
      rw [Nat.sub_sub, Nat.add_comm]
    · simp only [h, beq_iff_eq, if_false, Nat.sub_zero]

theorem foldl_release (cue : List Segment) (st : ClipStore) :
    (cue.map Segment.clip).foldl ClipStore.release st =
      { st with clips := ((cue.map Segment.clip).foldl ClipStore.release st).clips } := by
  induction cue generalizing st with
  | nil => rfl
  | cons g rest ih =>
    rw [List.map_cons, List.foldl_cons]
    exact (ih _).trans (by rw [release_eq])

/-- R172: the store after a cue has ended. -/
theorem foldl_release_storeReleasing (cue : List Segment) (s : State) :
    (cue.map Segment.clip).foldl ClipStore.release s.store = s.storeReleasing cue := by
  rw [foldl_release, State.storeReleasing]
  refine congrArg (fun clips => { s.store with clips := clips }) (Vector.ext fun i hi => ?_)
  rw [Vec.getElem_tab]
  exact foldl_release_clip cue s.store ⟨i, hi⟩

/-- R172, R173: a player that reaches IDLE. -/
theorem playerIdle_eq (n : Player) (reason : DoneReason) (s : State) :
    s.playerIdle n reason =
      { s with players := Vec.put s.players n PlayerRecord.reset
               store := s.storeReleasing (s.player n).cue }.post .player 0xE8
        (playerByte n :: reason.code :: u8 (s.player n).current :: u24 (s.player n).played) := by
  rw [State.playerIdle, State.playerDone, State.setPlayer, State.onStore, foldl_release_storeReleasing]

/-! ### The arrival of a player's ramp (R25, R167) -/

theorem Ramp.clearArrival_of_arrives {r : Ramp} (h : r.arrives = true) :
    r.clearArrival = { r with arrivalPending := false } := by
  rw [Ramp.clearArrival, if_pos h]

theorem exec_playerRampArrival {n : Player} {s : State} (hs : s.outOfReset) (ha : (s.ramps.player[n]).arrives = true)
    (h0 : (s.ramps.player[n]).target = 0) :
    exec (.playerRampArrival n) s = .next
      ({ s with ramps := { s.ramps with
          player := Vec.put s.ramps.player n { s.ramps.player[n] with arrivalPending := false } } }.playerArrival n) := by
  have hzero : (s.ramps.player[n]).arrivesAtZero = true := by
    rw [Ramp.arrivesAtZero, ha, h0]
    rfl
  refine congrArg Host.Outcome.next ((unlessInReset_of_outOfReset hs).trans ?_)
  rw [if_pos hzero, State.onPlayerRamp, Ramp.clearArrival_of_arrives ha]

section
variable {n : Player} {s : State}

theorem playerArrival_of_paused (h : (s.player n).state = .paused) :
    s.playerArrival n = { s with players := Vec.put s.players n { s.player n with advancing := false } } := by
  rw [State.playerArrival, h]
  rfl

theorem playerArrival_of_aborting (h : (s.player n).state = .aborting) :
    s.playerArrival n = s.playerIdle n ((s.player n).abortReason.getD .aborted) := by
  rw [State.playerArrival, h]

theorem playerArrival_of_other (h : (s.player n).state = .idle ∨ (s.player n).state = .cued ∨ (s.player n).state = .playing) :
    s.playerArrival n = s := by
  rw [State.playerArrival]
  rcases h with h | h | h <;> rw [h]

end

/-! ### GO, PAUSE, RESUME, ABORT -/

theorem MixerState.live_iff (m : MixerState) : m.live = true ↔ m = .starting ∨ m = .running := by
  cases m <;> simp [MixerState.live]

/-- A record and a ramp given to a player after its request has been answered. -/
def State.playerGiven (u : State) (n : Player) (x : PlayerRecord) (ramp : Ramp) : State :=
  { u with players := Vec.put u.players n x, ramps := { u.ramps with player := Vec.put u.ramps.player n ramp } }

section
variable (n : Player) (s : State)

theorem startPlaying_eq :
    s.startPlaying n = s.playerGiven n { s.player n with state := .playing, advancing := true }
      (((s.ramps.player[n]).jump 0).setTarget 32768 4) := by
  simp only [State.startPlaying, State.fadeIn, State.onPlayerRamp, State.setPlayer, Vec.put_put, Fin.getElem_fin,
    Vec.getElem_put_self]
  rfl

end

/-- The verdicts on the four commands that name a player, where the byte names none. -/
theorem judgePlayer_of_none {b : Byte} (h : b.toNat = 0 ∨ 2 < b.toNat) (s : State) :
    judgeGo b s = .refuse .badValue ∧ judgePause b s = .refuse .badValue ∧ judgeResume b s = .refuse .badValue ∧
      judgeAbort b s = .refuse .badValue := by
  simp only [judgeGo, judgePause, judgeResume, judgeAbort, playerOf_eq_none h, and_self]

section
variable {tag : Byte} {n : Player} {s : State} {v : Verdict} (h : s.takes)
include h

theorem exec_go {b : Byte} (hv : judgeGo b s.hunt = v) :
    exec (.go tag b) s = .next (v.effect (s.answered 0xC9 tag (v.status.code :: v.fields))) :=
  congrArg _ (takeRequest_verdict h hv)

theorem exec_pause {b : Byte} (hv : judgePause b s.hunt = v) :
    exec (.pause tag b) s = .next (v.effect (s.answered 0xCA tag (v.status.code :: v.fields))) :=
  congrArg _ (takeRequest_verdict h hv)

theorem exec_resume {b : Byte} (hv : judgeResume b s.hunt = v) :
    exec (.resume tag b) s = .next (v.effect (s.answered 0xCB tag (v.status.code :: v.fields))) :=
  congrArg _ (takeRequest_verdict h hv)

theorem exec_abort {b : Byte} (hv : judgeAbort b s.hunt = v) :
    exec (.abort tag b) s = .next (v.effect (s.answered 0xCC tag (v.status.code :: v.fields))) :=
  congrArg _ (takeRequest_verdict h hv)

end

section
variable {n : Player} {s : State}

/-- R162. -/
theorem judgeGo_eq (n : Player) (s : State) :
    judgeGo (playerByte n) s =
      if (s.player n).state = .cued ∧ (s.session.mixer = .starting ∨ s.session.mixer = .running) then
        { status := .ok, fields := [u8 (s.player n).current], effect := State.startPlaying n }
      else .refuse .wrongState := by
  simp only [judgeGo, playerOf_playerByte, MixerState.live_iff]
  by_cases h : (s.player n).state = .cued
  · simp only [h, ne_eq, not_true_eq_false, if_false, true_and]
  · simp only [h, ne_eq, not_false_eq_true, if_true, false_and, if_false]

/-- R163. -/
theorem judgePause_eq (n : Player) (s : State) :
    judgePause (playerByte n) s =
      if (s.player n).state = .playing then
        { status := .ok, fields := u8 (s.player n).current :: u24 (s.player n).played, effect := State.pausePlayer n }
      else .refuse .wrongState := by
  simp only [judgePause, playerOf_playerByte]

/-- R164. -/
theorem judgeResume_eq (n : Player) (s : State) :
    judgeResume (playerByte n) s =
      if (s.player n).state = .paused then { status := .ok, fields := [], effect := State.resumePlayer n }
      else .refuse .wrongState := by
  simp only [judgeResume, playerOf_playerByte]

/-! The verdict on ABORT in each state (R168). -/

theorem judgeAbort_of_idle (h : (s.player n).state = .idle) : judgeAbort (playerByte n) s = .refuse .wrongState := by
  simp only [judgeAbort, playerOf_playerByte, h]

theorem judgeAbort_of_aborting (h : (s.player n).state = .aborting) : judgeAbort (playerByte n) s = .answer .ok [] := by
  simp only [judgeAbort, playerOf_playerByte, h]

theorem judgeAbort_of_playing (h : (s.player n).state = .playing) :
    judgeAbort (playerByte n) s = { status := .ok, fields := [], effect := State.abortPlayer n .aborted } := by
  simp only [judgeAbort, playerOf_playerByte, h]

theorem judgeAbort_of_waiting (h : (s.player n).state = .cued ∨ (s.player n).state = .paused) :
    judgeAbort (playerByte n) s = { status := .ok, fields := [], effect := State.playerIdle n .aborted } := by
  rcases h with h | h <;> simp only [judgeAbort, playerOf_playerByte, h]

end

/-- Settles O46: each command by its verdict, each arrival by the player's state. -/
theorem playerCommandsAndArrivals : Obligations.PlayerCommandsAndArrivals := by
  refine ⟨⟨fun tag b s hs hb => ?_, fun tag n s hs => ?_⟩, fun n s hs ha h0 => ?_⟩
  · obtain ⟨hgo, hpause, hresume, habort⟩ := judgePlayer_of_none hb s.hunt
    exact ⟨exec_go hs hgo, exec_pause hs hpause, exec_resume hs hresume, exec_abort hs habort⟩
  · intro r b done ramp
    refine ⟨fun hr hm => ?_, fun hr => ?_, fun hr => ?_, fun hr => ?_, fun hr => ?_, fun hr => ?_, fun hr => ?_, fun hr => ?_,
      fun hr => ?_, fun hr => ?_⟩
    · exact (exec_go hs ((judgeGo_eq n _).trans (if_pos ⟨hr, hm⟩))).trans (congrArg _ (startPlaying_eq n _))
    · refine exec_go hs ((judgeGo_eq n _).trans (if_neg fun ⟨hcued, hm⟩ => ?_))
      have hmixer : s.session.mixer = .starting ∨ s.session.mixer = .running := hm
      rcases hr with hr | hr | hr
      · exact hr hcued
      · rw [hr] at hmixer
        simp at hmixer
      · rw [hr] at hmixer
        simp at hmixer
    · exact exec_pause hs ((judgePause_eq n _).trans (if_pos hr))
    · exact exec_pause hs ((judgePause_eq n _).trans (if_neg hr))
    · exact exec_resume hs ((judgeResume_eq n _).trans (if_pos hr))
    · exact exec_resume hs ((judgeResume_eq n _).trans (if_neg hr))
    · exact exec_abort hs (judgeAbort_of_idle (s := s.hunt) hr)
    · exact exec_abort hs (judgeAbort_of_aborting (s := s.hunt) hr)
    · exact exec_abort hs (judgeAbort_of_playing (s := s.hunt) hr)
    · exact (exec_abort hs (judgeAbort_of_waiting (s := s.hunt) hr)).trans (congrArg _ (playerIdle_eq n _ _))
  · intro r u
    refine ⟨fun hr => ?_, fun hr => ?_, fun reason hr hreason => ?_⟩ <;> rw [exec_playerRampArrival hs ha h0]
    · rw [playerArrival_of_paused (s := u) hr]
      rfl
    · rw [playerArrival_of_other (s := u) hr]
    · rw [playerArrival_of_aborting (s := u) hr, playerIdle_eq, show (u.player n).abortReason = some reason from hreason]
      rfl

end Sys2Proof.Machine
end

section
/-! The mixer states: START, STOP and the arrival of the master ramp, as commands and at a boundary: O48. -/

namespace Sys2Proof.Machine

/-! ### Reports posted at a boundary (R196) -/

/-- A report has been discarded, and the queue has no room for another. -/
def Control.Full (c : Control) : Prop := c.lost = true ∧ 32 ≤ reportCount c.queue

/-- R196: a report is queued with its flags byte, or discarded. -/
theorem enqueueReport_cases (ty : Byte) (l : List Byte) (c : Control) :
    (∃ flags : Byte, (c.enqueueReport ty l).queue =
        c.queue ++ [{ isReport := true, type := ty, tag := 0, payload := flags :: l }]) ∨
      ((c.enqueueReport ty l).queue = c.queue ∧ (c.enqueueReport ty l).Full) := by
  rcases Nat.lt_or_ge (reportCount c.queue) 32 with h | h
  · rw [enqueueReport_of_room h]
    exact .inl ⟨_, rfl⟩
  · rw [enqueueReport_of_full h]
    exact .inr ⟨rfl, rfl, h⟩

/-- Reports are added at the end of the queue. -/
theorem Posts.queue_eq {ok : Byte → Prop} {c d : Control} (h : Posts ok c d) :
    ∃ x : List Message, d.queue = c.queue ++ x ∧ ∀ m ∈ x, ok m.type := by
  induction h with
  | none => exact ⟨[], (List.append_nil _).symm, by simp⟩
  | @report d ty l hok _ ih =>
    obtain ⟨x, hx, hall⟩ := ih
    rcases enqueueReport_cases ty l d with ⟨flags, hq⟩ | ⟨hq, -⟩
    · refine ⟨x ++ [_], by rw [hq, hx, List.append_assoc], fun m hm => ?_⟩
      rcases List.mem_append.1 hm with hm | hm
      · exact hall m hm
      · rw [List.mem_singleton.1 hm]
        exact hok
    · exact ⟨x, by rw [hq, hx], hall⟩

/-- R196: while nothing is sent, a full queue stays full and the lost flag set. -/
theorem Posts.full {ok : Byte → Prop} {c d : Control} (h : Posts ok c d) (hc : c.Full) : d.Full := by
  induction h with
  | none => exact hc
  | report ty l _ _ ih =>
    rw [enqueueReport_of_full ih.2]
    exact ⟨rfl, ih.2⟩

/-- The contents of the MIXER_STATE reports among some messages, without their flags bytes (R180). -/
def mixerReports (x : List Message) : List (List Byte) :=
  (x.filter fun r => r.type == 0xEA).map fun r => r.payload.drop 1

theorem mixerReports_append (x y : List Message) : mixerReports (x ++ y) = mixerReports x ++ mixerReports y := by
  simp [mixerReports]

theorem mixerReports_eq_nil {x : List Message} (h : ∀ m ∈ x, m.type ≠ 0xEA) : mixerReports x = [] := by
  rw [mixerReports, List.filter_eq_nil_iff.2 fun m hm => by simpa using h m hm, List.map_nil]

theorem Posts.mixerReports_eq {c d e : Control} (h : Posts (· ≠ 0xEA) d e) {x : List Message} (hx : d.queue = c.queue ++ x) :
    mixerReports (e.queue.drop c.queue.length) = mixerReports x := by
  obtain ⟨y, hy, hother⟩ := h.queue_eq
  rw [hy, hx, List.append_assoc, List.drop_left, mixerReports_append, mixerReports_eq_nil hother, List.append_nil]

/-- One MIXER_STATE among the reports posted: it is queued, or the queue is full. -/
theorem mixerReports_of_one {c d e : Control} {l : List Byte} (h : Posts (· ≠ 0xEA) c d)
    (k : Posts (· ≠ 0xEA) (d.enqueueReport 0xEA l) e) :
    mixerReports (e.queue.drop c.queue.length) <+: [l] ∧
      (e.lost = false → mixerReports (e.queue.drop c.queue.length) = [l]) := by
  obtain ⟨x, hx, hother⟩ := h.queue_eq
  rcases enqueueReport_cases 0xEA l d with ⟨flags, hq⟩ | ⟨hq, hfull⟩
  · rw [hx, List.append_assoc] at hq
    have hone : mixerReports (e.queue.drop c.queue.length) = [l] := by
      rw [k.mixerReports_eq hq, mixerReports_append, mixerReports_eq_nil hother]
      rfl
    rw [hone]
    exact ⟨⟨[], rfl⟩, fun _ => rfl⟩
  · rw [k.mixerReports_eq (hq.trans hx), mixerReports_eq_nil hother]
    refine ⟨⟨[l], rfl⟩, fun hlost => ?_⟩
    rw [(k.full hfull).1] at hlost
    cases hlost

/-! ### The boundary about the session controller's work -/

/-- The state that the session controller's work finds, and what comes after that work. -/
theorem boundary_about_session (order : List Work) (trunks : Vector Frame 4) (s : State) :
    ∃ g : State, Posts (· ≠ 0xEA) s.control g.control ∧ g.session.mixer = s.session.mixer ∧
      g.ramps.master = s.closedMaster.clearArrival ∧
      Posts (· ≠ 0xEA) (if s.closedMaster.arrives then g.masterArrival else g).control (s.boundary order trunks).control := by
  have hend : Part.mixerReports.kept (s.worked order) (s.boundary order trunks) :=
    Part.kept_trans ((ready_moves order trunks s).frame .mixerReports (by decide))
      ((openPeriod_moves _).frame .mixerReports (by decide))
  obtain ⟨l₁, l₂, hsched, h₁, h₂⟩ := schedule_split .session order
  have other {l : List Work} (h : Work.session ∉ l) : ∀ w ∈ l, Part.mixer ∉ partsOf w ∧ Part.mixerReports ∉ partsOf w :=
    fun w hw => mixer_notMem_partsOf fun he => h (he ▸ hw)
  unfold State.worked State.boundaryWork at hend
  rw [hsched, List.foldl_append, List.foldl_cons] at hend
  generalize hg : l₁.foldl (Progress.work s s.closePeriod.ramps.arrivals) _ = g at hend
  have hcontrol : Part.mixerReports.kept s.begun g.state := by
    rw [← hg]
    exact works_kept _ _ { state := s.begun, keys := _ } l₁ fun w hw => (other h₁ w hw).2
  have hmixer : g.state.session.mixer = s.session.mixer := by
    rw [← hg]
    exact (works_kept _ _ { state := s.begun, keys := _ } l₁ fun w hw => (other h₁ w hw).1).trans (by rw [begun_eq])
  have hmaster : g.state.ramps.master = s.closedMaster.clearArrival := by
    rw [← hg, ← begun_master]
    exact (works_moves _ _ { state := s.begun, keys := _ } l₁).frame .masterRamp (by decide)
  have hafter := works_kept s s.closePeriod.ramps.arrivals (g.work s s.closePeriod.ramps.arrivals .session) l₂
    (q := .mixerReports) fun w hw => (other h₂ w hw).2
  have hbegun : s.begun.control = s.control := by rw [begun_eq]
  refine ⟨g.state, ?_, hmixer, hmaster, Posts.trans ?_ hend⟩
  · rw [← hbegun]
    exact hcontrol
  · rw [show Part.mixerReports.kept _ _ = Posts _ _ _ from rfl, work_session] at hafter
    exact hafter

/-! ### The arrival of the master ramp (R179, R180) -/

theorem masterArrival_of_none {s : State} (h : s.session.mixer.onArrival s.ramps.master.target = none) :
    s.masterArrival = s := by
  rw [State.masterArrival, h]

theorem masterArrival_of_some {s : State} {st : MixerState} (h : s.session.mixer.onArrival s.ramps.master.target = some st) :
    s.masterArrival = { s with session := { s.session with mixer := st } }.post .mixer 0xEA
      ([s.session.mixer.code, st.code, 2] ++ u16 s.ramps.master.ended) := by
  rw [State.masterArrival, h]
  rfl

theorem MixerState.onArrival_ne {m st : MixerState} {target : Nat} (h : m.onArrival target = some st) : st ≠ m := by
  cases m with
  | stopped | running => cases h
  | starting =>
    rw [MixerState.onArrival] at h
    split at h <;> cases h
    decide
  | stopping =>
    rw [MixerState.onArrival] at h
    split at h <;> cases h
    decide

/-- R179: the mixer state that an arrival leaves, in the words of the rule. -/
theorem MixerState.onArrival_getD (m : MixerState) (target : Nat) :
    (m.onArrival target).getD m =
      if m = .starting ∧ target = 32768 then .running else if m = .stopping ∧ target = 0 then .stopped else m := by
  cases m with
  | stopped | running => rfl
  | starting => by_cases h : target = 32768 <;> simp [MixerState.onArrival, fullScale, h]
  | stopping => by_cases h : target = 0 <;> simp [MixerState.onArrival, h]

theorem Ramp.clearArrival_ended (r : Ramp) : r.clearArrival.ended = r.ended := by
  unfold Ramp.clearArrival
  split <;> rfl

theorem closedMaster_of_none {s : State} (h : s.inForce = none) : s.closedMaster = s.ramps.master := by
  simp only [State.closedMaster, State.closePeriod, h, State.handOut]

theorem closedMaster_of_some {s : State} {v : InForce} (h : s.inForce = some v) :
    s.closedMaster = (Ramp.move^[16] s.ramps.master).endPeriod := by
  simp only [State.closedMaster, State.closePeriod, h, State.handOut, Ramps.map, runPositions_ramps, movesOf_eq_map]
  rfl

/-- The control link after the arrival of the master ramp, where the category is on. -/
theorem masterArrival_control {g : State} {st : MixerState}
    (h : g.session.mixer.onArrival g.ramps.master.target = some st) :
    g.masterArrival.control = if g.control.mask.getLsbD 6 = true then
      g.control.enqueueReport 0xEA ([g.session.mixer.code, st.code, 2] ++ u16 g.ramps.master.ended) else g.control := by
  rw [masterArrival_of_some h, State.post]
  exact apply_ite State.control _ _ _

/-- What the boundary changes of the session: the mixer state alone. -/
theorem boundary_session (order : List Work) (trunks : Vector Frame 4) (s : State) :
    (s.boundary order trunks).session = { s.session with mixer := s.mixerNext } := by
  have hbegun : s.begun.session = s.session := by rw [begun_eq]
  have hmixer := boundary_mixer order trunks s
  have hroster : (s.boundary order trunks).session.roster = s.begun.session.roster :=
    boundary_kept order trunks s (q := .roster) (by decide)
  obtain ⟨hreason, hphase, hlatch⟩ := boundary_kept order trunks s (q := .resets) (by decide)
  rw [hbegun] at hroster hreason hphase hlatch
  rw [← hmixer]
  dsimp only
  rw [← hroster, ← hreason, ← hphase, ← hlatch]

/-- R180: the MIXER_STATE reports of a boundary. -/
theorem boundary_mixerReports (order : List Work) (trunks : Vector Frame 4) (s : State) :
    let t := s.boundary order trunks
    let reports : List (List Byte) :=
      if s.mixerNext ≠ s.session.mixer ∧ s.control.mask.getLsbD 6 = true then
        [[s.session.mixer.code, s.mixerNext.code, 2] ++ u16 s.closedMaster.ended]
      else []
    mixerReports (t.control.queue.drop s.control.queue.length) <+: reports ∧
      (t.control.lost = false → mixerReports (t.control.queue.drop s.control.queue.length) = reports) := by
  intro t reports
  obtain ⟨g, hbefore, hmixer, hmaster, hafter⟩ := boundary_about_session order trunks s
  have none_posted (h : reports = []) (hg : (if s.closedMaster.arrives then g.masterArrival else g).control = g.control) :
      mixerReports (t.control.queue.drop s.control.queue.length) = reports := by
    rw [hg] at hafter
    obtain ⟨x, hx, hother⟩ := (hbefore.trans hafter).queue_eq
    rw [h, show t.control.queue = _ from hx, List.drop_left, mixerReports_eq_nil hother]
  have of_eq (h : mixerReports (t.control.queue.drop s.control.queue.length) = reports) :
      mixerReports (t.control.queue.drop s.control.queue.length) <+: reports ∧
        (t.control.lost = false → mixerReports (t.control.queue.drop s.control.queue.length) = reports) :=
    h ▸ ⟨⟨[], List.append_nil _⟩, fun _ => rfl⟩
  have htarget : g.ramps.master.target = s.closedMaster.target := by rw [hmaster, Ramp.clearArrival_target]
  have hended : g.ramps.master.ended = s.closedMaster.ended := by rw [hmaster, Ramp.clearArrival_ended]
  cases ha : s.closedMaster.arrives with
  | false =>
    have hnext : s.mixerNext = s.session.mixer := by rw [State.mixerNext, ha]; rfl
    exact of_eq (none_posted (if_neg fun h => h.1 hnext) (by rw [ha]; rfl))
  | true =>
    cases ho : s.session.mixer.onArrival s.closedMaster.target with
    | none =>
      have hnext : s.mixerNext = s.session.mixer := by rw [State.mixerNext, ha, ho]; rfl
      refine of_eq (none_posted (if_neg fun h => h.1 hnext) ?_)
      rw [ha, if_pos rfl, masterArrival_of_none (by rw [hmixer, htarget, ho])]
    | some st =>
      have hnext : s.mixerNext = st := by rw [State.mixerNext, ha, ho]; rfl
      have hcontrol := masterArrival_control (g := g) (st := st) (by rw [hmixer, htarget, ho])
      rw [hbefore.mask_eq, hmixer, hended] at hcontrol
      by_cases hmask : s.control.mask.getLsbD 6 = true
      · have hreports : reports = [[s.session.mixer.code, st.code, 2] ++ u16 s.closedMaster.ended] := by
          rw [← hnext]
          exact if_pos ⟨hnext ▸ MixerState.onArrival_ne ho, hmask⟩
        rw [if_pos hmask] at hcontrol
        rw [ha, if_pos rfl, hcontrol] at hafter
        rw [hreports]
        exact mixerReports_of_one hbefore hafter
      · rw [if_neg hmask] at hcontrol
        refine of_eq (none_posted (if_neg fun h => hmask h.2) ?_)
        rw [ha, if_pos rfl, hcontrol]

/-! ### STOP handed to the players (R171) -/

/-- R171: a player that sounds fades out. -/
def PlayerRecord.fadesAtStop (r : PlayerRecord) : Bool :=
  decide (r.state = .playing ∨ (r.state = .paused ∧ r.advancing = true))

/-- R171: a player that is cued or frozen is done. -/
def PlayerRecord.endsAtStop (r : PlayerRecord) : Bool :=
  decide (r.state = .cued ∨ (r.state = .paused ∧ r.advancing = false))

/-- R171: the record of a player after a stop. -/
def PlayerRecord.afterStop (r : PlayerRecord) : PlayerRecord :=
  if r.endsAtStop then PlayerRecord.reset
  else if r.fadesAtStop then { r with state := .aborting, abortReason := some .stopped } else r

/-- R171: the ramp of a player after a stop. -/
def PlayerRecord.rampAtStop (r : PlayerRecord) (x : Ramp) : Ramp := if r.fadesAtStop then x.setTarget 0 4 else x

/-- The PLAYER_DONE report of a player that a stop ends; what else it touches is left aside. -/
def State.doneAtStop (s : State) (n : Player) (r : PlayerRecord) : State :=
  if r.endsAtStop then s.post .player 0xE8 ([playerByte n, 4, u8 r.current] ++ u24 r.played) else s

theorem mixerStop_cases (n : Player) (s : State) :
    s.mixerStop n =
      if (s.player n).endsAtStop then s.playerIdle n .stopped
      else if (s.player n).fadesAtStop then s.abortPlayer n .stopped else s := by
  unfold State.mixerStop
  cases h : (s.player n).state <;> simp only [PlayerRecord.endsAtStop, PlayerRecord.fadesAtStop, h]
  case paused => cases (s.player n).advancing <;> simp
  all_goals simp

/-- The references of two cues given back one after the other. -/
theorem foldl_release_append (a b : List Segment) (s : State) :
    (b.map Segment.clip).foldl ClipStore.release (s.storeReleasing a) = s.storeReleasing (a ++ b) := by
  rw [← foldl_release_storeReleasing, ← foldl_release_storeReleasing, List.map_append, List.foldl_append]

theorem Vec.put_same {α : Type} {n : Nat} (v : Vector α n) (i : Fin n) : Vec.put v i v[i] = v := by
  ext k hk
  by_cases h : i.1 = k <;> simp [Vec.getElem_put, h]

/-- A posted report touches the control link alone. -/
theorem post_eq (c : Category) (ty : Byte) (l : List Byte) (s : State) :
    s.post c ty l = { s with control := (s.post c ty l).control } := by
  unfold State.post
  split <;> rfl

/-- What a report does depends on the control link alone. -/
theorem post_control (c : Category) (ty : Byte) (l : List Byte) (s : State) :
    (s.post c ty l).control =
      if s.control.mask.getLsbD c.bit then s.control.enqueueReport ty l else s.control := by
  unfold State.post
  split <;> rfl

/-- R171: one player's part of a stop, field by field. -/
theorem mixerStop_eq (n : Player) (s : State) :
    s.mixerStop n = { s with
      players := Vec.put s.players n (s.player n).afterStop
      ramps := { s.ramps with player := Vec.put s.ramps.player n ((s.player n).rampAtStop s.ramps.player[n]) }
      store := ((if (s.player n).endsAtStop then (s.player n).cue else []).map Segment.clip).foldl ClipStore.release s.store
      control := (s.doneAtStop n (s.player n)).control } := by
  rw [mixerStop_cases, PlayerRecord.afterStop, PlayerRecord.rampAtStop, State.doneAtStop]
  cases he : (s.player n).endsAtStop with
  | true =>
    have hf : (s.player n).fadesAtStop = false := by
      simp only [PlayerRecord.endsAtStop, PlayerRecord.fadesAtStop, decide_eq_true_eq, decide_eq_false_iff_not] at he ⊢
      rintro (h | ⟨h, ha⟩)
      · simp [h] at he
      · simp [h, ha] at he
    simp only [hf, if_true, if_false, Bool.false_eq_true]
    rw [Vec.put_same, playerIdle_eq, post_eq, foldl_release_storeReleasing, post_control, post_control]
    rfl
  | false =>
    cases hf : (s.player n).fadesAtStop with
    | true => rfl
    | false => 
      simp only [if_false, Bool.false_eq_true, List.map_nil, List.foldl_nil]
      rw [Vec.put_same, State.player, Vec.put_same]

theorem doneAtStop_control {n : Player} {r : PlayerRecord} {s t : State} (h : s.control = t.control) :
    (s.doneAtStop n r).control = (t.doneAtStop n r).control := by
  unfold State.doneAtStop
  split
  · rw [post_control, post_control, h]
  · exact h

/-- The PLAYER_DONE fields of a player that a stop ends (R173). -/
def State.doneFields (s : State) (n : Player) : List Byte :=
  [playerByte n, 4, u8 (s.player n).current] ++ u24 (s.player n).played

theorem foldl_post_control (f : Player → List Byte) (l : List Player) {s t : State} (h : s.control = t.control) :
    (l.foldl (fun t n => t.post .player 0xE8 (f n)) s).control =
      (l.foldl (fun t n => t.post .player 0xE8 (f n)) t).control := by
  induction l generalizing s t with
  | nil => exact h
  | cons n rest ih =>
    refine ih ?_
    rw [post_control, post_control, h]

/-- The players that a stop ends, in ascending order. -/
def State.endedAtStop (s : State) : List Player := (List.finRange 2).filter fun n => (s.player n).endsAtStop

theorem Vec.put_put_tab {α : Type} (v : Vector α 2) (f : Fin 2 → α) : Vec.put (Vec.put v 0 (f 0)) 1 (f 1) = Vec.tab f := by
  ext k hk
  rcases (by omega : k = 0 ∨ k = 1) with rfl | rfl <;> simp [Vec.getElem_put]

/-- R171: a stop handed to both players. -/
theorem stopPlayers_eq (s : State) :
    [0, 1].foldl State.mixerStop s = { s with
      players := Vec.tab fun n => (s.player n).afterStop
      ramps := { s.ramps with player := Vec.tab fun n => (s.player n).rampAtStop s.ramps.player[n] }
      store := s.storeReleasing (s.endedAtStop.flatMap fun n => (s.player n).cue)
      control := (s.endedAtStop.foldl (fun t n => t.post .player 0xE8 (s.doneFields n)) s).control } := by
  have h0 := mixerStop_eq 0 s
  have hplayer : (s.mixerStop 0).player 1 = s.player 1 := by
    rw [h0]
    exact Vec.getElem_put_ne _ _ _ _ (by omega) (by decide)
  have hramp : (s.mixerStop 0).ramps.player[(1 : Player)] = s.ramps.player[(1 : Player)] := by
    rw [h0]
    exact Vec.getElem_put_ne _ _ _ _ (by omega) (by decide)
  have hstore : s.storeReleasing (s.endedAtStop.flatMap fun n => (s.player n).cue) =
      ((if (s.player 1).endsAtStop then (s.player 1).cue else []).map Segment.clip).foldl ClipStore.release
        (s.mixerStop 0).store := by
    have : (s.mixerStop 0).store = s.storeReleasing (if (s.player 0).endsAtStop then (s.player 0).cue else []) := by
      rw [h0, foldl_release_storeReleasing]
    rw [this, foldl_release_append, State.endedAtStop, show List.finRange 2 = [0, 1] from rfl, List.filter_cons,
      List.filter_cons]
    cases (s.player 0).endsAtStop <;> cases (s.player 1).endsAtStop <;> simp
  have hcontrol : (s.endedAtStop.foldl (fun t n => t.post .player 0xE8 (s.doneFields n)) s).control =
      ((s.mixerStop 0).doneAtStop 1 (s.player 1)).control := by
    have : (s.mixerStop 0).control = (s.doneAtStop 0 (s.player 0)).control := by rw [h0]
    rw [doneAtStop_control this, State.endedAtStop, show List.finRange 2 = [0, 1] from rfl, List.filter_cons,
      List.filter_cons, State.doneAtStop, State.doneAtStop]
    cases (s.player 0).endsAtStop <;> cases (s.player 1).endsAtStop <;> rfl
  rw [List.foldl_cons, List.foldl_cons, List.foldl_nil, mixerStop_eq 1, hplayer, hramp, ← hstore, ← hcontrol,
    ← Vec.put_put_tab s.players fun n => (s.player n).afterStop,
    ← Vec.put_put_tab s.ramps.player fun n => (s.player n).rampAtStop s.ramps.player[n], h0]

/-! ### START and STOP -/

theorem Ramp.setTarget_ended (t len : Nat) (r : Ramp) : (r.setTarget t len).ended = r.ended := by
  unfold Ramp.setTarget
  split <;> rfl

/-- R177: what a START that is taken does. -/
theorem startMixer_eq (u : State) :
    u.startMixer = { u with
      ramps := { u.ramps with master := u.ramps.master.setTarget 32768 32 }
      session := { u.session with mixer := .starting } }.post .mixer 0xEA
        ([u.session.mixer.code, 1, 0] ++ u16 u.ramps.master.ended) := by
  rw [State.startMixer, State.setMixer, State.onMasterRamp]
  dsimp only
  rw [Ramp.setTarget_ended]
  rfl

/-- R178: the mixer's own part of a STOP that is taken, before the players hear of it. -/
def State.mixerStopping (u : State) : State :=
  { u with
    ramps := { u.ramps with master := u.ramps.master.setTarget 0 16 }
    session := { u.session with mixer := .stopping }
    control := (u.post .mixer 0xEA ([u.session.mixer.code, 3, 1] ++ u16 u.ramps.master.ended)).control }

theorem stopMixer_eq (u : State) : u.stopMixer = [0, 1].foldl State.mixerStop u.mixerStopping := by
  rw [State.stopMixer, State.setMixer, State.onMasterRamp]
  dsimp only
  rw [Ramp.setTarget_ended, post_eq, post_control]
  refine congrArg ([0, 1].foldl State.mixerStop) ?_
  rw [State.mixerStopping, post_control]
  rfl

section
variable {tag : Byte} {s : State} {v : Verdict} (h : s.takes)
include h

theorem exec_start (hv : judgeStart s.hunt = v) :
    exec (.start tag) s = .next (v.effect (s.answered 0x82 tag (v.status.code :: v.fields))) :=
  congrArg _ (takeRequest_verdict h hv)

theorem exec_stop (hv : judgeStop s.hunt = v) :
    exec (.stop tag) s = .next (v.effect (s.answered 0x83 tag (v.status.code :: v.fields))) :=
  congrArg _ (takeRequest_verdict h hv)

end

/-! The verdicts in each mixer state (R177, R178). -/

section
variable {s : State}

theorem judgeStart_of_stopped (h : s.session.mixer = .stopped) :
    judgeStart s = { status := .ok, fields := [1], effect := State.startMixer } := by
  rw [judgeStart, h]
  rfl

theorem judgeStart_of_starting (h : s.session.mixer = .starting) : judgeStart s = .answer .ok [1] := by
  rw [judgeStart, h]
  rfl

theorem judgeStart_of_running (h : s.session.mixer = .running) : judgeStart s = .answer .ok [2] := by
  rw [judgeStart, h]
  rfl

theorem judgeStart_of_stopping (h : s.session.mixer = .stopping) : judgeStart s = .answer .busy [3] := by
  rw [judgeStart, h]
  rfl

theorem judgeStop_of_stopped (h : s.session.mixer = .stopped) : judgeStop s = .answer .ok [0] := by
  rw [judgeStop, h]
  rfl

theorem judgeStop_of_stopping (h : s.session.mixer = .stopping) : judgeStop s = .answer .ok [3] := by
  rw [judgeStop, h]
  rfl

theorem judgeStop_of_live (h : s.session.mixer = .starting ∨ s.session.mixer = .running) :
    judgeStop s = { status := .ok, fields := [3], effect := State.stopMixer } := by
  rcases h with h | h <;> rw [judgeStop, h] <;> rfl

end

/-- R25, R179: the arrival of the master ramp as a command. -/
theorem exec_masterRampArrival {s : State} (hs : s.outOfReset) (ha : s.ramps.master.arrives = true) :
    exec .masterRampArrival s = .next
      ({ s with ramps := { s.ramps with master := { s.ramps.master with arrivalPending := false } } }.masterArrival) := by
  refine congrArg Host.Outcome.next ((unlessInReset_of_outOfReset hs).trans ?_)
  rw [if_pos ha, State.onMasterRamp, Ramp.clearArrival_of_arrives ha]

/-- R179: the mixer state after a boundary, in the words of the rule. -/
theorem mixerNext_eq (s : State) :
    s.mixerNext =
      if s.session.mixer = .starting ∧ s.closedMaster.arrives = true ∧ s.closedMaster.target = 32768 then .running
      else if s.session.mixer = .stopping ∧ s.closedMaster.arrives = true ∧ s.closedMaster.target = 0 then .stopped
      else s.session.mixer := by
  rw [State.mixerNext]
  cases s.closedMaster.arrives with
  | false => simp
  | true =>
    simp only [if_true, true_and]
    exact MixerState.onArrival_getD _ _

/-- Settles O48: the commands by their verdicts, the boundary by the session controller's one work there. -/
theorem mixerStates : Obligations.MixerStates := by
  refine ⟨fun tag s hs => ?_, fun s hs ha => ?_, fun order trunks s hs => ?_⟩
  · intro m moved
    refine ⟨fun hm => ?_, fun hm => ?_, fun hm => ?_, fun hm => ?_, fun hm => ?_, fun hm => ?_, fun hm => ?_⟩
    · exact (exec_start hs (judgeStart_of_stopped (s := s.hunt) hm)).trans (congrArg _ (startMixer_eq _))
    · exact exec_start hs (judgeStart_of_starting (s := s.hunt) hm)
    · exact exec_start hs (judgeStart_of_running (s := s.hunt) hm)
    · exact exec_start hs (judgeStart_of_stopping (s := s.hunt) hm)
    · exact exec_stop hs (judgeStop_of_stopped (s := s.hunt) hm)
    · exact exec_stop hs (judgeStop_of_stopping (s := s.hunt) hm)
    · intro u fades ends done
      refine (exec_stop hs (judgeStop_of_live (s := s.hunt) hm)).trans
        (congrArg Host.Outcome.next ((stopMixer_eq u).trans ((stopPlayers_eq u.mixerStopping).trans ?_)))
      have hcontrol : (u.mixerStopping.endedAtStop.foldl
          (fun t n => t.post .player 0xE8 (u.mixerStopping.doneFields n)) u.mixerStopping).control =
          (((List.finRange 2).filter ends).foldl (fun t n => t.post .player 0xE8 (done n)) (moved u 3 1)).control :=
        foldl_post_control _ _ rfl
      rw [hcontrol]
      rfl
  · intro u moved
    rw [exec_masterRampArrival hs ha]
    refine ⟨fun hm ht => congrArg _ ?_, fun hm ht => congrArg _ ?_, fun hm => congrArg _ ?_⟩
    · refine masterArrival_of_some (s := u) ?_
      rw [show u.session.mixer = .starting from hm, show u.ramps.master.target = 32768 from ht]
      rfl
    · refine masterArrival_of_some (s := u) ?_
      rw [show u.session.mixer = .stopping from hm, show u.ramps.master.target = 0 from ht]
      rfl
    · refine masterArrival_of_none (s := u) ?_
      rcases hm with hm | hm
      · rw [show u.session.mixer = .stopped from hm]
        rfl
      · rw [show u.session.mixer = .running from hm]
        rfl
  · intro closed m next reports
    have hclosed : closed.arrives = s.closedMaster.arrives ∧ closed.target = s.closedMaster.target ∧
        m = s.closedMaster.ended := by
      cases hf : s.inForce with
      | none => simp only [closed, m, hf, closedMaster_of_none hf, if_true, and_self]
      | some v =>
        simp only [closed, m, hf, closedMaster_of_some hf, reduceCtorEq, if_false]
        generalize Ramp.move^[16] s.ramps.master = x
        exact ⟨rfl, rfl, rfl⟩
    obtain ⟨harrives, htarget, hended⟩ := hclosed
    have hnext : next = s.mixerNext := by
      rw [mixerNext_eq, ← harrives, ← htarget]
    have hreports := boundary_mixerReports order trunks s
    have hsession := boundary_session order trunks s
    rw [← hnext] at hsession
    rw [← hnext, ← hended] at hreports
    have hexec := exec_boundary hs order trunks
    generalize s.boundary order trunks = t at hexec hsession hreports
    exact ⟨t, hexec, hsession, hreports⟩

end Sys2Proof.Machine
end

section
/-! SUPPORT. The players' work at a boundary beside the players' work alone: whatever else the blocks do, the players, the
clip store and the player inputs come out the same, and the players' reports are queued or lost: O26. -/

namespace Sys2Proof.Machine

/-! ### Reports that reach the queue -/

/-- A message stands in a queue, whatever its flags byte. -/
def StandsIn (m : Message) (q : List Message) : Prop :=
  ∃ flags : Byte, { m with payload := flags :: m.payload.drop 1 } ∈ q

theorem StandsIn.append {m : Message} {q : List Message} (h : StandsIn m q) (x : List Message) : StandsIn m (q ++ x) := by
  obtain ⟨flags, hm⟩ := h
  exact ⟨flags, List.mem_append_left _ hm⟩

/-- Every message of `u` from position `k` on stands in the queue of `t`, or a report of `t` has been lost for good. -/
def Control.Carries (k : Nat) (t u : Control) : Prop := t.Full ∨ ∀ m ∈ u.queue.drop k, StandsIn m t.queue

theorem Control.Carries.of_posts {k : Nat} {ok : Byte → Prop} {t t' u : Control} (h : Control.Carries k t u)
    (hp : Posts ok t t') : Control.Carries k t' u := by
  rcases h with h | h
  · exact .inl (hp.full h)
  · obtain ⟨x, hx, -⟩ := hp.queue_eq
    exact .inr fun m hm => hx ▸ (h m hm).append x

theorem Control.Carries.enqueue {k : Nat} {t u : Control} (h : Control.Carries k t u) (hk : k ≤ u.queue.length) (ty : Byte)
    (l : List Byte) : Control.Carries k (t.enqueueReport ty l) (u.enqueueReport ty l) := by
  have posted : Posts (fun _ => True) t (t.enqueueReport ty l) := .report ty l trivial .none
  rcases h.of_posts posted with hfull | hold
  · exact .inl hfull
  · rcases enqueueReport_cases ty l u with ⟨flags, hu⟩ | ⟨hu, -⟩
    · rcases enqueueReport_cases ty l t with ⟨flags', ht⟩ | ⟨-, hfull⟩
      · refine .inr fun m hm => ?_
        rw [hu, List.drop_append_of_le_length hk] at hm
        rcases List.mem_append.1 hm with hm | hm
        · exact hold m hm
        · rw [List.mem_singleton.1 hm, ht]
          exact ⟨flags', by simp⟩
      · exact .inl hfull
    · exact .inr fun m hm => hold m (by rwa [hu] at hm)

/-! ### The relation -/

/-- `t` has what the players' work reads and writes as `u` has it, and the reports of `u` from position `k` on. Where
`calm` holds, no player stops on speech. -/
structure Mirror (calm : Prop) (k : Nat) (t u : State) : Prop where
  players : t.players = u.players
  store : t.store = u.store
  inputs : t.inputs.players = u.inputs.players
  ramps : t.ramps.player = u.ramps.player
  mask : t.control.mask = u.control.mask
  reports : Control.Carries k t.control u.control
  length : k ≤ u.control.queue.length
  still : calm → ∀ n : Player, (u.player n).stopOnSpeech = false

section
variable {calm : Prop} {k : Nat} {t u : State}

theorem Mirror.player (h : Mirror calm k t u) (n : Player) : t.player n = u.player n := by
  rw [State.player, h.players, State.player]

/-- What touches nothing of the players' on one side alone. -/
theorem Mirror.of_moves {A : List Part} {t' : State} (h : Mirror calm k t u) (hm : Moves A t t')
    (hA : .players ∉ A ∧ .store ∉ A ∧ .playerInputs ∉ A ∧ .playerRamps ∉ A ∧ .control ∉ A) : Mirror calm k t' u := by
  obtain ⟨hplayers, hstore, hinputs, hramps, hcontrol⟩ := hA
  have posts : Posts (fun _ => True) t.control t'.control := hm.frame .control hcontrol
  exact { players := (hm.frame .players hplayers).trans h.players
          store := (hm.frame .store hstore).trans h.store
          inputs := (hm.frame .playerInputs hinputs).trans h.inputs
          ramps := (hm.frame .playerRamps hramps).trans h.ramps
          mask := posts.mask_eq.trans h.mask
          reports := h.reports.of_posts posts
          length := h.length
          still := h.still }

/-! The writes of a player's work on both sides. -/

theorem Mirror.setPlayer (h : Mirror calm k t u) (n : Player) {r r' : PlayerRecord} (hr : r = r')
    (hstill : calm → r'.stopOnSpeech = false) : Mirror calm k (t.setPlayer n r) (u.setPlayer n r') := by
  subst hr
  refine { h with players := congrArg (fun v => Vec.put v n r) h.players, still := fun hc m => ?_ }
  exact Vec.forall_put (P := fun x : PlayerRecord => x.stopOnSpeech = false) (h.still hc) (hstill hc) m

theorem Mirror.onStore (h : Mirror calm k t u) (f : ClipStore → ClipStore) : Mirror calm k (t.onStore f) (u.onStore f) :=
  { h with store := congrArg f h.store }

theorem Mirror.onPlayerRamp (h : Mirror calm k t u) (n : Player) (f : Ramp → Ramp) :
    Mirror calm k (t.onPlayerRamp n f) (u.onPlayerRamp n f) :=
  { h with ramps := congrArg (fun v => Vec.put v n (f v[n])) h.ramps }

theorem Mirror.placeSlot (h : Mirror calm k t u) (n : Player) (i : Fin 16) {x y : PlayerSlot} (hx : x = y) :
    Mirror calm k (t.placeSlot n i x) (u.placeSlot n i y) := by
  subst hx
  exact { h with inputs := congrArg (fun v => Vec.put v n (Vec.put v[n] i x)) h.inputs }

theorem Mirror.post (h : Mirror calm k t u) (c : Category) (ty : Byte) (l : List Byte) :
    Mirror calm k (t.post c ty l) (u.post c ty l) := by
  unfold State.post
  rw [h.mask]
  split
  · refine { h with mask := ?_, reports := h.reports.enqueue h.length ty l, length := ?_ }
    · exact (enqueueReport_mask ty l _).trans (h.mask.trans (enqueueReport_mask ty l _).symm)
    · have posted : Posts (fun _ => True) u.control (u.control.enqueueReport ty l) := .report ty l trivial .none
      obtain ⟨x, hx, -⟩ := posted.queue_eq
      have := h.length
      simp only [State.postAlways, hx, List.length_append]
      omega
  · exact h

/-! The operations of a player's work on both sides. -/

theorem Mirror.abortPlayer (h : Mirror calm k t u) (n : Player) (reason : DoneReason) :
    Mirror calm k (t.abortPlayer n reason) (u.abortPlayer n reason) :=
  (h.setPlayer n (by rw [h.player]) fun hc => by exact h.still hc n).onPlayerRamp n _

theorem Mirror.playerIdle (h : Mirror calm k t u) (n : Player) (reason : DoneReason) :
    Mirror calm k (t.playerIdle n reason) (u.playerIdle n reason) := by
  unfold State.playerIdle State.playerDone
  rw [h.player]
  exact ((h.onStore _).setPlayer n rfl fun _ => rfl).post _ _ _

theorem Mirror.playerArrival (h : Mirror calm k t u) (n : Player) :
    Mirror calm k (t.playerArrival n) (u.playerArrival n) := by
  unfold State.playerArrival
  rw [h.player]
  split
  · exact h.setPlayer n rfl fun hc => by exact h.still hc n
  · exact h.playerIdle n _
  all_goals exact h

theorem Mirror.readPage (h : Mirror calm k t u) (n : Player) (c : ClipId) (pos : Nat) :
    Mirror calm k (t.readPage n c pos).1 (u.readPage n c pos).1 ∧ (t.readPage n c pos).2 = (u.readPage n c pos).2 := by
  unfold State.readPage State.readFails
  rw [h.store]
  split
  · exact ⟨h, rfl⟩
  · split
    · exact ⟨h, rfl⟩
    · refine ⟨?_, rfl⟩
      dsimp only
      split
      · exact ((h.onStore _).onStore _).post _ _ _
      · exact h.onStore _

theorem Mirror.faultVerdict (h : Mirror calm k t u) (n : Player) : Mirror calm k (t.faultVerdict n) (u.faultVerdict n) := by
  unfold State.faultVerdict
  rw [h.player]
  split
  · exact h.abortPlayer n _
  · exact h

theorem Mirror.visitPage (h : Mirror calm k t u) (n : Player) (g : Segment) :
    Mirror calm k (t.visitPage n g) (u.visitPage n g) := by
  unfold State.visitPage State.enterPage
  rw [h.player]
  split
  · exact h
  · obtain ⟨hread, hpassed⟩ := h.readPage n g.clip ((u.player n).nextOffset / 256)
    dsimp only
    rw [hpassed, hread.player]
    have hset := hread.setPlayer n (r := { (u.readPage n g.clip ((u.player n).nextOffset / 256)).1.player n with
      page := some ((u.player n).nextOffset / 256, (u.readPage n g.clip ((u.player n).nextOffset / 256)).2) }) rfl
      fun hc => by exact hread.still hc n
    split
    · exact hset
    · exact hset.faultVerdict n

theorem Mirror.endSegment (h : Mirror calm k t u) (n : Player) (g : Segment) :
    Mirror calm k (t.endSegment n g) (u.endSegment n g) := by
  unfold State.endSegment
  rw [h.player]
  have hpost := h.post .player 0xE7 [playerByte n, u8 (u.player n).current, g.nextAction.code]
  dsimp only
  split
  · exact hpost.setPlayer n rfl fun hc => by exact h.still hc n
  · exact hpost.setPlayer n rfl fun hc => by exact h.still hc n
  · exact hpost.playerIdle n _

theorem Mirror.takeSample (h : Mirror calm k t u) (n : Player) (g : Segment) (i : Fin 16) :
    Mirror calm k (t.takeSample n g i) (u.takeSample n g i) := by
  have hvisit := h.visitPage n g
  have hslot : (t.visitPage n g).slotNow n g = (u.visitPage n g).slotNow n g := by
    rw [State.slotNow, hvisit.player, hvisit.store, State.slotNow]
  have hmoved := (hvisit.placeSlot n i hslot).setPlayer n (r := ((t.visitPage n g).player n).advance g)
    (congrArg (PlayerRecord.advance g) (hvisit.player n)) fun hc => by exact hvisit.still hc n
  unfold State.takeSample
  dsimp only
  rw [hmoved.player]
  split
  · exact hmoved.endSegment n g
  · exact hmoved

theorem Mirror.playPosition (h : Mirror calm k t u) (n : Player) (i : Fin 16) :
    Mirror calm k (t.playPosition n i) (u.playPosition n i) := by
  unfold State.playPosition
  rw [h.player]
  split
  · split
    · exact h.takeSample n _ i
    · exact h.placeSlot n i rfl
  · exact h.placeSlot n i rfl

theorem Mirror.foldl {α : Type} {f : State → α → State}
    (hf : ∀ (a : α) {t u : State}, Mirror calm k t u → Mirror calm k (f t a) (f u a)) (l : List α)
    (h : Mirror calm k t u) : Mirror calm k (l.foldl f t) (l.foldl f u) := by
  induction l generalizing t u with
  | nil => exact h
  | cons a rest ih => exact ih (hf a h)

theorem Mirror.playerWork (h : Mirror calm k t u) (n : Player) (arrived : Bool) :
    Mirror calm k (t.playerWork n arrived) (u.playerWork n arrived) := by
  unfold State.playerWork State.playFrame
  refine Mirror.foldl (fun i t u h => h.playPosition n i) _ ?_
  split
  · exact h.playerArrival n
  · exact h

theorem Mirror.speechStop (h : Mirror calm k t u) (n : Player) : Mirror calm k (t.speechStop n) (u.speechStop n) := by
  unfold State.speechStop
  rw [h.player]
  split
  · exact h.abortPlayer n _
  · exact h

theorem Mirror.grantsToPlayers (h : Mirror calm k t u) (granted : List Pod) :
    Mirror calm k (State.grantsToPlayers granted t) (State.grantsToPlayers granted u) := by
  unfold State.grantsToPlayers
  split
  · exact h
  · exact Mirror.foldl (fun n t u h => h.speechStop n) _ h

end

end Sys2Proof.Machine
end

section
/-! SUPPORT. What the automixer's work at a boundary depends on: the gates, the levels and the reason sets. -/

namespace Sys2Proof.Machine

/-- What the automixer's work reads is the same in both states. -/
structure SameGates (t u : State) : Prop where
  automixer : t.automixer = u.automixer
  detectors : t.detectors = u.detectors
  reasons : t.mutes.reasons = u.mutes.reasons

section
variable {t u : State} (h : SameGates t u)
include h

/-! ### What is read -/

theorem SameGates.gate (p : Pod) : t.gate p = u.gate p := by rw [State.gate, h.automixer, State.gate]

theorem SameGates.holders : t.holders = u.holders := by
  simp only [State.holders, h.gate]

theorem SameGates.smoothedOf (p : Pod) : t.smoothedOf p = u.smoothedOf p := by
  rw [State.smoothedOf, h.detectors, State.smoothedOf]

theorem SameGates.victimBefore : t.victimBefore = u.victimBefore := by
  funext a b
  simp only [State.victimBefore, h.gate, h.smoothedOf]

theorem SameGates.requestBefore : t.requestBefore = u.requestBefore := by
  funext a b
  simp only [State.requestBefore, h.gate, h.smoothedOf]

theorem SameGates.victim : t.victim = u.victim := by
  rw [State.victim, h.victimBefore, h.holders, State.victim]

theorem SameGates.judgeGate (p : Pod) : t.judgeGate p = u.judgeGate p := by
  simp only [State.judgeGate, State.above, State.eligible, h.gate, h.automixer, h.detectors, h.reasons]

theorem SameGates.marked (m : GateMark) (l : List Pod) : t.marked m l = u.marked m l := by
  simp only [State.marked, h.judgeGate]

theorem SameGates.grantee : t.grantee = u.grantee := by
  simp only [State.grantee, State.topPriority, h.automixer, h.gate]

/-! ### What is written -/

theorem SameGates.withAutomixer (f : Automixer → Automixer) :
    SameGates { t with automixer := f t.automixer } { u with automixer := f u.automixer } :=
  { h with automixer := congrArg f h.automixer }

theorem SameGates.post (c c' : Category) (ty ty' : Byte) (l l' : List Byte) :
    SameGates (t.post c ty l) (u.post c' ty' l') := by
  rw [post_eq c, post_eq c']
  exact ⟨h.automixer, h.detectors, h.reasons⟩

theorem SameGates.releaseGate (p : Pod) (c : GateCause) : SameGates (t.releaseGate p c) (u.releaseGate p c) :=
  SameGates.post (h.withAutomixer fun a => { a with
    gates := Vec.put a.gates p { a.gates[p] with state := .closed, count := 0 }
    waitQueue := a.waitQueue.filter (· != p), collected := a.collected.filter (· != p) }) _ _ _ _ _ _

theorem SameGates.openGate (p : Pod) : SameGates (t.openGate p) (u.openGate p) :=
  SameGates.post (h.withAutomixer fun a => { a with
    gates := Vec.put a.gates p { a.gates[p] with state := .opened, count := 0 }
    waitQueue := a.waitQueue.filter (· != p), collected := a.collected.filter (· != p) }) _ _ _ _ _ _

theorem SameGates.enterWait (p : Pod) : SameGates (t.enterWait p) (u.enterWait p) :=
  SameGates.post (h.withAutomixer fun a => { a with
    gates := Vec.put a.gates p { a.gates[p] with state := .waiting, count := 0 }
    waitQueue := a.waitQueue ++ [p] }) _ _ _ _ _ _

theorem SameGates.collect (l : List Pod) : SameGates (t.collect l) (u.collect l) :=
  h.withAutomixer fun a => { a with collected := a.collected ++ l.filter fun p => !(a.collected.contains p) }

theorem SameGates.takeAutomixParams : SameGates t.takeAutomixParams u.takeAutomixParams := by
  unfold State.takeAutomixParams
  rw [h.automixer]
  split
  · exact h
  · exact { h with automixer := rfl }

theorem SameGates.takeLimit : SameGates t.takeLimit u.takeLimit := by
  unfold State.takeLimit
  rw [h.automixer]
  split
  · exact h
  · exact { h with automixer := rfl }

theorem SameGates.expire (p : Pod) : SameGates (t.expire p) (u.expire p) := by
  have hkeeps : t.lastMicKeeps p = u.lastMicKeeps p := by
    rw [State.lastMicKeeps, h.automixer, h.holders, State.lastMicKeeps]
  unfold State.expire
  rw [hkeeps]
  split
  · exact h
  · exact h.releaseGate p _

theorem SameGates.judgeGates : SameGates t.judgeGates u.judgeGates := by
  unfold State.judgeGates
  simp only [h.marked, h.judgeGate]
  exact SameGates.collect (h.withAutomixer fun a => { a with gates := Vec.tab fun p => (u.judgeGate p).1 }) _

end

theorem SameGates.foldl {α : Type} {f : State → α → State}
    (hf : ∀ (a : α) {t u : State}, SameGates t u → SameGates (f t a) (f u a)) (l : List α) {t u : State}
    (h : SameGates t u) : SameGates (l.foldl f t) (l.foldl f u) := by
  induction l generalizing t u with
  | nil => exact h
  | cons a rest ih => exact ih (hf a h)

/-! ### The four steps -/

section
variable {t u : State} (h : SameGates t u)
include h

theorem SameGates.step1 : SameGates t.step1 u.step1 := by
  have hjudged : SameGates ((t.marked .timeout t.automixer.waitQueue).foldl State.timeOut t.judgeGates)
      ((u.marked .timeout u.automixer.waitQueue).foldl State.timeOut u.judgeGates) := by
    rw [h.automixer, h.marked]
    exact SameGates.foldl (fun p t u h => h.releaseGate p _) _ h.judgeGates
  unfold State.step1
  dsimp only
  rw [hjudged.victimBefore, h.marked .expired]
  exact SameGates.foldl (fun p t u h => h.expire p) _ hjudged

end

theorem SameGates.evict (fuel : Nat) {t u : State} (h : SameGates t u) : SameGates (State.evict fuel t) (State.evict fuel u) := by
  induction fuel generalizing t u with
  | zero => exact h
  | succ fuel ih =>
    unfold State.evict
    rw [h.holders, h.automixer, h.victim]
    split
    · exact h
    · split
      · exact h
      · exact ih (h.releaseGate _ _)

theorem SameGates.grant (fuel : Nat) {t u : State} (h : SameGates t u) :
    SameGates (State.grant fuel t).1 (State.grant fuel u).1 ∧ (State.grant fuel t).2 = (State.grant fuel u).2 := by
  induction fuel generalizing t u with
  | zero => exact ⟨h, rfl⟩
  | succ fuel ih =>
    unfold State.grant
    rw [h.holders, h.automixer, h.grantee]
    split
    · exact ⟨h, rfl⟩
    · split
      · exact ⟨h, rfl⟩
      · rename_i p _
        exact ⟨(ih (h.openGate p)).1, congrArg (p :: ·) (ih (h.openGate p)).2⟩

theorem SameGates.request (p : Pod) {t u : State} (h : SameGates t u) :
    SameGates (t.request p).1 (u.request p).1 ∧ (t.request p).2 = (u.request p).2 := by
  unfold State.request
  rw [h.holders, h.automixer, h.victim]
  split
  · exact ⟨h.openGate p, rfl⟩
  · split
    · exact ⟨h.enterWait p, rfl⟩
    · rw [h.gate, h.gate]
      split
      · exact ⟨(h.releaseGate _ _).openGate p, rfl⟩
      · exact ⟨h.enterWait p, rfl⟩

theorem SameGates.requests (l : List Pod) {t u : State} (h : SameGates t u) :
    SameGates (State.requests l t).1 (State.requests l u).1 ∧ (State.requests l t).2 = (State.requests l u).2 := by
  induction l generalizing t u with
  | nil => exact ⟨h, rfl⟩
  | cons p rest ih =>
    obtain ⟨hone, hgains⟩ := h.request p
    obtain ⟨hrest, hgranted⟩ := ih hone
    unfold State.requests
    dsimp only
    rw [hgains, hgranted]
    exact ⟨hrest, rfl⟩

theorem SameGates.step4 {t u : State} (h : SameGates t u) :
    SameGates t.step4.1 u.step4.1 ∧ t.step4.2 = u.step4.2 := by
  unfold State.step4
  dsimp only
  rw [h.requestBefore]
  simp only [h.gate]
  rw [h.automixer]
  exact SameGates.requests _ { h with automixer := rfl }

/-- R169: the slots granted at a boundary depend on the gates, the levels and the reason sets alone. -/
theorem SameGates.granted {t u : State} (h : SameGates t u) : t.automix.2 = u.automix.2 := by
  have h2 : SameGates t.takeAutomixParams.step1.step2 u.takeAutomixParams.step1.step2 :=
    (h.takeAutomixParams.step1.takeLimit).evict 24
  obtain ⟨h3, hgrants⟩ := h2.grant 24
  obtain ⟨-, hrequests⟩ := SameGates.step4 h3
  unfold State.automix State.step3
  dsimp only
  rw [hgrants, hrequests]

end Sys2Proof.Machine
end

section
/-! SUPPORT. The order of the players' work at a boundary, and what a quiet boundary has left alone when the automixer's
work comes. -/

namespace Sys2Proof.Machine

/-! ### The order of the players (log entry 3) -/

/-- The player whose work it is. -/
def workPlayer : Work → Option Player
  | .player n => some n
  | _ => none

theorem workPlayer_eq_some {w : Work} {n : Player} : workPlayer w = some n ↔ w = .player n := by
  cases w <;> simp [workPlayer]

theorem findSome?_filter_of_none {α β : Type} {f : α → Option β} {q : α → Bool} (h : ∀ a, q a = false → f a = none)
    (l : List α) : (l.filter q).findSome? f = l.findSome? f := by
  induction l with
  | nil => rfl
  | cons a rest ih =>
    cases hq : q a with
    | true => rw [List.filter_cons_of_pos hq, List.findSome?_cons, List.findSome?_cons, ih]
    | false => rw [List.filter_cons_of_neg (by simp [hq]), ih, List.findSome?_cons, h a hq]

/-- Keeping the first of each leaves the first of all. -/
theorem findSome?_keepFirst {β : Type} (f : Work → Option β) (l : List Work) :
    (keepFirst l).findSome? f = l.findSome? f := by
  induction l with
  | nil => rfl
  | cons w rest ih =>
    rw [keepFirst, List.findSome?_cons, List.findSome?_cons]
    cases hw : f w with
    | some b => rfl
    | none =>
      dsimp only
      rw [findSome?_filter_of_none, ih]
      intro v hv
      rw [show v = w by simpa using hv, hw]

theorem findSome?_keysAfterTakes {β : Type} {f : Work → Option β} (h : f .keys = none) (l : List Work) :
    (keysAfterTakes l).findSome? f = l.findSome? f := by
  induction l with
  | nil => rw [keysAfterTakes, List.findSome?_cons, h]
  | cons w rest ih =>
    unfold keysAfterTakes
    split
    · rw [List.findSome?_cons, List.findSome?_cons, ih]
    · rw [List.findSome?_cons, h]

theorem findSome?_deferKeys {β : Type} {f : Work → Option β} (h : f .keys = none) (l : List Work) :
    (deferKeys l).findSome? f = l.findSome? f := by
  induction l with
  | nil => rfl
  | cons w rest ih =>
    cases w with
    | keys => exact (findSome?_keysAfterTakes h rest).trans (by rw [List.findSome?_cons, h])
    | take p | automixer | player n | levelControl | session =>
      simp only [deferKeys, List.findSome?_cons, ih]

theorem head?_filterMap {α β : Type} (f : α → Option β) (l : List α) : (l.filterMap f).head? = l.findSome? f := by
  induction l with
  | nil => rfl
  | cons a rest ih =>
    rw [List.filterMap_cons, List.findSome?_cons]
    cases f a with
    | none => exact ih
    | some b => rfl

/-- The player that the order names first. -/
def firstPlayer (order : List Work) : Player := (order.findSome? workPlayer).getD 0

/-- A list of players that holds each once. -/
theorem players_eq_pair {l : List Player} (hn : l.Nodup) (hall : ∀ n : Player, n ∈ l) {one : Player} (h : l.head? = some one) :
    l = [one, 1 - one] := by
  match l, hn, hall, h with
  | [a], _, hall, _ =>
    have h0 := hall 0
    have h1 := hall 1
    simp only [List.mem_singleton] at h0 h1
    rw [← h0] at h1
    exact absurd h1 (by decide)
  | [a, b], hn, _, h =>
    obtain rfl : a = one := by simpa using h
    have hne : a ≠ b := by simpa using hn
    have hb : b = 1 - a := by
      clear * - hne
      revert a b
      decide
    rw [hb]
  | a :: b :: c :: rest, hn, _, _ =>
    have := hn.length_le_card
    simp at this

/-- The two players' work comes in the order in which the first of them is named. -/
theorem schedule_players (order : List Work) :
    (schedule order).filterMap workPlayer = [firstPlayer order, 1 - firstPlayer order] := by
  refine players_eq_pair ?_ (fun n => ?_) ?_
  · refine (nodup_schedule order).filterMap fun v w n hv hw => ?_
    exact (workPlayer_eq_some.1 hv).trans (workPlayer_eq_some.1 hw).symm
  · exact List.mem_filterMap.2 ⟨.player n, mem_schedule _ order, rfl⟩
  · rw [head?_filterMap, schedule, findSome?_deferKeys rfl, findSome?_keepFirst, List.findSome?_append, firstPlayer]
    cases order.findSome? workPlayer with
    | none => decide
    | some n => rfl

/-! ### A quiet boundary (R91) -/

/-- A link that makes no change of state at the boundary hands on none, and what its take hands over is no first take. -/
theorem steadyAt_boundary {s : State} {p : Pod} (h : s.steadyAt p) :
    ((s.links[p]).boundary s.linkParams).2.2 = [] ∧
      ∀ k ∈ ((s.links[p]).boundary s.linkParams).2.1.keys, k.first = false ∧ (k.talk, k.all) ∈ s.handedKeys p := by
  unfold State.steadyAt at h
  unfold State.handedKeys
  generalize s.links[p] = l at h
  dsimp only at h
  rcases h with (h | h) | ⟨h, hrun⟩ | ⟨h, hfifo, hfirst, hcount⟩ | ⟨h, hfifo, hfirst⟩ | ⟨h, hfifo, hrun⟩
  · simp [Link.boundary, h, Yield.keys]
  · simp [Link.boundary, h, Yield.keys]
  · have hno : ¬ s.linkParams.unlockCount ≤ l.nextSilenceRun := Nat.not_le.2 hrun
    simp [Link.boundary, h, Link.acquiringBoundary, hno, Yield.keys]
  · obtain ⟨f, rest, hl⟩ := List.exists_cons_of_ne_nil hfifo
    have hno : ¬ s.linkParams.settleFrames ≤ l.settleCounter + 1 := Nat.not_le.2 hcount
    simp [Link.boundary, h, hl, Link.settlingTake, Link.takeOldest, hno, hfirst, Yield.keys, LinkState.takes]
  · obtain ⟨f, rest, hl⟩ := List.exists_cons_of_ne_nil hfifo
    cases hs : l.state with
    | off | absent | acquiring | settling => rw [hs] at h; cases h
    | locked | coasting => simp [Link.boundary, hs, hl, hfirst, Yield.keys, LinkState.takes]
  · have hno : ¬ s.linkParams.unlockCount ≤ l.nextCoastRun := Nat.not_le.2 hrun
    rw [Link.boundary_empty _ h hfifo, Link.emptyTake, if_neg hno]
    simp [Yield.keys]

/-- What a quiet boundary has left alone so far: what the automixer's work reads, the accepted levels of the keys, and no
take has handed over another level. -/
structure Settled (s : State) (g : Progress) : Prop where
  gates : SameGates g.state s
  params : g.state.linkParams = s.linkParams
  pressed : ∀ p : Pod, (g.state.mutes.talkKey[p]).pressed = (s.mutes.talkKey[p]).pressed ∧
    (g.state.mutes.allKey[p]).pressed = (s.mutes.allKey[p]).pressed
  keys : ∀ p : Pod, ∀ k ∈ g.keys[p], k.first = false ∧ k.talk = (s.mutes.talkKey[p]).pressed ∧
    k.all = (s.mutes.allKey[p]).pressed

/-- A level that is the accepted one is no edge (R93). -/
theorem KeyRecord.not_accepts {k : KeyRecord} {level : Bool} (h : level = k.pressed) (guard : Nat) :
    k.accepts guard level = false := by
  simp [KeyRecord.accepts, h]

/-- A pass in which no take does anything (R91). -/
theorem keyPass_of_still {one : Pod → KeyLevels → State → State} {keys : TakenKeys} {s : State}
    (h : ∀ (p : Pod), ∀ k ∈ keys[p], one p k s = s) : keyPass one keys s = s := by
  unfold keyPass
  refine List.foldl_fixed' (fun p => ?_) allPods
  cases hk : keys[p] with
  | none => rfl
  | some k => exact h p k hk

theorem ageKeys_pressed (s : State) (p : Pod) :
    (s.ageKeys.mutes.talkKey[p]).pressed = (s.mutes.talkKey[p]).pressed ∧
      (s.ageKeys.mutes.allKey[p]).pressed = (s.mutes.allKey[p]).pressed := by
  simp [State.ageKeys, KeyRecord.older]

/-- R92, R93: takes whose levels are the accepted ones give no edge. -/
theorem takeKeys_of_pressed {keys : TakenKeys} {s : State}
    (h : ∀ p : Pod, ∀ k ∈ keys[p], k.first = false ∧ k.talk = (s.mutes.talkKey[p]).pressed ∧
      k.all = (s.mutes.allKey[p]).pressed) : s.takeKeys keys = s := by
  have hall : keyPass State.takeAllLevel keys s = s := keyPass_of_still fun p k hk => by
    obtain ⟨hfirst, -, hlevel⟩ := h p k hk
    simp only [State.takeAllLevel, hfirst, KeyRecord.not_accepts hlevel, Bool.false_eq_true, if_false]
  rw [State.takeKeys, hall]
  refine keyPass_of_still fun p k hk => ?_
  obtain ⟨hfirst, hlevel, -⟩ := h p k hk
  simp only [State.takeTalkLevel, hfirst, KeyRecord.not_accepts hlevel, Bool.false_eq_true, if_false]

/-- R39: the take of a link that makes no change of state. -/
theorem linkBoundary_of_no_change {p : Pod} {s : State} (h : ((s.links[p]).boundary s.linkParams).2.2 = []) :
    s.linkBoundary p = { s with links := Vec.put s.links p ((s.links[p]).boundary s.linkParams).1 } := by
  simp only [State.linkBoundary, State.moveLink, h, List.foldl_nil]

section
variable {s : State} {g : Progress}

theorem Settled.of_kept {g' : Progress} (h : Settled s g) (hautomixer : g'.state.automixer = g.state.automixer)
    (hdetectors : g'.state.detectors = g.state.detectors) (hmutes : g'.state.mutes = g.state.mutes)
    (hparams : g'.state.linkParams = g.state.linkParams) (hkeys : g'.keys = g.keys) : Settled s g' := by
  refine ⟨⟨hautomixer.trans h.gates.automixer, hdetectors.trans h.gates.detectors, ?_⟩, hparams.trans h.params, ?_, ?_⟩
  · rw [hmutes]
    exact h.gates.reasons
  · rw [hmutes]
    exact h.pressed
  · rw [hkeys]
    exact h.keys

theorem Settled.take (h : Settled s g) (hq : s.quiet) {p : Pod} (hl : g.state.links[p] = s.links[p]) :
    Settled s (g.take p) := by
  obtain ⟨hsteady, hlevels⟩ := hq p
  obtain ⟨hchanges, htaken⟩ := steadyAt_boundary hsteady
  rw [← hl, ← h.params] at hchanges
  have hstate : (g.take p).state = { g.state with
      links := Vec.put g.state.links p ((g.state.links[p]).boundary g.state.linkParams).1
      inputs := { g.state.inputs with
        pods := Vec.put g.state.inputs.pods p (g.state.linkYield p).samples } } := by
    rw [Progress.take, linkBoundary_of_no_change hchanges, State.placeTake]
  have hkept : Settled s { g with state := (g.take p).state } := by
    refine h.of_kept ?_ ?_ ?_ ?_ rfl <;> dsimp only <;> rw [hstate]
  refine { hkept with keys := fun r k hk => ?_ }
  rw [show (g.take p).keys = Vec.put g.keys p (g.state.linkYield p).keys from rfl, Fin.getElem_fin, Vec.getElem_put] at hk
  split at hk
  · rename_i hr
    obtain rfl : p = r := Fin.ext hr
    rw [State.linkYield, hl, h.params] at hk
    obtain ⟨hfirst, hgiven⟩ := htaken k hk
    have := hlevels _ hgiven
    exact ⟨hfirst, congrArg Prod.fst this, congrArg Prod.snd this⟩
  · exact h.keys r k hk

variable (before : State) (a : Arrivals)

theorem Settled.keysWork (h : Settled s g) : Settled s (g.work before a .keys) := by
  have hstate : (g.work before a .keys).state = g.state.ageKeys := by
    rw [work_keys]
    refine takeKeys_of_pressed fun p k hk => ?_
    obtain ⟨hfirst, htalk, hall⟩ := h.keys p k hk
    obtain ⟨hagedTalk, hagedAll⟩ := ageKeys_pressed g.state p
    obtain ⟨hpressedTalk, hpressedAll⟩ := h.pressed p
    exact ⟨hfirst, by rw [htalk, hagedTalk, hpressedTalk], by rw [hall, hagedAll, hpressedAll]⟩
  have hkeys : (g.work before a .keys).keys = g.keys := rfl
  refine ⟨?_, ?_, fun p => ?_, ?_⟩
  · rw [hstate]
    exact ⟨h.gates.automixer, h.gates.detectors, h.gates.reasons⟩
  · rw [hstate]
    exact h.params
  · rw [hstate, (ageKeys_pressed g.state p).1, (ageKeys_pressed g.state p).2]
    exact h.pressed p
  · rw [hkeys]
    exact h.keys

theorem Settled.playerWork (h : Settled s g) (n : Player) : Settled s (g.work before a (.player n)) := by
  have hmoves := work_moves before a g (.player n)
  have hautomixer : (g.work before a (.player n)).state.automixer = g.state.automixer :=
    hmoves.frame .automixer (by simp only [partsOf]; decide)
  have hdetectors : (g.work before a (.player n)).state.detectors = g.state.detectors :=
    hmoves.frame .detectors (by simp only [partsOf]; decide)
  have hmutes : (g.work before a (.player n)).state.mutes = g.state.mutes :=
    hmoves.frame .mutes (by simp only [partsOf]; decide)
  have hparams : (g.work before a (.player n)).state.linkParams = g.state.linkParams :=
    hmoves.frame .linkParams (by simp only [partsOf]; decide)
  have hkeys : (g.work before a (.player n)).keys = g.keys := by simp only [Progress.work, Progress.onState]
  exact h.of_kept hautomixer hdetectors hmutes hparams hkeys

/-- The works that may come before the automixer's at the boundaries of the statement. -/
def Work.early (w : Work) : Prop := (∃ p : Pod, w = .take p) ∨ w = .keys ∨ ∃ n : Player, w = .player n

/-- At a quiet boundary what the automixer's work reads is left alone before it. -/
theorem Settled.works (hq : s.quiet) {l : List Work} (hn : l.Nodup) (hl : ∀ w ∈ l, Work.early w) (h : Settled s g)
    (hlinks : ∀ p : Pod, Work.take p ∈ l → g.state.links[p] = s.links[p]) :
    Settled s (l.foldl (Progress.work before a) g) := by
  induction l generalizing g with
  | nil => exact h
  | cons w rest ih =>
    obtain ⟨hw, hrest⟩ := List.nodup_cons.1 hn
    have hstep : Settled s (g.work before a w) := by
      rcases hl w (by simp) with ⟨p, rfl⟩ | rfl | ⟨n, rfl⟩
      · rw [work_take]
        exact h.take hq (hlinks p (by simp))
      · exact h.keysWork before a
      · exact h.playerWork before a n
    refine ih hrest (fun v hv => hl v (List.mem_cons_of_mem w hv)) hstep fun p hp => ?_
    have hne : w ≠ .take p := fun he => hw (by rw [he]; exact hp)
    rw [(work_podKept before a g hne).1]
    exact hlinks p (List.mem_cons_of_mem w hp)

end

/-- The work of a boundary begins with nothing of this touched. -/
theorem settled_begun (s : State) : Settled s { state := s.begun, keys := Vec.tab fun _ => none } := by
  rw [begun_eq]
  exact ⟨⟨rfl, rfl, rfl⟩, rfl, fun _ => ⟨rfl, rfl⟩, fun p k hk => by simp at hk⟩

end Sys2Proof.Machine
end

section
/-! The players' frames at a boundary: O26. -/

namespace Sys2Proof.Machine

/-! ### The work of a boundary beside the players' work alone -/

theorem speechStop_of_calm {s : State} {n : Player} (h : (s.player n).stopOnSpeech = false) : s.speechStop n = s := by
  rw [State.speechStop, if_neg (by simp [h])]

/-- R169: a grant stops no player that does not stop on speech. -/
theorem grantsToPlayers_of_calm {s : State} (h : ∀ n : Player, (s.player n).stopOnSpeech = false) (granted : List Pod) :
    State.grantsToPlayers granted s = s := by
  unfold State.grantsToPlayers
  split
  · rfl
  · exact List.foldl_fixed' (fun n => speechStop_of_calm (h n)) _

section
variable {calm : Prop} {k : Nat} {u : State} (before : State) (a : Arrivals) {g : Progress}

/-- A work that is no player's and not the automixer's. -/
def bystander (w : Work) : Bool :=
  match w with
  | .take _ | .keys | .levelControl | .session => true
  | .automixer | .player _ => false

theorem Mirror.bystanderWork (h : Mirror calm k g.state u) {w : Work} (hw : bystander w = true) :
    Mirror calm k (g.work before a w).state u := by
  refine h.of_moves (work_moves before a g w) ?_
  cases w with
  | automixer | player n => cases hw
  | _ => simp only [partsOf]; decide

theorem Mirror.playersWork (h : Mirror calm k g.state u) (n : Player) :
    Mirror calm k (g.work before a (.player n)).state (u.playerWork n a.players[n]) := by
  rw [work_player]
  exact h.playerWork n _

theorem Mirror.automixWork (h : Mirror calm k g.state u) {granted : List Pod} (hg : g.state.automix.2 = granted) :
    Mirror calm k (g.work before a .automixer).state (State.grantsToPlayers granted u) := by
  rw [work_automixer, State.automixerWork, hg]
  exact (h.of_moves (automix_moves g.state) (by decide)).grantsToPlayers granted

/-- The players' work alone counts, in its order, where the automixer hands the players nothing. -/
theorem Mirror.works (l : List Work) (hl : .automixer ∈ l → calm) (h : Mirror calm k g.state u) :
    Mirror calm k (l.foldl (Progress.work before a) g).state
      ((l.filterMap workPlayer).foldl (fun u n => u.playerWork n a.players[n]) u) := by
  induction l generalizing g u with
  | nil => exact h
  | cons w rest ih =>
    have hrest : .automixer ∈ rest → calm := fun hw => hl (List.mem_cons_of_mem w hw)
    cases w with
    | player n =>
      rw [List.foldl_cons, List.filterMap_cons_some (f := workPlayer) (a := .player n) (b := n) rfl, List.foldl_cons]
      exact ih hrest (h.playersWork before a n)
    | automixer =>
      have hstep := h.automixWork before a rfl
      rw [grantsToPlayers_of_calm (h.still (hl (by simp)))] at hstep
      rw [List.foldl_cons, List.filterMap_cons_none rfl]
      exact ih hrest hstep
    | take p | keys | levelControl | session =>
      rw [List.foldl_cons, List.filterMap_cons_none rfl]
      exact ih hrest (h.bystanderWork before a rfl)

end

/-! ### The whole boundary -/

/-- What the work of a boundary begins with. -/
def State.workStart (s : State) : Progress := { state := s.begun, keys := Vec.tab fun _ => none }

theorem worked_eq (order : List Work) (s : State) :
    s.worked order = ((schedule order).foldl (Progress.work s s.closePeriod.ramps.arrivals) s.workStart).state := rfl

/-- The state in which the players' work alone begins: their ramps have passed the period ended (R23, R25). -/
def State.playersBegun (s : State) : State :=
  { s with ramps := { s.ramps with player := Vec.tab fun n => (s.ramps.player[n]).passed s.inForce.isSome } }

theorem mirror_begun {calm : Prop} {s : State} (h : calm → ∀ n : Player, (s.player n).stopOnSpeech = false) :
    Mirror calm s.control.queue.length s.workStart.state s.playersBegun := by
  rw [show s.workStart.state = s.begun from rfl, begun_eq]
  refine ⟨rfl, rfl, rfl, rfl, rfl, .inr fun m hm => ?_, le_rfl, h⟩
  rw [show s.playersBegun.control = s.control from rfl, List.drop_length] at hm
  cases hm

/-- What the boundary makes of the players' part, beside a state `u` that the players' work alone has reached. -/
structure PlayersAgree (k : Nat) (t u : State) : Prop where
  players : t.players = u.players
  store : t.store = u.store
  inputs : t.inputs.players = u.inputs.players
  ramps : ∀ n : Player, t.ramps.player[n] = (u.ramps.player[n]).comeInForce
  reports : ∀ m ∈ u.control.queue.drop k, t.control.lost = true ∨ StandsIn m t.control.queue

theorem Mirror.boundary {calm : Prop} {k : Nat} {order : List Work} {s u : State} (trunks : Vector Frame 4)
    (h : Mirror calm k (s.worked order) u) : PlayersAgree k (s.boundary order trunks) u := by
  have hready : Mirror calm k (s.ready order trunks) u := h.of_moves (ready_moves order trunks s) (by decide)
  rw [boundary_eq]
  generalize s.ready order trunks = v at hready
  refine ⟨hready.players, hready.store, hready.inputs, fun n => ?_, fun m hm => ?_⟩
  · rw [openPeriod_ramps, ← hready.ramps]
    simp [Ramps.map]
  · rcases hready.reports with hfull | hstands
    · exact .inl hfull.1
    · exact .inr (hstands m hm)

/-- The arrivals at 0 that the players' work of a boundary receives. -/
def State.playerArrivals (s : State) (n : Player) : Bool :=
  let closed : Ramp := if s.inForce = none then s.ramps.player[n] else Ramp.move^[16] s.ramps.player[n]
  closed.arrives && decide (closed.target = 0)

theorem closePeriod_ramps_of_none {s : State} (h : s.inForce = none) : s.closePeriod.ramps = s.ramps := by
  simp only [State.closePeriod, h, State.handOut]

theorem closePeriod_ramps_of_some {s : State} {v : InForce} (h : s.inForce = some v) :
    s.closePeriod.ramps = s.ramps.map (Ramp.endPeriod ∘ Ramp.move^[16]) := by
  simp only [State.closePeriod, h, State.handOut, runPositions_ramps, movesOf_eq_map, Ramps.map_map]
  rfl

theorem arrivals_players (s : State) (n : Player) : s.closePeriod.ramps.arrivals.players[n] = s.playerArrivals n := by
  rw [Ramps.arrivals, State.playerArrivals]
  cases hf : s.inForce with
  | none => simp [closePeriod_ramps_of_none hf, Ramp.arrivesAtZero]
  | some v =>
    rw [closePeriod_ramps_of_some hf]
    simp only [Ramps.map, Fin.getElem_fin, Vec.getElem_tab, Function.comp, reduceCtorEq, if_false]
    generalize Ramp.move^[16] s.ramps.player[n.1] = x
    rfl

/-- The players' work alone, in an order, from a state. -/
def State.playersRun (s : State) (l : List Player) (u : State) : State :=
  l.foldl (fun u n => u.playerWork n (s.playerArrivals n)) u

theorem playersRun_eq (s : State) (l : List Player) (u : State) :
    l.foldl (fun u n => u.playerWork n s.closePeriod.ramps.arrivals.players[n]) u = s.playersRun l u := by
  simp only [arrivals_players, State.playersRun]

/-- R165: with no player that stops on speech, the boundary makes of the players' part what their work alone does. -/
theorem boundary_of_calm {order : List Work} {s : State} (trunks : Vector Frame 4)
    (h : ∀ n : Player, (s.player n).stopOnSpeech = false) :
    PlayersAgree s.control.queue.length (s.boundary order trunks)
      (s.playersRun [firstPlayer order, 1 - firstPlayer order] s.playersBegun) := by
  have hrun := Mirror.works s s.closePeriod.ramps.arrivals
    (schedule order) (fun _ => trivial) (mirror_begun (calm := True) fun _ => h)
  rw [schedule_players, playersRun_eq] at hrun
  exact Mirror.boundary trunks hrun

/-! ### A quiet boundary (R169) -/

/-- R165, R169: at a quiet boundary the slots are granted that the state as the period ends calls for, between the players'
work before the automixer's and that after it. -/
theorem boundary_of_quiet {order x y : List Work} {s : State} (trunks : Vector Frame 4) (hq : s.quiet)
    (hsched : schedule order = x ++ .automixer :: y) (hx : ∀ w ∈ x, Work.early w) :
    PlayersAgree s.control.queue.length (s.boundary order trunks)
      (s.playersRun (y.filterMap workPlayer)
        (State.grantsToPlayers s.automix.2 (s.playersRun (x.filterMap workPlayer) s.playersBegun))) := by
  have hn := nodup_schedule order
  rw [hsched, List.nodup_middle, List.nodup_cons, List.mem_append, not_or] at hn
  obtain ⟨⟨hautx, hauty⟩, hxy⟩ := hn
  have hsettled : Settled s (x.foldl (Progress.work s s.closePeriod.ramps.arrivals) s.workStart) :=
    Settled.works s _ hq hxy.of_append_left hx (settled_begun s) fun p _ => by rw [State.workStart, begun_eq]
  have hbefore := (mirror_begun (calm := False) (s := s) False.elim).works s s.closePeriod.ramps.arrivals x
    fun hw => absurd hw hautx
  have hafter := (hbefore.automixWork s s.closePeriod.ramps.arrivals hsettled.gates.granted).works s
    s.closePeriod.ramps.arrivals y fun hw => absurd hw hauty
  rw [playersRun_eq, playersRun_eq] at hafter
  refine Mirror.boundary (calm := False) trunks ?_
  rw [worked_eq, hsched, List.foldl_append, List.foldl_cons]
  exact hafter

/-- The takes of a boundary and the mute controller's passes over them. -/
def takesAndKeys : List Work := allPods.map Work.take ++ [.keys]

theorem takesAndKeys_early : ∀ w ∈ takesAndKeys, Work.early w := by
  intro w hw
  rcases List.mem_append.1 hw with hw | hw
  · obtain ⟨p, -, rfl⟩ := List.mem_map.1 hw
    exact .inl ⟨p, rfl⟩
  · exact .inr (.inl (List.mem_singleton.1 hw))

theorem schedule_default :
    schedule [] = takesAndKeys ++ .automixer :: [.player 0, .player 1, .levelControl, .session] := by decide

theorem schedule_players_first :
    schedule [.player 0, .player 1] = (.player 0 :: .player 1 :: takesAndKeys) ++ .automixer :: [.levelControl, .session] := by
  decide

theorem players_takesAndKeys : takesAndKeys.filterMap workPlayer = [] := by decide

/-! ### Slot grants at the players (R169) -/

section
variable {s : State} {n : Player}

theorem abortPlayer_other {m : Player} (h : m ≠ n) (reason : DoneReason) (s : State) :
    (s.abortPlayer m reason).player n = s.player n ∧ (s.abortPlayer m reason).ramps.player[n] = s.ramps.player[n] := by
  have hne : (m : Nat) ≠ n := fun e => h (Fin.ext e)
  exact ⟨Vec.getElem_put_ne _ _ _ _ n.2 hne, Vec.getElem_put_ne _ _ _ _ n.2 hne⟩

theorem abortPlayer_self (reason : DoneReason) (s : State) :
    (s.abortPlayer n reason).player n = { s.player n with state := .aborting, abortReason := some reason } ∧
      (s.abortPlayer n reason).ramps.player[n] = (s.ramps.player[n]).setTarget 0 4 :=
  ⟨Vec.getElem_put_self _ _ _, Vec.getElem_put_self _ _ _⟩

theorem speechStop_other {m : Player} (h : m ≠ n) (s : State) :
    (s.speechStop m).player n = s.player n ∧ (s.speechStop m).ramps.player[n] = s.ramps.player[n] := by
  unfold State.speechStop
  split
  · exact abortPlayer_other h _ s
  · exact ⟨rfl, rfl⟩

theorem speechStop_of_stops (h : (s.player n).stopOnSpeech = true ∧ (s.player n).state = .playing) :
    s.speechStop n = s.abortPlayer n .speech := if_pos h

theorem speechStop_of_not (h : ¬ ((s.player n).stopOnSpeech = true ∧ (s.player n).state = .playing)) :
    s.speechStop n = s := if_neg h

end

/-- R169: what both players' stops make of player `n` is what its own makes of it. -/
theorem speechStops_player (n : Player) (s : State) :
    ([0, 1].foldl State.speechStop s).player n = (s.speechStop n).player n ∧
      ([0, 1].foldl State.speechStop s).ramps.player[n] = (s.speechStop n).ramps.player[n] := by
  revert n
  refine Fin.forall_fin_two.2 ⟨speechStop_other (by decide) _, ?_⟩
  obtain ⟨hplayer, hramp⟩ := speechStop_other (m := 0) (n := 1) (by decide) s
  have hcond : (s.speechStop 0).player 1 = s.player 1 := hplayer
  change ((s.speechStop 0).speechStop 1).player 1 = (s.speechStop 1).player 1 ∧
    ((s.speechStop 0).speechStop 1).ramps.player[(1 : Player)] = (s.speechStop 1).ramps.player[(1 : Player)]
  by_cases h : (s.player 1).stopOnSpeech = true ∧ (s.player 1).state = .playing
  · rw [speechStop_of_stops (s := s.speechStop 0) (by rwa [hcond]), speechStop_of_stops h]
    obtain ⟨h1, h2⟩ := abortPlayer_self (n := 1) .speech (s.speechStop 0)
    obtain ⟨h3, h4⟩ := abortPlayer_self (n := 1) .speech s
    rw [h1, h2, h3, h4, hplayer, hramp]
    exact ⟨rfl, rfl⟩
  · rw [speechStop_of_not (s := s.speechStop 0) (by rwa [hcond]), speechStop_of_not h]
    exact ⟨hplayer, hramp⟩

/-- R169: a grant sends a PLAYING player that stops on speech to ABORTING, and leaves the other be. -/
theorem grantsToPlayers_spec (granted : List Pod) (n : Player) (s : State) :
    let t := State.grantsToPlayers granted s
    let stops := granted ≠ [] ∧ (s.player n).stopOnSpeech = true ∧ (s.player n).state = .playing
    (stops → t.player n = { s.player n with state := .aborting, abortReason := some .speech } ∧
      t.ramps.player[n] = (s.ramps.player[n]).setTarget 0 4) ∧
    (¬ stops → t.player n = s.player n ∧ t.ramps.player[n] = s.ramps.player[n]) ∧ t.store = s.store := by
  intro t stops
  refine ⟨fun ⟨hg, hs⟩ => ?_, fun h => ?_, (grantsToPlayers_moves s granted).frame .store (by decide)⟩
  · obtain ⟨hplayer, hramp⟩ := speechStops_player n s
    have ht : t = [0, 1].foldl State.speechStop s := if_neg hg
    rw [ht, hplayer, hramp, speechStop_of_stops hs]
    exact abortPlayer_self _ s
  · by_cases hg : granted = []
    · have ht : t = s := if_pos hg
      rw [ht]
      exact ⟨rfl, rfl⟩
    · obtain ⟨hplayer, hramp⟩ := speechStops_player n s
      have ht : t = [0, 1].foldl State.speechStop s := if_neg hg
      rw [ht, hplayer, hramp, speechStop_of_not fun hs => h ⟨hg, hs⟩]
      exact ⟨rfl, rfl⟩

end Sys2Proof.Machine
end

section
/-! One position of a player's frame (R153, R154, R159, R165, R170), and the settling of O26. -/

namespace Sys2Proof.Machine

/-! ### The step of the record (R159, R165) -/

/-- The words of the rule for a wrap: the size of the loop block, 0 without one. -/
def LoopBlock.extent : LoopBlock → Nat
  | .none => 0 | .b256 => 256 | .b512 => 512 | .b1024 => 1024 | .b2048 => 2048

/-- R159: the offset after `offset` is past the loop block that holds the start. -/
abbrev Segment.Wraps (g : Segment) (offset : Nat) : Prop :=
  g.loopBlock ≠ .none ∧ g.loopBlock.extent * (g.start / g.loopBlock.extent) + g.loopBlock.extent ≤ offset + 1

theorem Segment.wrapsAfter_iff (g : Segment) (offset : Nat) : g.wrapsAfter offset = true ↔ g.Wraps offset := by
  cases h : g.loopBlock <;> simp [Segment.wrapsAfter, Segment.Wraps, h, LoopBlock.size, LoopBlock.extent, loopFirst]

theorem Segment.offsetAfter_of_wraps {g : Segment} {offset : Nat} (h : g.Wraps offset) :
    g.offsetAfter offset = g.loopBlock.extent * (g.start / g.loopBlock.extent) := by
  obtain ⟨hne, hle⟩ := h
  cases hb : g.loopBlock with
  | none => exact absurd hb hne
  | b256 | b512 | b1024 | b2048 =>
    rw [hb] at hle
    simp only [Segment.offsetAfter, hb, LoopBlock.size]
    exact if_pos hle

theorem Segment.offsetAfter_of_not_wraps {g : Segment} {offset : Nat} (h : ¬ g.Wraps offset) :
    g.offsetAfter offset = offset + 1 := by
  cases hb : g.loopBlock with
  | none => simp only [Segment.offsetAfter, hb, LoopBlock.size]
  | b256 | b512 | b1024 | b2048 =>
    simp only [Segment.Wraps, hb, LoopBlock.extent, ne_eq, reduceCtorEq, not_false_eq_true, true_and] at h
    simp only [Segment.offsetAfter, hb, LoopBlock.size]
    exact if_neg h

/-! ### The page of the sample (R153, R154, R165, R170) -/

/-- The position of the page that holds the sample at a player's next offset. -/
abbrev PlayerRecord.pageAt (r : PlayerRecord) : Nat := r.nextOffset / 256

section
variable {n : Player} {g : Segment} {s : State}

theorem visitPage_of_visited (h : (s.player n).page.map Prod.fst = some (s.player n).pageAt) : s.visitPage n g = s := if_pos h

theorem visitPage_of_entered (h : (s.player n).page.map Prod.fst ≠ some (s.player n).pageAt) :
    s.visitPage n g = s.enterPage n g (s.player n).pageAt := if_neg h

theorem enterPage_of_passes {pos : Nat} (h : s.store.passes g.clip pos = true) :
    s.enterPage n g pos = s.setPlayer n { s.player n with page := some (pos, true) } := by
  have hread : s.readPage n g.clip pos = (s, true) := if_pos h
  rw [State.enterPage, hread]
  rfl

theorem readPage_of_fails {c : ClipId} {pos : Nat} {page : PageNumber} (h : s.store.passes c pos = false)
    (hpage : (s.store.clips[c]).pages[pos]? = some page) : s.readPage n c pos = (s.readFails n c pos page, false) := by
  rw [State.readPage, if_neg (by simp [h]), hpage]

/-- R154: a failed read touches the store and the reports. -/
theorem readFails_eq (n : Player) (c : ClipId) (pos : Nat) (page : PageNumber) (s : State) :
    s.readFails n c pos page = { s with store := (s.readFails n c pos page).store
                                        control := (s.readFails n c pos page).control } := by
  unfold State.readFails
  dsimp only
  split
  · rw [post_eq]
    rfl
  · rfl

theorem enterPage_of_fails {pos : Nat} {page : PageNumber} (h : s.store.passes g.clip pos = false)
    (hpage : (s.store.clips[g.clip]).pages[pos]? = some page) :
    s.enterPage n g pos =
      ((s.readFails n g.clip pos page).setPlayer n { s.player n with page := some (pos, false) }).faultVerdict n := by
  have hplayer : (s.readFails n g.clip pos page).player n = s.player n := by rw [readFails_eq]; rfl
  rw [State.enterPage, readPage_of_fails h hpage]
  dsimp only
  rw [hplayer]
  rfl

end

/-! ### The sample (R165) -/

section
variable {n : Player} {i : Fin 16} {g : Segment} {s : State}

theorem playPosition_of_advancing (ha : (s.player n).advancing = true) (hg : (s.player n).segment = some g) :
    s.playPosition n i = s.takeSample n g i := by
  rw [State.playPosition, if_pos ha, hg]

/-- A sample that does not end its segment. -/
theorem takeSample_of_lt {t : State} (hv : s.visitPage n g = t) (hlt : (t.player n).played + 1 < g.playLength) :
    s.takeSample n g i = (t.placeSlot n i (t.slotNow n g)).setPlayer n ((t.player n).advance g) := by
  rw [State.takeSample, hv]
  exact if_neg (by rw [player_setPlayer]; exact Nat.not_le.2 hlt)

/-- R159, R165: the record moves on by one sample. -/
theorem advance_of_page {r : PlayerRecord} {x : Option (Nat × Bool)} (hx : r.page = x) :
    r.advance g = { r with
      played := r.played + 1
      nextOffset :=
        if g.Wraps r.nextOffset then g.loopBlock.extent * (g.start / g.loopBlock.extent) else r.nextOffset + 1
      page := if g.Wraps r.nextOffset then none else x } := by
  subst hx
  by_cases h : g.Wraps r.nextOffset
  · rw [if_pos h, if_pos h, PlayerRecord.advance, Segment.offsetAfter_of_wraps h,
      if_pos ((Segment.wrapsAfter_iff g _).2 h)]
  · rw [if_neg h, if_neg h, PlayerRecord.advance, Segment.offsetAfter_of_not_wraps h,
      if_neg fun hw => h ((Segment.wrapsAfter_iff g _).1 hw)]

/-- R153, R165: a sample of a page visited before, or whose read passes. -/
theorem playPosition_of_passed (ha : (s.player n).advancing = true) (hg : (s.player n).segment = some g)
    (hlt : (s.player n).played + 1 < g.playLength)
    (hp : (s.player n).page = some ((s.player n).pageAt, true) ∨
      ((s.player n).page.map Prod.fst ≠ some (s.player n).pageAt ∧ s.store.passes g.clip (s.player n).pageAt = true)) :
    s.playPosition n i =
      (s.placeSlot n i { sample := s.store.sampleAt g.clip (s.player n).nextOffset, gain := g.gain }).setPlayer n
        (PlayerRecord.advance g { s.player n with page := some ((s.player n).pageAt, true) }) := by
  rw [playPosition_of_advancing ha hg]
  rcases hp with hp | ⟨hne, hpass⟩
  · have hv : s.visitPage n g = s := visitPage_of_visited (by rw [hp]; rfl)
    rw [takeSample_of_lt hv hlt, State.slotNow, if_pos (by rw [hp]; rfl), ← hp]
  · have hv := (visitPage_of_entered (g := g) hne).trans (enterPage_of_passes hpass)
    rw [takeSample_of_lt hv (by rw [player_setPlayer]; exact hlt), State.slotNow, player_setPlayer]
    simp only [State.setPlayer, State.placeSlot, Vec.put_put]
    rfl

/-- R153: a sample of a page whose read failed before. -/
theorem playPosition_of_failed (ha : (s.player n).advancing = true) (hg : (s.player n).segment = some g)
    (hlt : (s.player n).played + 1 < g.playLength) (hp : (s.player n).page = some ((s.player n).pageAt, false)) :
    s.playPosition n i =
      (s.placeSlot n i { sample := 0, gain := g.gain }).setPlayer n (PlayerRecord.advance g (s.player n)) := by
  have hv : s.visitPage n g = s := visitPage_of_visited (by rw [hp]; rfl)
  rw [playPosition_of_advancing ha hg, takeSample_of_lt hv hlt, State.slotNow, hp]
  rfl

/-- The record of a player whose page read has failed. -/
abbrev PlayerRecord.readFailed (r : PlayerRecord) : PlayerRecord := { r with page := some (r.pageAt, false) }

/-- R170: whether a failed read stops the player. -/
abbrev PlayerRecord.halts (r : PlayerRecord) : Prop := r.haltOnError = true ∧ (r.state = .playing ∨ r.state = .paused)

section
variable {page : PageNumber} (ha : (s.player n).advancing = true) (hg : (s.player n).segment = some g)
  (hlt : (s.player n).played + 1 < g.playLength)
  (hne : (s.player n).page.map Prod.fst ≠ some (s.player n).pageAt)
  (hfails : s.store.passes g.clip (s.player n).pageAt = false)
  (hpage : (s.store.clips[g.clip]).pages[(s.player n).pageAt]? = some page)
include ha hg hlt hne hfails hpage

/-- R153, R154: a sample whose page read fails, at a player that goes on. -/
theorem playPosition_of_enduring (hh : ¬ (s.player n).halts) :
    s.playPosition n i =
      ((s.readFails n g.clip (s.player n).pageAt page).placeSlot n i { sample := 0, gain := g.gain }).setPlayer n
        (PlayerRecord.advance g (s.player n).readFailed) := by
  have hverdict : s.visitPage n g =
      (s.readFails n g.clip (s.player n).pageAt page).setPlayer n (s.player n).readFailed := by
    rw [visitPage_of_entered hne, enterPage_of_fails hfails hpage, State.faultVerdict]
    exact if_neg (by rw [player_setPlayer]; exact hh)
  rw [playPosition_of_advancing ha hg, takeSample_of_lt hverdict (by rw [player_setPlayer]; exact hlt), State.slotNow,
    player_setPlayer]
  simp only [State.setPlayer, State.placeSlot, Vec.put_put]
  rfl

/-- R153, R154, R170: a sample whose page read fails, at a player that halts on an error. -/
theorem playPosition_of_halting (hh : (s.player n).halts) :
    s.playPosition n i =
      (((s.readFails n g.clip (s.player n).pageAt page).fadeOut n).placeSlot n i { sample := 0, gain := g.gain }).setPlayer n
        (PlayerRecord.advance g { (s.player n).readFailed with state := .aborting, abortReason := some .fault }) := by
  have hverdict : s.visitPage n g =
      ((s.readFails n g.clip (s.player n).pageAt page).fadeOut n).setPlayer n
        { (s.player n).readFailed with state := .aborting, abortReason := some .fault } := by
    rw [visitPage_of_entered hne, enterPage_of_fails hfails hpage, State.faultVerdict,
      if_pos (by rw [player_setPlayer]; exact hh), State.abortPlayer, player_setPlayer]
    simp only [State.setPlayer, State.fadeOut, State.onPlayerRamp, Vec.put_put]
  rw [playPosition_of_advancing ha hg, takeSample_of_lt hverdict (by rw [player_setPlayer]; exact hlt), State.slotNow,
    player_setPlayer]
  simp only [State.setPlayer, State.placeSlot, Vec.put_put]
  rfl

end

/-- R165: a player that is not advancing gives no sample. -/
theorem playPosition_of_idle (h : (s.player n).advancing = false) : s.playPosition n i = s.placeSlot n i PlayerSlot.none := by
  rw [State.playPosition, h]
  rfl

/-- R166: a sample that ends its segment is that of SEGMENT_END. -/
theorem exec_segmentEnd (ha : (s.player n).advancing = true) (hg : (s.player n).segment = some g)
    (hle : g.playLength ≤ (s.player n).played + 1) (hs : s.outOfReset) :
    exec (.segmentEnd n i) s = .next (s.playPosition n i) := by
  have hends : (s.player n).atSegmentEnd = true := by
    rw [PlayerRecord.atSegmentEnd, ha, hg]
    exact decide_eq_true hle
  refine congrArg Host.Outcome.next ((unlessInReset_of_outOfReset hs).trans ?_)
  exact if_pos hends

end

theorem playersRun_nil (s u : State) : s.playersRun [] u = u := rfl

theorem playersRun_pair (s : State) (a b : Player) (u : State) :
    s.playersRun [a, b] u = (u.playerWork a (s.playerArrivals a)).playerWork b (s.playerArrivals b) := by
  simp only [State.playersRun, List.foldl_cons, List.foldl_nil]

theorem players_afterAutomixer : [Work.player 0, .player 1, .levelControl, .session].filterMap workPlayer = [0, 1] := rfl

theorem players_lastWorks : [Work.levelControl, .session].filterMap workPlayer = [] := rfl

theorem players_playersFirst : (Work.player 0 :: .player 1 :: takesAndKeys).filterMap workPlayer = [0, 1] := by
  rw [List.filterMap_cons_some (f := workPlayer) (b := 0) rfl, List.filterMap_cons_some (f := workPlayer) (b := 1) rfl,
    players_takesAndKeys]

theorem playersFirst_early : ∀ w ∈ Work.player 0 :: .player 1 :: takesAndKeys, Work.early w :=
  List.forall_mem_cons.2 ⟨.inr (.inr ⟨0, rfl⟩), List.forall_mem_cons.2 ⟨.inr (.inr ⟨1, rfl⟩), takesAndKeys_early⟩⟩

/-- Settles O26: the boundary by the simulation of the players' work alone, a position by the four ways its page goes. -/
theorem playersFillTheirFrames : Obligations.PlayersFillTheirFrames := by
  unfold Obligations.PlayersFillTheirFrames
  intro work
  refine ⟨fun order trunks s hs => ?_, grantsToPlayers_spec, fun n i s => ?_⟩
  · intro closed arrived begun agree named one
    have hone : one = firstPlayer order := rfl
    have hwork (n : Player) (u : State) : work arrived n u = u.playerWork n (s.playerArrivals n) := rfl
    have hbegun : begun = s.playersBegun := rfl
    have agree_of {t u : State} (h : PlayersAgree s.control.queue.length t u) : agree t u :=
      ⟨h.players, h.store, h.inputs, h.ramps, h.reports⟩
    simp only [hwork, hbegun, hone]
    refine ⟨fun hcalm => ?_, fun hq => ?_, fun hq => ?_⟩
    · have h := boundary_of_calm (order := order) trunks hcalm
      rw [playersRun_pair] at h
      exact ⟨_, exec_boundary hs order trunks, agree_of h⟩
    · have h := boundary_of_quiet trunks hq schedule_default takesAndKeys_early
      rw [players_takesAndKeys, players_afterAutomixer, playersRun_pair, playersRun_nil] at h
      exact ⟨_, exec_boundary hs [] trunks, agree_of h⟩
    · have h := boundary_of_quiet trunks hq schedule_players_first playersFirst_early
      rw [players_playersFirst, players_lastWorks, playersRun_pair, playersRun_nil] at h
      exact ⟨_, exec_boundary hs _ trunks, agree_of h⟩
  · intro r pos slotted
    refine ⟨playPosition_of_idle, fun g ha hg => ?_⟩
    intro size wraps moved
    refine ⟨fun hle hs => exec_segmentEnd ha hg hle hs, fun hlt => ⟨fun hp => ?_, fun hp => ?_, fun page hne hfails hpage => ?_⟩⟩
    · rw [playPosition_of_passed ha hg hlt hp, advance_of_page rfl]
      rfl
    · rw [playPosition_of_failed ha hg hlt hp, advance_of_page hp]
      rfl
    · intro halts k marked read
      have hread : s.readFails n g.clip pos page = read := rfl
      by_cases hh : halts
      · rw [if_pos hh, if_pos hh, playPosition_of_halting ha hg hlt hne hfails hpage hh, advance_of_page rfl, ← hread,
          readFails_eq]
        rfl
      · rw [if_neg hh, if_neg hh, playPosition_of_enduring ha hg hlt hne hfails hpage hh, advance_of_page rfl, ← hread,
          readFails_eq]
        rfl

end Sys2Proof.Machine
end

section
/-! SUPPORT. What each request may touch: the control link, where it is answered, and the parts that its effect touches. -/

namespace Sys2Proof.Machine

/-- The effect of a verdict touches no part but those of `A`. -/
def Verdict.Touches (A : List Part) (v : Verdict) : Prop := ∀ u : State, Moves A u (v.effect u)

theorem Verdict.answer_touches (A : List Part) (st : Status) (l : List Byte) : (Verdict.answer st l).Touches A := .refl A

/-- The parts that the effect of a request may touch. -/
def effectParts : Instr → List Part
  | .reset .. => [.resets]
  | .start .. => [.masterRamp, .mixer, .mixerReports]
  | .stop .. => [.masterRamp, .mixer, .mixerReports, .players, .store, .playerRamps]
  | .setRoster .. => rosterParts
  | .setLinkParams .. => [.linkParams]
  | .getLinks .. => [.links]
  | .getLevels .. => [.detectors]
  | .getOutputLevels .. => [.outputMeters]
  | .setAutomix .. => [.automixer]
  | .setGate .. => gateParts
  | .setMute .. => .trunkMuteRamps :: muteParts
  | .clearReasons .. | .setChairMute .. | .setKeyMode .. => muteParts
  | .setPrivacy .. => [.mutes, .privacyRamps]
  | .setKeyGuard .. | .setMuteRamp .. => [.mutes]
  | .setAlc .. | .holdAlc .. => [.alc]
  | .setZone .. | .setFader .. | .setVolume .. | .setSendGain .. | .setRecord .. => [.feeds]
  | .setDuck .. => [.ducks, .duckRamps]
  | .clipBegin .. | .clipData .. | .clipEnd .. | .clipDelete .. => [.store]
  | .cue .. => [.store, .players]
  | .go .. | .pause .. | .resume .. => [.players, .playerRamps]
  | .abort .. => visitParts
  | _ => []

section
variable (v : State)

/-! ### Sessions (Chapter 10) and reports (R198) -/

theorem judgeStart_touches : (judgeStart v).Touches [.masterRamp, .mixer, .mixerReports] := by
  unfold judgeStart
  split
  · exact fun u => ((onMasterRamp_moves (Ramp.keeping_setTarget le_rfl) u).wide (by decide)).trans
      ((setMixer_moves _ _ _).wide (by decide))
  all_goals exact .refl _

theorem judgeStop_touches :
    (judgeStop v).Touches [.masterRamp, .mixer, .mixerReports, .players, .store, .playerRamps] := by
  have stops (u : State) : Moves [.masterRamp, .mixer, .mixerReports, .players, .store, .playerRamps] u u.stopMixer :=
    (((onMasterRamp_moves (Ramp.keeping_setTarget (Nat.zero_le _)) u).wide (by decide)).trans
      ((setMixer_moves _ _ _).wide (by decide))).trans ((Moves.foldl mixerStop_moves _ _).wide (by decide))
  unfold judgeStop
  split
  · exact .refl _
  · exact stops
  · exact stops
  · exact .refl _

theorem judgeSetRoster_touches (a b c : List Byte) : (judgeSetRoster a b c v).Touches rosterParts := by
  unfold judgeSetRoster
  split
  · exact .refl _
  · split
    · exact takeRoster_moves _
    · exact .refl _

theorem judgeReset_touches : (judgeReset v).Touches [.resets] := fun u => moves_resets u _ (by rfl) (by rfl)

theorem judgeSetReports_touches (a : Byte) : (judgeSetReports a v).Touches [.control, .mixerReports] := by
  unfold judgeSetReports
  split
  · exact fun u => moves_control u _ fun hs => by exact hs .control
  · exact .refl _

/-! ### Links, levels and gates (Chapters 2 to 4) -/

theorem judgeSetLinkParams_touches (a : Byte) (b : BitVec 16) (c d : Byte) :
    (judgeSetLinkParams a b c d v).Touches [.linkParams] :=
  fun u => moves_linkParams u _

theorem clearLinkCounters_moves (listed : List Pod) (u : State) : Moves [.links] u (u.clearLinkCounters listed) :=
  moves_links u _ fun hs => Vec.forall_tab fun p => by
    split
    · exact ⟨(hs .links p).1, by simp, by simp⟩
    · exact hs .links p

theorem judgeGetLinks_touches (a b c : Byte) : (judgeGetLinks a b c v).Touches [.links] := by
  unfold judgeGetLinks
  split
  · simp only
    split
    · exact clearLinkCounters_moves _
    · exact .refl _
  · exact .refl _

theorem judgeGetLevels_touches (a b : Byte) : (judgeGetLevels a b v).Touches [.detectors] := by
  unfold judgeGetLevels
  split
  · exact fun u => moves_detectors u _
  · exact .refl _

theorem judgeGetOutputLevels_touches (a b : Byte) : (judgeGetOutputLevels a b v).Touches [.outputMeters] := by
  unfold judgeGetOutputLevels
  split
  · exact fun u => moves_outputMeters u _
  · exact .refl _

theorem judgeSetAutomix_touches (a b c d : Byte) (e : BitVec 16) (f g h i : Byte) :
    (judgeSetAutomix a b c d e f g h i v).Touches [.automixer] := by
  unfold judgeSetAutomix
  split
  · exact .refl _
  · exact fun u => moves_automixer u _

theorem judgeSetGate_touches (a b c : Byte) : (judgeSetGate a b c v).Touches gateParts := by
  unfold judgeSetGate
  split
  · split
    · exact fun u => ((setPriority_moves _ u _).wide (by decide)).trans (applyGateMode_moves _ _ _)
    · exact .refl _
  · exact .refl _

/-! ### Mutes and levels (Chapters 5, 6) -/

theorem judgeSetMute_touches (a b : Byte) : (judgeSetMute a b v).Touches (.trunkMuteRamps :: muteParts) := by
  unfold judgeSetMute
  split
  · exact .refl _
  · split
    · exact fun u => (setHost_moves _ u _).wide (by decide)
    · exact fun u => (setTrunkHost_moves u _ _).wide (by decide)
    · exact .refl _

theorem judgeClearReasons_touches (a b : Byte) : (judgeClearReasons a b v).Touches muteParts := by
  unfold judgeClearReasons
  split
  · exact .refl _
  · split
    · exact .refl _
    · split
      · exact .refl _
      · exact fun u => clearReasons_moves u _ _

theorem judgeSetPrivacy_touches (a : Byte) : (judgeSetPrivacy a v).Touches [.mutes, .privacyRamps] := by
  unfold judgeSetPrivacy
  split
  · exact .refl _
  · exact fun u => setPrivacy_moves u _

theorem judgeSetChairMute_touches (a : Byte) : (judgeSetChairMute a v).Touches muteParts := by
  unfold judgeSetChairMute
  split
  · exact .refl _
  · exact fun u => setChairMute_moves u _

theorem judgeSetKeyMode_touches (a b : Byte) : (judgeSetKeyMode a b v).Touches muteParts := by
  unfold judgeSetKeyMode
  split
  · exact fun u => setKeyMode_moves u _ _
  · exact .refl _

theorem judgeSetKeyGuard_touches (a : Byte) : (judgeSetKeyGuard a v).Touches [.mutes] := fun u => moves_mutes u _

theorem judgeSetMuteRamp_touches (a : Byte) : (judgeSetMuteRamp a v).Touches [.mutes] := fun u => moves_mutes u _

theorem judgeSetAlc_touches (a b c d e f g h i : Byte) : (judgeSetAlc a b c d e f g h i v).Touches [.alc] := by
  unfold judgeSetAlc
  split
  · exact fun u => takeAlcParams_moves u _
  · exact .refl _

theorem judgeHoldAlc_touches (a b : Byte) : (judgeHoldAlc a b v).Touches [.alc] := by
  unfold judgeHoldAlc
  split
  · exact fun u => holdAlc_moves u _ _
  · exact .refl _

/-! ### The feed router (Chapter 7) -/

theorem judgeSetZone_touches (a b : Byte) : (judgeSetZone a b v).Touches [.feeds] := by
  unfold judgeSetZone
  split
  · exact .refl _
  · split
    · rename_i hz
      exact fun u => onFeeds_moves u fun _ h => Feeds.setZone_bounded hz h
    · exact .refl _

theorem judgeSetDuck_touches (a : Byte) : (judgeSetDuck a v).Touches [.ducks, .duckRamps] :=
  fun u => setDuckDepth_moves u (clampInt_mem (-40) 0 _ (by omega))

theorem gainVerdict_touches (number : Byte) {lo hi : Int} (hle : lo ≤ hi) (asked : Byte) {set : Int → Feeds → Feeds}
    (h : ∀ (g : Int) (f : Feeds), lo ≤ g ∧ g ≤ hi → f.Bounded → (set g f).Bounded) :
    (gainVerdict number lo hi asked set).Touches [.feeds] :=
  fun u => onFeeds_moves u fun _ hf => h _ _ (clampInt_mem lo hi _ hle) hf

theorem judgeSetFader_touches (a b : Byte) : (judgeSetFader a b v).Touches [.feeds] := by
  unfold judgeSetFader
  split
  · exact gainVerdict_touches _ (by omega) _ fun _ _ => Feeds.setPodFader_bounded
  · exact gainVerdict_touches _ (by omega) _ fun _ _ => Feeds.setTrunkFader_bounded
  · exact .refl _

theorem judgeSetVolume_touches (a b : Byte) : (judgeSetVolume a b v).Touches [.feeds] := by
  unfold judgeSetVolume
  split
  · exact gainVerdict_touches _ (by omega) _ fun _ _ => Feeds.setVolume_bounded
  · exact .refl _

theorem judgeSetSendGain_touches (a b : Byte) : (judgeSetSendGain a b v).Touches [.feeds] := by
  unfold judgeSetSendGain
  split
  · exact gainVerdict_touches _ (by omega) _ fun _ _ => Feeds.setSendGain_bounded
  · exact .refl _

theorem judgeSetRecord_touches (a b c : Byte) : (judgeSetRecord a b c v).Touches [.feeds] := by
  unfold judgeSetRecord
  simp only
  split
  · rename_i r _ hr
    have hg : -120 ≤ r.gain ∧ r.gain ≤ 0 := by
      rw [recordSettingOf_gain hr]
      exact clampInt_mem (-120) 0 _ (by omega)
    exact fun u => onFeeds_moves u fun _ h => Feeds.setRecord_bounded hg h
  · exact .refl _

/-! ### Clips and players (Chapters 8, 9) -/

theorem judgeClipBegin_touches (a : Byte) (b : BitVec 24) : (judgeClipBegin a b v).Touches [.store] := by
  unfold judgeClipBegin
  split
  · exact .refl _
  · split
    · exact .refl _
    · split
      · exact .refl _
      · split
        · exact .refl _
        · split
          · exact .refl _
          · exact fun u => onStore_moves u _

theorem judgeClipData_touches (a : Byte) (b : BitVec 24) (l : List Sample) : (judgeClipData a b l v).Touches [.store] := by
  unfold judgeClipData judgeChunk
  split
  · exact .refl _
  · simp only
    split
    · exact .refl _
    · split
      · exact .refl _
      · split
        · exact .refl _
        · split
          · exact .refl _
          · exact fun u => onStore_moves u _

theorem judgeClipEnd_touches (a : Byte) : (judgeClipEnd a v).Touches [.store] := by
  unfold judgeClipEnd
  split
  · exact .refl _
  · simp only
    split
    · exact .refl _
    · split
      · exact fun u => onStore_moves u _
      · exact .refl _

theorem judgeClipDelete_touches (a : Byte) : (judgeClipDelete a v).Touches [.store] := by
  unfold judgeClipDelete
  split
  · exact .refl _
  · simp only
    split
    · exact .refl _
    · split
      · exact .refl _
      · exact fun u => onStore_moves u _

theorem judgeCue_touches (a b c : Byte) (l : List SegmentFields) : (judgeCue a b c l v).Touches [.store, .players] := by
  have taken (n : Player) (r : Routing) : (cueVerdict n r c l).Touches [.store, .players] := fun u =>
    ((onStore_moves u _).wide (by decide)).trans ((setPlayer_moves _ n fun _ g hg => by
      obtain ⟨x, _, hx⟩ := List.mem_filterMap.1 hg
      exact cueTaken_gain hx).wide (by decide))
  unfold judgeCue
  split
  · exact .refl _
  · split
    · exact .refl _
    · split
      · exact .refl _
      · split
        · split
          · exact .refl _
          · exact taken _ _
        · exact .refl _

theorem judgeGo_touches (a : Byte) : (judgeGo a v).Touches [.players, .playerRamps] := by
  unfold judgeGo
  split
  · exact .refl _
  · split
    · exact .refl _
    · split
      · exact fun u => (((setPlayer_sameCue_moves u _ (by rfl)).wide (by decide)).trans
          ((onPlayerRamp_moves Ramp.keeping_jump_zero _ _).wide (by decide))).trans ((fadeIn_moves _ _).wide (by decide))
      · exact .refl _

theorem judgePause_touches (a : Byte) : (judgePause a v).Touches [.players, .playerRamps] := by
  unfold judgePause
  split
  · exact .refl _
  · split
    · exact fun u => ((setPlayer_sameCue_moves u _ (by rfl)).wide (by decide)).trans ((fadeOut_moves _ _).wide (by decide))
    · exact .refl _

theorem judgeResume_touches (a : Byte) : (judgeResume a v).Touches [.players, .playerRamps] := by
  unfold judgeResume
  split
  · exact .refl _
  · split
    · exact fun u => ((setPlayer_sameCue_moves u _ (by rfl)).wide (by decide)).trans ((fadeIn_moves _ _).wide (by decide))
    · exact .refl _

theorem judgeAbort_touches (a : Byte) : (judgeAbort a v).Touches visitParts := by
  unfold judgeAbort
  split
  · exact .refl _
  · split
    · exact .refl _
    · exact fun u => (playerIdle_moves u _ _).wide (by decide)
    · exact fun u => (playerIdle_moves u _ _).wide (by decide)
    · exact fun u => (abortPlayer_moves u _ _).wide (by decide)
    · exact .refl _

end

/-! ### Every request (R193) -/

/-- The parts that a request may touch. -/
def requestParts (i : Instr) : List Part := .control :: .mixerReports :: effectParts i

theorem requestParts_of_control {A B : List Part} (h : ∀ q ∈ A, q ∈ [Part.control, .mixerReports]) :
    ∀ q ∈ A, q ∈ Part.control :: .mixerReports :: B := fun q hq => by
  rcases List.mem_pair.1 (h q hq) with rfl | rfl <;> simp

theorem takeRequest_moves {A : List Part} (ty tag : Byte) (n : Nat) {judge : State → Verdict} (s : State)
    (h : ∀ u, (judge u).Touches A) : Moves (.control :: .mixerReports :: A) s (takeRequest ty tag n judge s) := by
  have hunted : Moves (.control :: .mixerReports :: A) s s.hunt :=
    (hunt_moves s).wide (requestParts_of_control (by simp))
  rcases takeRequest_cases ty tag n judge s with ⟨_, h₁⟩ | ⟨_, h₁⟩ | ⟨ht, h₁⟩ <;> rw [h₁]
  · exact .refl _ s
  · exact hunted.trans ((controlError_moves _ _ _ _ _).wide (by simp))
  · have answered : Moves (.control :: .mixerReports :: A) s.hunt
        (s.hunt.queueAnswer ty tag (judge s.hunt).status (judge s.hunt).fields) :=
      (queueAnswer_moves (s := s.hunt) _ _ _ _ ht.2).wide (requestParts_of_control (by simp))
    exact (hunted.trans answered).trans ((h _ _).wide fun q hq => by simp [hq])

theorem serve_moves (i : Instr) (s : State) : Moves (requestParts i) s (serve i s) := by
  cases i with
  | reset => exact takeRequest_moves _ _ _ s judgeReset_touches
  | start => exact takeRequest_moves _ _ _ s judgeStart_touches
  | stop => exact takeRequest_moves _ _ _ s judgeStop_touches
  | setRoster => exact takeRequest_moves _ _ _ s fun v => judgeSetRoster_touches v _ _ _
  | setReports =>
    exact (takeRequest_moves _ _ _ s fun v => judgeSetReports_touches v _).wide (by simp [requestParts])
  | setLinkParams => exact takeRequest_moves _ _ _ s fun v => judgeSetLinkParams_touches v _ _ _ _
  | getLinks => exact takeRequest_moves _ _ _ s fun v => judgeGetLinks_touches v _ _ _
  | getLevels => exact takeRequest_moves _ _ _ s fun v => judgeGetLevels_touches v _ _
  | getOutputLevels => exact takeRequest_moves _ _ _ s fun v => judgeGetOutputLevels_touches v _ _
  | setAutomix => exact takeRequest_moves _ _ _ s fun v => judgeSetAutomix_touches v _ _ _ _ _ _ _ _ _
  | setGate => exact takeRequest_moves _ _ _ s fun v => judgeSetGate_touches v _ _ _
  | setMute => exact takeRequest_moves _ _ _ s fun v => judgeSetMute_touches v _ _
  | clearReasons => exact takeRequest_moves _ _ _ s fun v => judgeClearReasons_touches v _ _
  | setPrivacy => exact takeRequest_moves _ _ _ s fun v => judgeSetPrivacy_touches v _
  | setChairMute => exact takeRequest_moves _ _ _ s fun v => judgeSetChairMute_touches v _
  | setKeyMode => exact takeRequest_moves _ _ _ s fun v => judgeSetKeyMode_touches v _ _
  | setKeyGuard => exact takeRequest_moves _ _ _ s fun v => judgeSetKeyGuard_touches v _
  | setMuteRamp => exact takeRequest_moves _ _ _ s fun v => judgeSetMuteRamp_touches v _
  | setAlc => exact takeRequest_moves _ _ _ s fun v => judgeSetAlc_touches v _ _ _ _ _ _ _ _ _
  | holdAlc => exact takeRequest_moves _ _ _ s fun v => judgeHoldAlc_touches v _ _
  | setZone => exact takeRequest_moves _ _ _ s fun v => judgeSetZone_touches v _ _
  | setDuck => exact takeRequest_moves _ _ _ s fun v => judgeSetDuck_touches v _
  | setFader => exact takeRequest_moves _ _ _ s fun v => judgeSetFader_touches v _ _
  | setVolume => exact takeRequest_moves _ _ _ s fun v => judgeSetVolume_touches v _ _
  | setSendGain => exact takeRequest_moves _ _ _ s fun v => judgeSetSendGain_touches v _ _
  | setRecord => exact takeRequest_moves _ _ _ s fun v => judgeSetRecord_touches v _ _ _
  | clipBegin => exact takeRequest_moves _ _ _ s fun v => judgeClipBegin_touches v _ _
  | clipData => exact takeRequest_moves _ _ _ s fun v => judgeClipData_touches v _ _ _
  | clipEnd => exact takeRequest_moves _ _ _ s fun v => judgeClipEnd_touches v _
  | clipDelete => exact takeRequest_moves _ _ _ s fun v => judgeClipDelete_touches v _
  | cue => exact takeRequest_moves _ _ _ s fun v => judgeCue_touches v _ _ _ _
  | go => exact takeRequest_moves _ _ _ s fun v => judgeGo_touches v _
  | pause => exact takeRequest_moves _ _ _ s fun v => judgePause_touches v _
  | resume => exact takeRequest_moves _ _ _ s fun v => judgeResume_touches v _
  | abort => exact takeRequest_moves _ _ _ s fun v => judgeAbort_touches v _
  | getClips =>
    refine takeRequest_moves _ _ _ s fun v => ?_
    unfold judgeGetClips
    split
    · exact .refl _
    · exact .refl _
  | getPlayer =>
    refine takeRequest_moves _ _ _ s fun v => ?_
    unfold judgeGetPlayer
    split
    · exact .refl _
    · exact .refl _
  | getRoster | getStatus | getGates | getMutes | getRequests | getAlc | getFeeds =>
    exact takeRequest_moves _ _ _ s fun v => Verdict.answer_touches _ _ _
  | _ => exact .refl _ s

end Sys2Proof.Machine
end

section
/-! SUPPORT. What the operations on reason sets, gates, keys and FAULT write, each said once: the reason set with its local
mute ramp, the gate closed with it, FAULT gained and lost, KEY by the key mode. -/

namespace Sys2Proof.Machine

/-! ### Ramps and reasons -/

theorem Ramp.muteChange_self (n : Nat) (r : Reasons) (x : Ramp) : x.muteChange n r r = x := if_pos rfl

theorem Ramp.muteChange_of_same {n : Nat} {r r' : Reasons} (h : r.muted = r'.muted) (x : Ramp) :
    x.muteChange n r r' = x := if_pos h

theorem Reasons.muted_of_fault {r : Reasons} (h : r.fault = true) : r.muted = true := by simp [Reasons.muted, h]

/-- R86, R87: the reason set of a pod written, with its local mute ramp. -/
def State.withReasons (p : Pod) (r : Reasons) (s : State) : State :=
  { s with
    mutes := { s.mutes with reasons := Vec.put s.mutes.reasons p r }
    ramps := { s.ramps with
      localMute := Vec.put s.ramps.localMute p
        ((s.ramps.localMute[p]).muteChange s.mutes.rampLength s.mutes.reasons[p] r) } }

theorem withReasons_self (p : Pod) (s : State) : s.withReasons p s.mutes.reasons[p] = s := by
  simp only [State.withReasons, Ramp.muteChange_self, Vec.put_same]

@[simp] theorem withReasons_reasons_self (p : Pod) (r : Reasons) (s : State) :
    (s.withReasons p r).mutes.reasons[p] = r := Vec.getElem_put_self _ _ _

/-- R73, R87: the gate of a channel that becomes muted is closed once its reasons and its local mute ramp are set. -/
theorem setReasons_eq (p : Pod) (r : Reasons) (s : State) :
    s.setReasons p r = if (s.mutes.reasons[p]).muted = false ∧ r.muted = true then (s.withReasons p r).closeForMute p
      else s.withReasons p r := by
  cases hb : (s.mutes.reasons[p]).muted <;> cases hr : r.muted
  · rw [setReasons_of_same (hb.trans hr.symm), if_neg (by simp), State.withReasons, Ramp.muteChange_of_same (hb.trans hr.symm),
      Vec.put_same]
  · rw [setReasons_of_muted hb hr, if_pos ⟨rfl, rfl⟩, State.withReasons, Ramp.muteChange, if_neg (by rw [hb, hr]; decide), hr]
    rfl
  · rw [setReasons_of_cleared hb hr, if_neg (by simp), State.withReasons, Ramp.muteChange, if_neg (by rw [hb, hr]; decide), hr]
    rfl
  · rw [setReasons_of_same (hb.trans hr.symm), if_neg (by simp), State.withReasons, Ramp.muteChange_of_same (hb.trans hr.symm),
      Vec.put_same]

/-- Whether a gate is one that a mute leaves as it is (R73). -/
abbrev GateState.Shut (g : GateState) : Prop := g = .closed ∨ g = .bypass

theorem closeForMute_of_shut {p : Pod} {s : State} (h : (s.gate p).state.Shut) : s.closeForMute p = s := by
  unfold State.closeForMute
  rcases h with h | h <;> rw [show s.automixer.gates[p].state = _ from h]

/-- R73: an active gate is closed, leaves the wait queue, and is given the target of a closed gate without FAULT. -/
theorem closeForMute_of_active {p : Pod} {s : State} (h : ¬ (s.gate p).state.Shut) :
    s.closeForMute p = (s.releaseGate p .muted).retargetGate p := by
  unfold State.closeForMute
  rw [not_or] at h
  cases hg : s.automixer.gates[p].state with
  | closed => exact absurd hg h.1
  | bypass => exact absurd hg h.2
  | _ => rfl

/-- R87: where the channel does not become muted, or its gate is shut, no gate moves. -/
theorem setReasons_of_shut {p : Pod} {r : Reasons} {s : State}
    (h : (s.mutes.reasons[p]).muted = false → r.muted = true → (s.gate p).state.Shut) :
    s.setReasons p r = s.withReasons p r := by
  rw [setReasons_eq]
  split
  · rename_i hm
    exact closeForMute_of_shut (h hm.1 hm.2)
  · rfl

theorem setReasons_self (p : Pod) (s : State) : s.setReasons p s.mutes.reasons[p] = s := by
  rw [setReasons_of_shut (fun h h' => by rw [h] at h'; cases h'), withReasons_self]

/-- R92, R94, R95: KEY as the key mode makes it of a level taken without an edge. -/
theorem keyFollows_eq (p : Pod) (b : Bool) (s : State) :
    s.keyFollows p b = s.setReasons p
      { s.mutes.reasons[p] with key := (s.mutes.keyMode[p]).keyAfter (s.mutes.reasons[p]).key b } := by
  unfold State.keyFollows
  cases s.mutes.keyMode[p] with
  | toggle => exact (setReasons_self p s).symm
  | pushToTalk | pushToMute => rfl

/-- With FAULT the channel stays muted whatever KEY is. -/
theorem keyFollows_of_fault {p : Pod} {s : State} (b : Bool) (h : (s.mutes.reasons[p]).fault = true) :
    s.keyFollows p b = { s with
      mutes := { s.mutes with
        reasons := Vec.put s.mutes.reasons p
          { s.mutes.reasons[p] with key := (s.mutes.keyMode[p]).keyAfter (s.mutes.reasons[p]).key b } } } := by
  rw [keyFollows_eq, setReasons_of_same ((Reasons.muted_of_fault h).trans (Reasons.muted_of_fault (by exact h)).symm)]

/-- R95: a channel with FAULT whose keys revert. -/
theorem revertKeys_of_fault {p : Pod} {s : State} (h : (s.mutes.reasons[p]).fault = true) :
    s.revertKeys p = { s with
      mutes := { s.mutes with
      talkKey := Vec.put s.mutes.talkKey p { s.mutes.talkKey[p] with pressed := false }
      allKey := Vec.put s.mutes.allKey p { s.mutes.allKey[p] with pressed := false }
      reasons := Vec.put s.mutes.reasons p
        { s.mutes.reasons[p] with key := (s.mutes.keyMode[p]).keyAfter (s.mutes.reasons[p]).key false } } } := by
  unfold State.revertKeys
  rw [keyFollows_of_fault false (by exact h)]

/-! ### Gates -/

theorem setGateState_gate_self (p : Pod) (st : GateState) (n : Nat) (s : State) :
    (s.setGateState p st n).gate p = { s.gate p with state := st, count := n } :=
  Vec.getElem_put_self _ _ _

theorem setGateState_gate_other {p q : Pod} (h : q ≠ p) (st : GateState) (n : Nat) (s : State) :
    (s.setGateState p st n).gate q = s.gate q :=
  Vec.getElem_put_ne _ _ _ _ q.2 fun e => h (Fin.ext e).symm

/-- R73, R84: the automixer after a channel has been released. -/
theorem releaseGate_automixer (p : Pod) (c : GateCause) (s : State) :
    (s.releaseGate p c).automixer = ((s.setGateState p .closed 0).dequeueGate p).automixer := by
  simp [State.releaseGate]

/-- What is true of a channel's gate once a mute has closed it (R73). -/
structure GateShut (p : Pod) (s t : State) : Prop where
  shut : (t.gate p).state.Shut
  unqueued : p ∉ t.automixer.waitQueue
  others : ∀ q : Pod, q ≠ p → t.gate q = s.gate q

theorem GateShut.of_automixer {p : Pod} {s t u : State} (h : GateShut p s t) (hu : u.automixer = t.automixer) :
    GateShut p s u := by
  refine ⟨?_, by rw [hu]; exact h.unqueued, fun q hq => ?_⟩
  · rw [State.gate, hu]
    exact h.shut
  · rw [State.gate, hu]
    exact h.others q hq

theorem GateShut.of_start {p : Pod} {s s' t : State} (h : GateShut p s t) (hs : s.automixer = s'.automixer) :
    GateShut p s' t :=
  ⟨h.shut, h.unqueued, fun q hq => (h.others q hq).trans (by rw [State.gate, hs, State.gate])⟩

/-- In a sound state a shut gate is not in the wait queue (R72). -/
theorem gateShut_of_shut {p : Pod} {s : State} (hs : GatesSound s) (h : (s.gate p).state.Shut) : GateShut p s s := by
  obtain ⟨-, -, hwait, -⟩ := hs
  refine ⟨h, fun hp => ?_, fun _ _ => rfl⟩
  have := (hwait p).1 hp
  rcases h with h | h <;> rw [this] at h <;> cases h

theorem gateShut_releaseGate (p : Pod) (c : GateCause) (s : State) : GateShut p s (s.releaseGate p c) := by
  refine GateShut.of_automixer (t := (s.setGateState p .closed 0).dequeueGate p) ⟨.inl ?_, ?_, fun q hq => ?_⟩
    (releaseGate_automixer p c s)
  · exact congrArg Gate.state (setGateState_gate_self p .closed 0 s)
  · simp [State.dequeueGate]
  · exact setGateState_gate_other hq .closed 0 s

/-! ### FAULT gained and lost (R74, R89) -/

/-- R42, R74: a channel without FAULT has its ramps retargeted; it cannot become muted. -/
theorem loseFault_eq (p : Pod) (s : State) :
    s.loseFault p =
      let t := s.withReasons p { s.mutes.reasons[p] with fault := false }
      { t with ramps := { t.ramps with
          gate := Vec.put s.ramps.gate p ((s.ramps.gate[p]).calledFor s.automixer.params (s.gate p).state) } } := by
  unfold State.loseFault
  rw [setReasons_of_shut, State.retargetGate_eq, withReasons_reasons_self, if_neg (by simp)]
  · rfl
  · intro h h'
    simp [Reasons.muted] at h h'
    simp [h] at h'

/-- A channel that carries FAULT is given no gate ramp target, so a mute writes its ramps the same with an active gate and
with a shut one. -/
theorem setReasons_fault_ramps {p : Pod} {r : Reasons} {s : State} (h : r.fault = true) :
    (s.setReasons p r).ramps = (s.withReasons p r).ramps := by
  rw [setReasons_eq]
  split
  · by_cases hg : ((s.withReasons p r).gate p).state.Shut
    · rw [closeForMute_of_shut hg]
    · rw [closeForMute_of_active hg, State.retargetGate_eq, if_pos (by rw [State.releaseGate_mutes, withReasons_reasons_self]; exact h),
        State.releaseGate_ramps]
  · rfl

@[simp] theorem setReasons_mutes (p : Pod) (r : Reasons) (s : State) :
    (s.setReasons p r).mutes = { s.mutes with reasons := Vec.put s.mutes.reasons p r } := by
  rw [setReasons_eq]
  split
  · rw [State.closeForMute_mutes]
    rfl
  · rfl

/-- R73: the gate of a muted channel is shut, in a sound state. -/
theorem gateShut_setReasons {p : Pod} {r : Reasons} {s : State} (hs : GatesSound s) (hr : r.muted = true) :
    GateShut p s (s.setReasons p r) := by
  rw [setReasons_eq]
  split
  · by_cases hg : (s.gate p).state.Shut
    · rw [closeForMute_of_shut (s := s.withReasons p r) hg]
      exact (gateShut_of_shut hs hg).of_automixer rfl
    · rw [closeForMute_of_active (s := s.withReasons p r) hg]
      exact ((gateShut_releaseGate p .muted (s.withReasons p r)).of_automixer (State.retargetGate_automixer p _)).of_start rfl
  · rename_i h
    have hm : (s.mutes.reasons[p]).muted = true := by
      by_contra hf
      exact h ⟨by simpa using hf, hr⟩
    exact (gateShut_of_shut hs (hs.1 p hm)).of_automixer rfl

theorem gainFault_mutes (p : Pod) (s : State) :
    (s.gainFault p).mutes =
      { s.mutes with reasons := Vec.put s.mutes.reasons p { s.mutes.reasons[p] with fault := true } } := by
  rw [State.gainFault, State.onGateRamp_mutes, setReasons_mutes]

theorem gainFault_ramps (p : Pod) (s : State) :
    (s.gainFault p).ramps = { s.ramps with
      gate := Vec.put s.ramps.gate p ((s.ramps.gate[p]).jump 0)
      localMute := Vec.put s.ramps.localMute p
        ((s.ramps.localMute[p]).muteChange s.mutes.rampLength s.mutes.reasons[p] { s.mutes.reasons[p] with fault := true }) } := by
  simp only [State.gainFault, State.onGateRamp, setReasons_fault_ramps (r := { s.mutes.reasons[p] with fault := true }) rfl]
  rfl

theorem gateShut_gainFault (p : Pod) {s : State} (hs : GatesSound s) : GateShut p s (s.gainFault p) :=
  (gateShut_setReasons hs (Reasons.muted_of_fault rfl)).of_automixer rfl

end Sys2Proof.Machine
end

section
/-! The layouts of the frames of a pod link (R28, R202): O15. -/

namespace Sys2Proof.Machine

/-! ### Samples and sums of bytes -/

@[simp] theorem length_bytesOfSamples (l : List Sample) : (bytesOfSamples l).length = 2 * l.length := by
  induction l with
  | nil => rfl
  | cons x rest ih =>
    rw [bytesOfSamples, List.flatMap_cons, List.length_append, ← bytesOfSamples, ih, List.length_cons]
    simp only [bytes16, List.length_cons, List.length_nil]
    omega

theorem word16_bytes16 (x : Sample) : word16 (x.extractLsb' 8 8) (x.extractLsb' 0 8) = x :=
  (BitVec.extractLsb'_append_extractLsb'_eq_extractLsb' rfl).trans BitVec.extractLsb'_eq_self

theorem samplesOfBytes_bytesOfSamples (l : List Sample) : samplesOfBytes (bytesOfSamples l) = some l := by
  induction l with
  | nil => rfl
  | cons x rest ih =>
    change (samplesOfBytes (bytesOfSamples rest)).map _ = _
    rw [ih, Option.map_some, word16_bytes16]

/-- An even run of bytes gives its samples, most significant byte first. -/
theorem samplesOfBytes_of_even (n : Nat) (l : List Byte) (h : l.length = 2 * n) :
    ∃ m : List Sample, samplesOfBytes l = some m ∧ ∀ i < n, m.getD i 0 = l.getD (2 * i) 0 ++ l.getD (2 * i + 1) 0 := by
  induction n generalizing l with
  | zero =>
    rw [List.length_eq_zero_iff.1 h]
    exact ⟨[], rfl, fun i hi => absurd hi (Nat.not_lt_zero i)⟩
  | succ n ih =>
    obtain ⟨hi, lo, rest, rfl⟩ : ∃ hi lo rest, l = hi :: lo :: rest := by
      match l, h with
      | [_], h => simp at h; omega
      | hi :: lo :: rest, _ => exact ⟨hi, lo, rest, rfl⟩
    obtain ⟨m, hm, hget⟩ := ih rest (by simp only [List.length_cons] at h; omega)
    refine ⟨word16 hi lo :: m, by rw [samplesOfBytes, hm, Option.map_some], fun i hlt => ?_⟩
    cases i with
    | zero => rfl
    | succ i => exact hget i (by omega)

/-- R202: the check makes the sum 0. -/
theorem sumBytes_check (l : List Byte) : sumBytes (l ++ [0 - sumBytes l]) = 0 := by
  rw [sumBytes, List.foldl_append, ← sumBytes]
  simp

/-! ### Mic frames -/

/-- R28, R202: what a candidate of the layout gives. -/
theorem decodeMicFrame_of_layout {s0 s1 head : Byte} {body : List Byte} (hlen : body.length = 33) :
    ∃ m : List Sample, (∀ i < 16, m.getD i 0 = body.getD (2 * i) 0 ++ body.getD (2 * i + 1) 0) ∧
      decodeMicFrame (s0 :: s1 :: head :: body) =
        if s0 = 0x3C ∧ s1 = 0xA9 ∧ sumBytes (head :: body) = 0 then
          some { sequence := head.extractLsb' 4 4, talk := head.getLsbD 0, all := head.getLsbD 1,
                 samples := Vec.tab fun i => m.getD i.1 0 }
        else none := by
  obtain ⟨m, hm, hget⟩ := samplesOfBytes_of_even 16 (body.take 32) (by simp [hlen])
  refine ⟨m, fun i hi => ?_, ?_⟩
  · rw [hget i hi]
    simp only [List.getD_eq_getElem?_getD]
    rw [List.getElem?_take_of_lt (by omega), List.getElem?_take_of_lt (by omega)]
  · simp only [decodeMicFrame, List.length_cons, hlen, hm, Option.map_some, true_and]

/-- R202: 36 bytes are two, the byte of the sequence and the keys, and 33 more. -/
theorem exists_layout {l : List Byte} (h : l.length = 36) :
    ∃ (s0 s1 head : Byte) (body : List Byte), l = s0 :: s1 :: head :: body ∧ body.length = 33 := by
  match l, h with
  | s0 :: s1 :: head :: body, h => exact ⟨s0, s1, head, body, rfl, by simpa using h⟩

theorem length_of_decodeMicFrame {l : List Byte} {f : MicFrame} (h : decodeMicFrame l = some f) : l.length = 36 := by
  match l, h with
  | s0 :: s1 :: head :: body, h =>
    simp only [decodeMicFrame] at h
    split at h
    · rename_i hl
      simpa using hl.1
    · cases h

theorem samples_eq (v : Frame) : (Vec.tab fun i => v.toList.getD i.1 0) = v := by
  ext i hi
  simp

/-- R28, R202: what the byte of the sequence and the keys reads back as. -/
theorem micFrame_head (n : BitVec 4) (all talk : Bool) :
    let head : Byte := n ++ (0 : BitVec 2) ++ BitVec.ofBool all ++ BitVec.ofBool talk
    head.extractLsb' 4 4 = n ∧ head.getLsbD 0 = talk ∧ head.getLsbD 1 = all := by
  revert n all talk
  decide

theorem decode_encodeMicFrame (f : MicFrame) : decodeMicFrame (encodeMicFrame f) = some f := by
  obtain ⟨hseq, htalk, hall⟩ := micFrame_head f.sequence f.all f.talk
  have hsum := sumBytes_check ((f.sequence ++ (0 : BitVec 2) ++ BitVec.ofBool f.all ++ BitVec.ofBool f.talk : Byte) ::
    bytesOfSamples f.samples.toList)
  simp only [encodeMicFrame, decodeMicFrame, List.cons_append]
  rw [if_pos ⟨by simp, trivial, trivial, hsum⟩, List.take_left' (by simp), samplesOfBytes_bytesOfSamples, Option.map_some, samples_eq,
    hseq, htalk, hall]

/-! ### Feed frames -/

theorem feedFrame_head (n : BitVec 4) (led : Led) :
    (n ++ (led.code).extractLsb' 0 4 : Byte).toNat = 16 * n.toNat + led.code.toNat := by
  revert n
  cases led <;> decide

/-- R201: a sample read back from the bytes of a run. -/
theorem bytesOfSamples_getD (l : List Sample) {i : Nat} (hi : i < l.length) :
    (bytesOfSamples l).getD (2 * i) 0 ++ (bytesOfSamples l).getD (2 * i + 1) 0 = l.getD i 0 := by
  obtain ⟨m, hm, hget⟩ := samplesOfBytes_of_even l.length (bytesOfSamples l) (length_bytesOfSamples l)
  rw [samplesOfBytes_bytesOfSamples, Option.some_inj] at hm
  rw [← hget i hi, hm]

/-- R202: the layout of a feed frame. -/
theorem feedFrame_layout (f : FeedFrame) :
    f.bytes.length = 36 ∧ f.bytes.take 2 = [0x3C, 0x5A] ∧
    (f.bytes.getD 2 0).toNat = 16 * f.sequence.toNat + f.led.code.toNat ∧ sumBytes (f.bytes.drop 2) = 0 ∧
    ∀ i : Fin 16, f.bytes.getD (3 + 2 * i.1) 0 ++ f.bytes.getD (4 + 2 * i.1) 0 = f.samples[i] := by
  refine ⟨by simp [FeedFrame.bytes], rfl, feedFrame_head f.sequence f.led, sumBytes_check _, fun i => ?_⟩
  have hget (k : Nat) (hk : k < 32) : f.bytes.getD (3 + k) 0 = (bytesOfSamples f.samples.toList).getD k 0 := by
    simp only [FeedFrame.bytes, List.cons_append, List.getD_eq_getElem?_getD]
    rw [show 3 + k = k + 1 + 1 + 1 by omega, List.getElem?_cons_succ, List.getElem?_cons_succ, List.getElem?_cons_succ,
      List.getElem?_append_left (by simp [hk])]
  have hread := bytesOfSamples_getD f.samples.toList (i := i.1) (by simp)
  rw [hget _ (by omega), show 4 + 2 * i.1 = 3 + (2 * i.1 + 1) by omega, hget _ (by omega), hread]
  simp

/-- Settles O15: a candidate of the layout gives the record that its bytes carry. -/
theorem linkFrameLayouts : Obligations.LinkFrameLayouts := by
  refine ⟨decode_encodeMicFrame, fun candidate f h => ?_, fun candidate hlen hsync hsum => ?_, fun p f s h => ?_⟩
  · have hlen := length_of_decodeMicFrame h
    obtain ⟨s0, s1, head, body, rfl, hbody⟩ := exists_layout hlen
    obtain ⟨m, hm, hdecode⟩ := decodeMicFrame_of_layout (s0 := s0) (s1 := s1) (head := head) hbody
    rw [hdecode] at h
    split at h
    · rename_i hl
      obtain ⟨rfl, rfl, hsum⟩ := hl
      obtain rfl := Option.some_inj.1 h
      refine ⟨hlen, rfl, hsum, rfl, rfl, rfl, fun i => ?_⟩
      rw [Fin.getElem_fin, Vec.getElem_tab, hm i.1 i.2, show 3 + 2 * i.1 = 2 * i.1 + 1 + 1 + 1 by omega,
        show 4 + 2 * i.1 = 2 * i.1 + 1 + 1 + 1 + 1 by omega]
      rfl
    · cases h
  · obtain ⟨s0, s1, head, body, rfl, hbody⟩ := exists_layout hlen
    obtain ⟨m, -, hdecode⟩ := decodeMicFrame_of_layout (s0 := s0) (s1 := s1) (head := head) hbody
    obtain ⟨rfl, rfl⟩ : s0 = 0x3C ∧ s1 = 0xA9 := by simpa using hsync
    rw [hdecode, if_pos ⟨rfl, rfl, hsum⟩]
    rfl
  · intro b
    rw [show b = f.bytes from feedBytes_of_some h]
    exact feedFrame_layout f

end Sys2Proof.Machine
end

section
/-! What a frame candidate does to a pod link (R27 to R38), and the link parameters and status (R46, R47): O27, O31. -/

namespace Sys2Proof.Machine

/-! ### The moves of a link -/

theorem moveLink_nil (p : Pod) (l : Link) (s : State) : s.moveLink p l [] = { s with links := Vec.put s.links p l } := rfl

theorem moveLink_one (p : Pod) (l : Link) (c : LinkChange) (s : State) :
    s.moveLink p l [c] = State.handOn p { s with links := Vec.put s.links p l } c := rfl

theorem moveLink_two (p : Pod) (l : Link) (c d : LinkChange) (s : State) :
    s.moveLink p l [c, d] = State.handOn p (State.handOn p { s with links := Vec.put s.links p l } c) d := rfl

/-- R42, R95, R101: a change of state with which neither FAULT, nor the keys, nor the talk-request list changes. -/
theorem handOn_of_event {p : Pod} {c : LinkChange} (s : State) (hfault : c.before.trusted = c.after.trusted)
    (hkeys : c.before.takes = true → c.after.takes = true) (hlist : c.after ≠ .absent ∧ c.after ≠ .off) :
    State.handOn p s c = s.linkEvent p c := by
  have hf : State.faultFollows p c (s.linkEvent p c) = s.linkEvent p c := by
    rw [State.faultFollows, hfault]
    cases c.after.trusted <;> rfl
  have hk : ¬ (c.before.takes && !c.after.takes) = true := by
    cases hb : c.before.takes with
    | false => simp
    | true => simp [hkeys hb]
  rw [State.handOn, hf, State.keysFollow, if_neg hk, if_neg (by simp [hlist])]

/-! ### Arrivals (R27 to R38) -/

/-- The commands about the links act outside resets alone. -/
theorem exec_micFrameArrival {s : State} (h : s.outOfReset) (p : Pod) (candidate : List Byte) (ok : Bool) :
    exec (.micFrameArrival p candidate ok) s = .next (s.candidateArrives p candidate ok) :=
  congrArg Host.Outcome.next (unlessInReset_of_outOfReset h)

theorem exec_micFrameArrival_of_frame {s : State} (h : s.outOfReset) (p : Pod) {candidate : List Byte} {f : MicFrame}
    (hf : decodeMicFrame candidate = some f) : exec (.micFrameArrival p candidate true) s = .next (s.frameArrives p f) := by
  rw [exec_micFrameArrival h, State.candidateArrives, candidateFrame, if_pos rfl, hf]

theorem candidateArrives_of_malformed {s : State} {p : Pod} {candidate : List Byte} {ok : Bool}
    (h : ok = false ∨ decodeMicFrame candidate = none) :
    s.candidateArrives p candidate ok = { s with links := Vec.put s.links p (s.links[p]).malformed } := by
  have hnone : candidateFrame candidate ok = none := by
    rcases h with rfl | h
    · rfl
    · rw [candidateFrame, h, ite_self]
  rw [State.candidateArrives, hnone]

theorem malformed_of_off {l : Link} (h : l.state = .off) : l.malformed = l := by rw [Link.malformed, h]

/-- R27: a malformed candidate is counted. -/
theorem malformed_of_not_off {l : Link} (h : l.state ≠ .off) :
    l.malformed = { l with badFrames := min 65535 (l.badFrames + 1) } := by
  unfold Link.malformed
  cases hs : l.state with
  | off => exact absurd hs h
  | _ => rfl

/-- R38: the append, in the words of the rule. -/
theorem append_eq (f : MicFrame) (l : Link) :
    l.append f = { l with
      fifo := if l.fifo.length < 4 then l.fifo ++ [f] else l.fifo.drop 1 ++ [f]
      slips := if l.fifo.length < 4 then l.slips else min 65535 (l.slips + 1) } := by
  unfold Link.append
  split <;> rfl

section
variable {e n : BitVec 4} {w : Nat}

/-! The classes of a sequence against the window (R36). -/

theorem sequenceClass_of_ahead (h : (n - e).toNat ≤ w) : sequenceClass e n w = .inOrder ∨ sequenceClass e n w = .ahead := by
  unfold sequenceClass
  by_cases he : n = e
  · exact .inl (if_pos he)
  · exact .inr (by rw [if_neg he, if_pos h])

theorem ne_of_window_lt (h : w < (n - e).toNat) : n ≠ e := by
  rintro rfl
  simp at h

theorem sequenceClass_of_late (h : w < (n - e).toNat) (hl : (e - n).toNat ≤ w) : sequenceClass e n w = .late := by
  rw [sequenceClass, if_neg (ne_of_window_lt h), if_neg (by omega), if_pos hl]

theorem sequenceClass_of_out (h : w < (n - e).toNat) (hl : w < (e - n).toNat) : sequenceClass e n w = .outOfWindow := by
  rw [sequenceClass, if_neg (ne_of_window_lt h), if_neg (by omega), if_neg (by omega)]

end

section
variable {q : LinkParams} {f : MicFrame} {l : Link}

theorem arrive_of_off (h : l.state = .off) : l.arrive q f = (l, []) := by rw [Link.arrive, h]

/-- R30: short of the lock count nothing else happens. -/
theorem countLock_of_short (h : l.goodCount < q.lockCount) : l.countLock q f = (l, []) := if_neg (Nat.not_le.2 h)

theorem countLock_of_reached (h : q.lockCount ≤ l.goodCount) : l.countLock q f = l.completeLock q f := if_pos h

theorem arrive_eq_firstFrame (h : l.state = .absent) : l.arrive q f = l.firstFrame q f := by rw [Link.arrive, h]

theorem arrive_eq_acquire (h : l.state = .acquiring) : l.arrive q f = l.acquire q f := by rw [Link.arrive, h]

/-- R29: the first frame, short of the lock count. -/
theorem arrive_of_absent (h : l.state = .absent) (hq : 2 ≤ q.lockCount) :
    l.arrive q f = ({ l with state := .acquiring, goodCount := 1, expected := f.sequence + 1, silenceRun := 0,
                             arrivalSeen := true }, [⟨.absent, .acquiring, .firstFrame⟩]) := by
  rw [arrive_eq_firstFrame h]
  simp only [Link.firstFrame]
  rw [countLock_of_short (by exact hq)]

/-- R30: a frame counted, short of the lock count. -/
theorem arrive_of_acquiring (h : l.state = .acquiring)
    (hq : (if f.sequence = l.expected then l.goodCount + 1 else 1) < q.lockCount) :
    l.arrive q f = ({ l with goodCount := if f.sequence = l.expected then l.goodCount + 1 else 1, expected := f.sequence + 1,
                             arrivalSeen := true }, []) :=
  (arrive_eq_acquire h).trans (if_neg (Nat.not_le.2 hq))

theorem arrive_of_takes (h : l.state.takes = true) : l.arrive q f = l.sequenced q f := by
  unfold Link.arrive
  cases hs : l.state with
  | off | absent | acquiring => rw [hs] at h; cases h
  | settling | locked | coasting => rfl

/-- R36, R38: a frame in order or ahead of it within the window. -/
theorem arrive_of_ahead (h : l.state.takes = true) (ha : (f.sequence - l.expected).toNat ≤ q.window) :
    l.arrive q f = ({ l.append f with expected := f.sequence + 1, restartRun := 0 }, []) := by
  rw [arrive_of_takes h, Link.sequenced]
  rcases sequenceClass_of_ahead ha with hc | hc <;> rw [hc]

/-- R36: a late frame is discarded. -/
theorem arrive_of_late (h : l.state.takes = true) (ha : q.window < (f.sequence - l.expected).toNat)
    (hl : (l.expected - f.sequence).toNat ≤ q.window) : l.arrive q f = ({ l with restartRun := 0 }, []) := by
  rw [arrive_of_takes h, Link.sequenced, sequenceClass_of_late ha hl]

/-- R36: a frame out of the window. -/
theorem arrive_of_out (h : l.state.takes = true) (ha : q.window < (f.sequence - l.expected).toNat)
    (hl : q.window < (l.expected - f.sequence).toNat) : l.arrive q f = l.outOfWindow q f := by
  rw [arrive_of_takes h, Link.sequenced, sequenceClass_of_out ha hl]

end

theorem frameArrives_of_arrive {s : State} {p : Pod} {f : MicFrame} {l : Link} {changes : List LinkChange}
    (h : (s.links[p]).arrive s.linkParams f = (l, changes)) : s.frameArrives p f = s.moveLink p l changes := by
  rw [State.frameArrives, h]

/-- Settles O27: the candidate by its form, and a well-formed one by the state of the link and the class of its sequence. -/
theorem candidatesOnAPodLink : Obligations.CandidatesOnAPodLink := by
  intro p candidate ok s hs l
  refine ⟨fun hoff => ?_, fun hne hbad => ?_, fun f hok hf => ?_⟩
  · rw [exec_micFrameArrival hs, State.candidateArrives]
    split
    · rw [frameArrives_of_arrive (arrive_of_off hoff), moveLink_nil, Vec.put_same]
    · rw [malformed_of_off hoff, Vec.put_same]
  · rw [exec_micFrameArrival hs, candidateArrives_of_malformed hbad, malformed_of_not_off hne]
  · intro ahead late count run
    subst hok
    rw [exec_micFrameArrival_of_frame hs p hf]
    refine ⟨fun habsent hlock => ?_, fun hacquiring hcount => ?_, fun htakes => ⟨fun hahead => ?_, fun hahead hlate => ?_,
      fun hahead hlate hrun => ?_⟩⟩
    · rw [frameArrives_of_arrive (arrive_of_absent habsent hlock), moveLink_one,
        handOn_of_event _ rfl (by decide) (by decide)]
      rfl
    · rw [frameArrives_of_arrive (arrive_of_acquiring hacquiring hcount), moveLink_nil]
    · rw [frameArrives_of_arrive (arrive_of_ahead htakes hahead), append_eq, moveLink_nil]
    · rw [frameArrives_of_arrive (arrive_of_late htakes hahead hlate), moveLink_nil]
    · have hout : l.arrive s.linkParams f = ({ l with restartRun := run, lastRestart := f.sequence }, []) := by
        rw [arrive_of_out htakes hahead hlate]
        exact if_neg (Nat.not_le.2 hrun)
      rw [frameArrives_of_arrive hout, moveLink_nil]

/-! ### SET_LINK_PARAMS and GET_LINKS (R46, R47) -/

theorem onOff_eq_none {b : Byte} (h : 1 < b.toNat) : onOff b = none := by
  rw [onOff, if_neg (by rintro rfl; simp at h), if_neg (by rintro rfl; simp at h)]

theorem onOff_bit8 (b : Bool) : onOff (bit8 b) = some b := by cases b <;> rfl

theorem podByte_toNat (p : Pod) : (podByte p).toNat = p.1 + 1 := by
  rw [podByte, u8, BitVec.toNat_ofNat, Nat.mod_eq_of_lt (by omega)]

/-- R47: the entry of a link, in the words of the rule. -/
theorem link_entry (l : Link) :
    l.entry = [l.state.code, u8 l.fifo.length] ++
      u16 (if l.state = .acquiring then l.goodCount else if l.state = .settling then l.settleCounter else 0) ++
      [u8 (if l.state = .acquiring then l.silenceRun else if l.state.trusted then l.coastRun else 0)] ++ u16 l.badFrames ++
      u16 l.slips := by
  unfold Link.entry Link.progress Link.run
  cases l.state <;> simp [LinkState.trusted]

/-- R47: the pods listed, from the first on and cut at pod 24. -/
theorem cutRange_podByte (p : Pod) (n : Nat) :
    (cutRange (podByte p).toNat n : List Pod) = (List.finRange 24).filter fun q : Pod => decide (p ≤ q ∧ q.1 < p.1 + n) := by
  rw [cutRange, podByte_toNat]
  refine List.filter_congr fun q _ => decide_eq_decide.2 ?_
  rw [Fin.le_def]
  omega

theorem clearLinkCounters_of_listed {listed : List Pod} {c : Pod → Prop} [DecidablePred c] (h : ∀ q, q ∈ listed ↔ c q)
    (s : State) :
    s.clearLinkCounters listed = { s with
      links := Vec.tab fun q => if c q then { s.links[q] with badFrames := 0, slips := 0 } else s.links[q] } := by
  simp only [State.clearLinkCounters, h]

theorem exec_getLinks {tag first count clear : Byte} {s : State} {v : Verdict} (h : s.takes)
    (hv : judgeGetLinks first count clear s.hunt = v) :
    exec (.getLinks tag first count clear) s = .next (v.effect (s.answered 0x91 tag (v.status.code :: v.fields))) :=
  congrArg Host.Outcome.next (takeRequest_verdict h hv)

/-- Settles O31: the verdict on each request. -/
theorem linkParametersAndStatus : Obligations.LinkParametersAndStatus := by
  refine ⟨fun tag lock settle unlock window s hs => ?_, fun tag first count clear s hs hbad => ?_,
    fun tag count p clear s hs => ?_⟩
  · intro l st un w status
    have hstatus : (okOr (decide (linkParamsOf lock settle unlock window ≠ linkParamsAsked lock settle unlock window))).code
        = status := by
      have hiff : linkParamsOf lock settle unlock window = linkParamsAsked lock settle unlock window ↔
          l = lock.toNat ∧ st = settle.toNat ∧ un = unlock.toNat ∧ w = window.toNat := by
        rw [linkParamsOf, linkParamsAsked, LinkParams.mk.injEq]
        simp [clampNat, l, st, un, w]
      by_cases h : linkParamsOf lock settle unlock window = linkParamsAsked lock settle unlock window
      · rw [show status = 0 from if_pos (hiff.1 h), h]
        simp [okOr, Status.code]
      · rw [show status = 1 from if_neg fun h' => h (hiff.2 h'), decide_eq_true h]
        rfl
    have htaken : linkParamsOf lock settle unlock window = { lockCount := l, settleFrames := st, unlockCount := un, window := w } := by
      simp [linkParamsOf, clampNat, l, st, un, w]
    refine (congrArg Host.Outcome.next (takeRequest_verdict hs (v := judgeSetLinkParams lock settle unlock window s.hunt) rfl)).trans ?_
    simp only [judgeSetLinkParams, hstatus]
    rw [htaken]
    rfl
  · have hnone : judgeGetLinks first count clear s.hunt = .refuse .badValue := by
      unfold judgeGetLinks
      rcases hbad with h | h | h
      · rw [podOf_eq_none (.inl h)]
      · rw [podOf_eq_none (.inr h)]
      · rw [onOff_eq_none h]
        cases podOf first <;> rfl
    rw [exec_getLinks hs hnone]
    rfl
  · intro n listed progress run entry
    have hentry : (fun q => (s.links[q]).entry) = entry := funext fun q => link_entry s.links[q]
    have hmem (q : Pod) : q ∈ listed ↔ p ≤ q ∧ q.1 < p.1 + n := by simp [listed]
    have hstatus : (okOr (decide (n ≠ count.toNat))).code = if n = count.toNat then 0 else 1 := by
      by_cases h : n = count.toNat <;> simp [h, okOr, Status.code]
    have hv : judgeGetLinks (podByte p) count (bit8 clear) s.hunt =
        { status := okOr (decide (n ≠ count.toNat)), fields := u8 listed.length :: listed.flatMap entry,
          effect := if clear then State.clearLinkCounters listed else id } := by
      unfold judgeGetLinks
      rw [podOf_podByte, onOff_bit8, ← hentry]
      simp only [cutRange_podByte]
      rfl
    rw [exec_getLinks hs hv, hstatus]
    cases clear with
    | false => rfl
    | true =>
      simp only [if_true]
      rw [clearLinkCounters_of_listed hmem]
      rfl

end Sys2Proof.Machine
end

section
/-! SUPPORT. What no key, no request and no all-mute changes: FAULT of every pod, the link states and the roster. -/

namespace Sys2Proof.Machine

/-! ### Whole blocks left alone -/

section
variable {A : List Part} {s t : State} (h : Moves A s t)
include h

theorem Moves.session_eq (hA : .mixer ∉ A ∧ .roster ∉ A ∧ .resets ∉ A) : t.session = s.session := by
  have hmixer : t.session.mixer = s.session.mixer := h.frame .mixer hA.1
  have hroster : t.session.roster = s.session.roster := h.frame .roster hA.2.1
  obtain ⟨hreason, hphase, hlatch⟩ := h.frame .resets hA.2.2
  revert hmixer hroster hreason hphase hlatch
  cases t.session
  cases s.session
  rintro rfl rfl rfl rfl rfl
  rfl

theorem Moves.router_eq (hA : .feeds ∉ A ∧ .ducks ∉ A) : t.router = s.router := by
  have hfeeds : t.router.feeds = s.router.feeds := h.frame .feeds hA.1
  obtain ⟨hdepth, hactive⟩ := h.frame .ducks hA.2
  revert hfeeds hdepth hactive
  cases t.router
  cases s.router
  rintro rfl rfl rfl
  rfl

theorem Moves.inputs_eq (hA : .podInputs ∉ A ∧ .trunkInputs ∉ A ∧ .playerInputs ∉ A) : t.inputs = s.inputs := by
  have hpods : t.inputs.pods = s.inputs.pods := h.frame .podInputs hA.1
  have htrunks : t.inputs.trunks = s.inputs.trunks := h.frame .trunkInputs hA.2.1
  have hplayers : t.inputs.players = s.inputs.players := h.frame .playerInputs hA.2.2
  revert hpods htrunks hplayers
  cases t.inputs
  cases s.inputs
  rintro rfl rfl rfl
  rfl

end

/-! ### FAULT, the link states and the roster -/

/-- What ties FAULT to the links and the roster (R35, R42) is left alone. -/
structure FaultsKept (s t : State) : Prop where
  fault : ∀ p : Pod, (t.mutes.reasons[p]).fault = (s.mutes.reasons[p]).fault
  link : ∀ p : Pod, (t.links[p]).state = (s.links[p]).state
  roster : t.session.roster = s.session.roster

theorem FaultsKept.refl (s : State) : FaultsKept s s := ⟨fun _ => rfl, fun _ => rfl, rfl⟩

theorem FaultsKept.trans {s t u : State} (h : FaultsKept s t) (k : FaultsKept t u) : FaultsKept s u :=
  ⟨fun p => (k.fault p).trans (h.fault p), fun p => (k.link p).trans (h.link p), k.roster.trans h.roster⟩

theorem FaultsKept.foldl {α : Type} {f : State → α → State} (h : ∀ t a, FaultsKept t (f t a)) (l : List α) (s : State) :
    FaultsKept s (l.foldl f s) := by
  induction l generalizing s with
  | nil => exact .refl s
  | cons a rest ih => exact (h s a).trans (ih _)

theorem FaultsKept.sound {s t : State} (h : FaultsKept s t) (hs : FaultSound s) : FaultSound t := fun p => by
  rw [h.fault, h.link, h.roster]
  exact hs p

theorem FaultsKept.of_moves {A : List Part} {s t : State} (h : Moves A s t)
    (hA : .mutes ∉ A ∧ .links ∉ A ∧ .roster ∉ A) : FaultsKept s t := by
  have hmutes : t.mutes = s.mutes := h.frame .mutes hA.1
  have hlinks : t.links = s.links := h.frame .links hA.2.1
  exact ⟨fun p => by rw [hmutes], fun p => by rw [hlinks], h.frame .roster hA.2.2⟩

/-- The mute controller's registers written, the reason sets as they are. -/
theorem FaultsKept.of_reasons {A : List Part} {s t : State} (h : Moves A s t) (hA : .links ∉ A ∧ .roster ∉ A)
    (hr : t.mutes.reasons = s.mutes.reasons) : FaultsKept s t := by
  have hlinks : t.links = s.links := h.frame .links hA.1
  exact ⟨fun p => by rw [hr], fun p => by rw [hlinks], h.frame .roster hA.2⟩

theorem fault_put {v : Vector Reasons 24} {p : Pod} {r : Reasons} (hr : r.fault = (v[p]).fault) (q : Pod) :
    ((Vec.put v p r)[q]).fault = (v[q]).fault := by
  rw [Fin.getElem_fin, Vec.getElem_put]
  split
  · rename_i h
    obtain rfl : p = q := Fin.ext h
    exact hr
  · rfl

section
variable (p : Pod) (s : State)

theorem setReasons_faultsKept {r : Reasons} (hr : r.fault = (s.mutes.reasons[p]).fault) : FaultsKept s (s.setReasons p r) :=
  ⟨fun q => by rw [State.setReasons_reasons]; exact fault_put hr q, fun q => by rw [State.setReasons_links],
    by rw [State.setReasons_session]⟩

theorem setKey_faultsKept (b : Bool) : FaultsKept s (s.setKey p b) := setReasons_faultsKept p s rfl

theorem setHost_faultsKept (b : Bool) : FaultsKept s (s.setHost p b) := setReasons_faultsKept p s rfl

theorem setChair_faultsKept (b : Bool) : FaultsKept s (s.setChair p b) := setReasons_faultsKept p s rfl

theorem keyFollows_faultsKept (b : Bool) : FaultsKept s (s.keyFollows p b) := by
  rw [keyFollows_eq]
  exact setReasons_faultsKept p s rfl

theorem revertKeys_faultsKept : FaultsKept s (s.revertKeys p) :=
  (FaultsKept.of_reasons (moves_mutes s _) (by decide) (by rfl)).trans (keyFollows_faultsKept p _ false)

theorem leaveTalkList_faultsKept (a : TalkAction) : FaultsKept s (s.leaveTalkList p a) := by
  refine .of_reasons (leaveTalkList_moves p s a) (by decide) ?_
  unfold State.leaveTalkList
  split
  · rw [State.talkReport_mutes]
    rfl
  · rfl

/-! ### Keys, requests to speak and the all-mute (R91 to R101) -/

theorem chairMuteOn_faultsKept : FaultsKept s s.chairMuteOn := by
  refine (FaultsKept.of_reasons (moves_mutes s _) (by decide) (by rfl)).trans (FaultsKept.foldl (fun t p => ?_) _ _)
  split
  · exact setChair_faultsKept p t true
  · exact .refl t

theorem clearTalkList_faultsKept : FaultsKept s s.clearTalkList := by
  refine .of_reasons (clearTalkList_moves s) (by decide) ?_
  unfold State.clearTalkList
  split
  · rfl
  · rw [State.talkReport_mutes]
    rfl

theorem chairMuteOff_faultsKept : FaultsKept s s.chairMuteOff := by
  refine ((FaultsKept.of_reasons (moves_mutes s _) (by decide) (by rfl)).trans (FaultsKept.foldl (fun t p => ?_) _ _)).trans
    (clearTalkList_faultsKept _)
  split
  · exact setChair_faultsKept p t false
  · exact .refl t

theorem setChairMute_faultsKept (on : Bool) : FaultsKept s (s.setChairMute on) := by
  unfold State.setChairMute
  split
  · exact .refl s
  · split
    · exact chairMuteOn_faultsKept s
    · exact chairMuteOff_faultsKept s

theorem acceptEdge_faultsKept (isAll level : Bool) {effect : State → State} (h : ∀ t, FaultsKept t (effect t)) :
    FaultsKept s (s.acceptEdge p isAll level effect) :=
  (FaultsKept.of_moves (moves_post s _ _ _ (by decide)) (by decide)).trans (h _)

theorem talkPress_faultsKept : FaultsKept s (s.talkPress p) := by
  unfold State.talkPress
  split
  · exact leaveTalkList_faultsKept p s _
  · refine .of_reasons (A := [.mutes]) ?_ (by decide) ?_
    · split
      · exact (setTalkList_moves s _).trans ((talkReport_moves _ _ _).wide (by decide))
      · exact (talkReport_moves s _ _).wide (by decide)
    · split <;> rw [State.talkReport_mutes]
      rfl

theorem talkEdge_faultsKept (pressed : Bool) : FaultsKept s (s.talkEdge p pressed) := by
  have hkey : FaultsKept s (s.talkEdgeKey p pressed) := by
    unfold State.talkEdgeKey
    split
    · split
      · exact setKey_faultsKept p s _
      · exact .refl s
    all_goals exact keyFollows_faultsKept p s pressed
  unfold State.talkEdge
  split
  · exact hkey.trans (talkPress_faultsKept p _)
  · exact hkey

theorem allEdge_faultsKept (pressed : Bool) : FaultsKept s (s.allEdge p pressed) := by
  unfold State.allEdge
  split
  · exact setChairMute_faultsKept s _
  · exact .refl s

theorem setAllKey_faultsKept (k : KeyRecord) : FaultsKept s (s.setAllKey p k) :=
  .of_reasons (moves_mutes s _) (by decide) (by rfl)

theorem setTalkKey_faultsKept (k : KeyRecord) : FaultsKept s (s.setTalkKey p k) :=
  .of_reasons (moves_mutes s _) (by decide) (by rfl)

theorem takeAllLevel_faultsKept (k : KeyLevels) : FaultsKept s (s.takeAllLevel p k) := by
  unfold State.takeAllLevel
  split
  · exact setAllKey_faultsKept p s _
  · split
    · exact (setAllKey_faultsKept p s _).trans (acceptEdge_faultsKept p _ true k.all fun t => allEdge_faultsKept p t k.all)
    · exact .refl s

theorem takeTalkLevel_faultsKept (k : KeyLevels) : FaultsKept s (s.takeTalkLevel p k) := by
  unfold State.takeTalkLevel
  split
  · exact (setTalkKey_faultsKept p s _).trans (keyFollows_faultsKept p _ _)
  · split
    · exact (setTalkKey_faultsKept p s _).trans
        (acceptEdge_faultsKept p _ false k.talk fun t => talkEdge_faultsKept p t k.talk)
    · exact .refl s

end

section
variable (s : State)

theorem keyPass_faultsKept {one : Pod → KeyLevels → State → State} (h : ∀ p k t, FaultsKept t (one p k t)) (keys : TakenKeys) :
    FaultsKept s (keyPass one keys s) := by
  refine FaultsKept.foldl (fun t p => ?_) _ s
  split
  · exact h p _ t
  · exact .refl t

theorem takeKeys_faultsKept (keys : TakenKeys) : FaultsKept s (s.takeKeys keys) :=
  (keyPass_faultsKept s (fun p k t => takeAllLevel_faultsKept p t k) keys).trans
    (keyPass_faultsKept _ (fun p k t => takeTalkLevel_faultsKept p t k) keys)

theorem ageKeys_faultsKept : FaultsKept s s.ageKeys := .of_reasons (ageKeys_moves s) (by decide) (by rfl)

/-! ### Settings of the mute controller (R88, R102 to R105) -/

theorem setTrunkHost_faultsKept (k : Trunk) (on : Bool) : FaultsKept s (s.setTrunkHost k on) := by
  refine .of_reasons (setTrunkHost_moves s k on) (by decide) ?_
  unfold State.setTrunkHost
  split <;> rfl

theorem setPrivacy_faultsKept (on : Bool) : FaultsKept s (s.setPrivacy on) := by
  refine .of_reasons (setPrivacy_moves s on) (by decide) ?_
  unfold State.setPrivacy
  split <;> rfl

theorem clearReasons_faultsKept (p : Pod) (b : Byte) : FaultsKept s (s.clearReasons p b) := by
  have hset : FaultsKept s (s.setReasons p ((s.mutes.reasons[p]).without b)) := setReasons_faultsKept p s rfl
  unfold State.clearReasons
  simp only
  split
  · exact hset.trans (leaveTalkList_faultsKept p _ _)
  · exact hset

theorem setKeyMode_faultsKept (p : Pod) (mode : KeyMode) : FaultsKept s (s.setKeyMode p mode) := by
  unfold State.setKeyMode
  split
  · exact .refl s
  · exact (FaultsKept.of_reasons (moves_mutes s _) (by decide) (by rfl)).trans (keyFollows_faultsKept p _ _)

end

end Sys2Proof.Machine
end

section
/-! SUPPORT. The commands about the links, a lock gained and a lock lost (R30 to R36), and the completing arrival of O28. -/

namespace Sys2Proof.Machine

/-! ### The commands about the links -/

section
variable {s : State} (hs : s.outOfReset) {p : Pod} {f : MicFrame} {l : Link} {changes : List LinkChange}
include hs

theorem exec_micFrameArrival_of_arrive {candidate : List Byte} (hf : decodeMicFrame candidate = some f)
    (ha : (s.links[p]).arrive s.linkParams f = (l, changes)) :
    exec (.micFrameArrival p candidate true) s = .next (s.moveLink p l changes) := by
  rw [exec_micFrameArrival_of_frame hs p hf, frameArrives_of_arrive ha]

/-- R30: the command is the arrival, where that completes a lock. -/
theorem exec_lockCount_of_arrive (ha : (s.links[p]).arrive s.linkParams f = (l, changes))
    (hc : hasCause .lockCount changes = true) : exec (.lockCount p f) s = .next (s.moveLink p l changes) := by
  refine congrArg Host.Outcome.next ((unlessInReset_of_outOfReset hs).trans ?_)
  rw [frameArrives_of_arrive ha]
  exact if_pos (by rw [ha]; exact hc)

/-- R36: the command is the arrival, where that restarts the link. -/
theorem exec_restart_of_arrive (ha : (s.links[p]).arrive s.linkParams f = (l, changes))
    (hc : hasCause .restart changes = true) : exec (.restart p f) s = .next (s.moveLink p l changes) := by
  refine congrArg Host.Outcome.next ((unlessInReset_of_outOfReset hs).trans ?_)
  rw [frameArrives_of_arrive ha]
  exact if_pos (by rw [ha]; exact hc)

variable {y : Yield} (hb : (s.links[p]).boundary s.linkParams = (l, y, changes))
include hb

theorem exec_silence_of_boundary (hc : hasCause .silence changes = true) :
    exec (.silence p) s = .next (s.moveLink p l changes) := by
  refine congrArg Host.Outcome.next ((unlessInReset_of_outOfReset hs).trans ?_)
  rw [State.linkEventOf, State.linkBoundary, hb, if_pos hc]

theorem exec_unlock_of_boundary (hc : hasCause .unlock changes = true) :
    exec (.unlock p) s = .next (s.moveLink p l changes) := by
  refine congrArg Host.Outcome.next ((unlessInReset_of_outOfReset hs).trans ?_)
  rw [State.linkEventOf, State.linkBoundary, hb, if_pos hc]

theorem exec_settleDone_of_boundary (hc : hasCause .settleDone changes = true) :
    exec (.settleDone p) s =
      .next ((s.moveLink p l changes).takeKeys (Vec.tab fun q => if q = p then y.keys else none)) := by
  refine congrArg Host.Outcome.next ((unlessInReset_of_outOfReset hs).trans ?_)
  rw [State.linkYield, State.linkBoundary, hb, if_pos hc]

end

/-! ### Changes of state handed on -/

/-- A LINK_EVENT touches the control link alone. -/
theorem linkEvent_eq (p : Pod) (c : LinkChange) (s : State) :
    s.linkEvent p c = { s with control := (s.linkEvent p c).control } := post_eq _ _ _ s

theorem filter_bne (p : Pod) (l : List Pod) : l.filter (· != p) = l.filter (· ≠ p) :=
  List.filter_congr fun q _ => Bool.eq_iff_iff.2 (by simp)

theorem leaveTalkList_mutes (p : Pod) (a : TalkAction) (s : State) :
    (s.leaveTalkList p a).mutes = { s.mutes with talkList := s.mutes.talkList.filter (· ≠ p) } := by
  unfold State.leaveTalkList
  split
  · rw [State.talkReport_mutes, filter_bne]
    rfl
  · rename_i h
    rw [List.filter_eq_self.2 fun q hq => by simpa using fun e : q = p => h (e ▸ hq)]

/-- R42: the link becomes trusted. -/
theorem handOn_of_trusting {p : Pod} {c : LinkChange} (s : State) (hb : c.before.trusted = false)
    (ha : c.after.trusted = true) : State.handOn p s c = (s.linkEvent p c).loseFault p := by
  have htakes : c.after.takes = true := by
    cases h : c.after with
    | locked | coasting => rfl
    | off | absent | acquiring | settling => rw [h] at ha; cases ha
  have hlist : ¬ (c.after = .absent ∨ c.after = .off) := by
    rintro (h | h) <;> rw [h] at ha <;> cases ha
  rw [State.handOn, State.faultFollows, hb, ha]
  simp [State.keysFollow, htakes, hlist]

/-- What the loss of a lock makes of a channel (R74, R87, R89, R95): FAULT, the keys released and KEY by the key mode, the
local mute ramp, the gate ramp as given, and the gate shut; the talk-request list as given. -/
structure LockLost (p : Pod) (gate : Ramp) (list : List Pod) (s t : State) : Prop where
  mutes : t.mutes = { s.mutes with
    talkKey := Vec.put s.mutes.talkKey p { s.mutes.talkKey[p] with pressed := false }
    allKey := Vec.put s.mutes.allKey p { s.mutes.allKey[p] with pressed := false }
    reasons := Vec.put s.mutes.reasons p
      { s.mutes.reasons[p] with
        fault := true, key := (s.mutes.keyMode[p]).keyAfter (s.mutes.reasons[p]).key false }
    talkList := list }
  ramps : t.ramps = { s.ramps with
    gate := Vec.put s.ramps.gate p gate
    localMute := Vec.put s.ramps.localMute p
      ((s.ramps.localMute[p]).muteChange s.mutes.rampLength s.mutes.reasons[p] { s.mutes.reasons[p] with fault := true }) }
  gates : GatesSound s → GateShut p s t

/-- R95: the keys of a channel that has just gained FAULT revert. -/
theorem lockLost_of_trusted (p : Pod) (s : State) :
    LockLost p ((s.ramps.gate[p]).jump 0) s.mutes.talkList s ((s.gainFault p).revertKeys p) := by
  have hreason : (s.gainFault p).mutes.reasons[p] = { s.mutes.reasons[p] with fault := true } := by
    rw [gainFault_mutes]
    exact Vec.getElem_put_self _ _ _
  have hrevert := revertKeys_of_fault (p := p) (s := s.gainFault p) (by rw [hreason])
  refine ⟨?_, ?_, fun hg => ?_⟩
  · rw [hrevert, hreason, gainFault_mutes]
    simp
  · rw [hrevert]
    exact gainFault_ramps p s
  · rw [hrevert]
    exact (gateShut_gainFault p hg).of_automixer rfl

/-- R95: a link that settled, whose channel carries FAULT. -/
theorem lockLost_of_settling {p : Pod} {s : State} (h : (s.mutes.reasons[p]).fault = true) :
    LockLost p s.ramps.gate[p] s.mutes.talkList s (s.revertKeys p) := by
  have hsame : { s.mutes.reasons[p] with fault := true } = s.mutes.reasons[p] := by rw [← h]
  rw [revertKeys_of_fault h]
  refine ⟨?_, ?_, fun hg => ?_⟩
  · simp only [h]
  · rw [hsame, Ramp.muteChange_self, Vec.put_same, Vec.put_same]
  · exact (gateShut_of_shut hg (hg.1 p (Reasons.muted_of_fault h))).of_automixer rfl

theorem LockLost.of_control {p : Pod} {gate : Ramp} {list : List Pod} {s s' t : State} (h : LockLost p gate list s t)
    (hm : s.mutes = s'.mutes) (hr : s.ramps = s'.ramps) (ha : s.automixer = s'.automixer) : LockLost p gate list s' t := by
  refine ⟨by rw [h.mutes, hm], by rw [h.ramps, hr, hm], fun hg => (h.gates ?_).of_start ha⟩
  simp only [GatesSound, State.gate, State.holders, hm, ha]
  exact hg

theorem LockLost.leaveTalkList {p : Pod} {gate : Ramp} {list : List Pod} {s t : State} (h : LockLost p gate list s t)
    (a : TalkAction) : LockLost p gate (list.filter (· ≠ p)) s (t.leaveTalkList p a) := by
  refine ⟨?_, ?_, fun hg => (h.gates hg).of_automixer (State.leaveTalkList_automixer p a t)⟩
  · rw [leaveTalkList_mutes, h.mutes]
  · rw [State.leaveTalkList_ramps, h.ramps]

/-! ### A lock gained (R30, R32) -/

section
variable {q : LinkParams} {f : MicFrame} {l : Link}

/-- R30: the lock count reached by the arrival in ACQUIRING. -/
theorem arrive_of_lockCount (h : l.state = .acquiring)
    (hq : q.lockCount ≤ if f.sequence = l.expected then l.goodCount + 1 else 1) :
    l.arrive q f = Link.completeLock q f
      { l with goodCount := if f.sequence = l.expected then l.goodCount + 1 else 1, expected := f.sequence + 1,
               arrivalSeen := true } :=
  (arrive_eq_acquire h).trans (if_pos hq)

/-- R29, R30: with lock count 1 the first frame completes the lock. -/
theorem arrive_of_first_lock (h : l.state = .absent) (hq : q.lockCount ≤ 1) :
    l.arrive q f =
      let r := Link.completeLock q f
        { l with state := .acquiring, goodCount := 1, expected := f.sequence + 1, silenceRun := 0, arrivalSeen := true }
      (r.1, ⟨.absent, .acquiring, .firstFrame⟩ :: r.2) := by
  rw [arrive_eq_firstFrame h]
  simp only [Link.firstFrame]
  rw [countLock_of_reached (by exact hq)]

theorem completeLock_of_settle (h : 1 ≤ q.settleFrames) :
    l.completeLock q f = ({ l with fifo := [f], restartRun := 0, firstTake := true, state := .settling, settleCounter := 0 },
      [⟨.acquiring, .settling, .lockCount⟩]) :=
  if_neg (by omega)

theorem completeLock_of_zero (h : q.settleFrames = 0) :
    l.completeLock q f = ({ l with fifo := [f], restartRun := 0, firstTake := true, state := .locked, coastRun := 0 },
      [⟨.acquiring, .locked, .lockCount⟩]) :=
  if_pos h

/-- R32: the take that ends the settling. -/
theorem boundary_of_settled {rest : List MicFrame} (h : l.state = .settling) (hf : l.fifo = f :: rest)
    (hq : q.settleFrames ≤ l.settleCounter + 1) :
    l.boundary q = ({ l with state := .locked, fifo := rest, lastTaken := f, firstTake := false,
                             settleCounter := l.settleCounter + 1, coastRun := 0 }, .frame f l.firstTake,
      [⟨.settling, .locked, .settleDone⟩]) := by
  rw [Link.boundary, h]
  simp only [hf]
  exact if_pos hq

end

/-- R74, R87: the ramps of a channel that loses FAULT and whose reasons then become `r`. -/
def State.faultGone (p : Pod) (r : Reasons) (s : State) : Ramps :=
  { s.ramps with
    gate := Vec.put s.ramps.gate p ((s.ramps.gate[p]).calledFor s.automixer.params (s.gate p).state)
    localMute := Vec.put s.ramps.localMute p
      (((s.ramps.localMute[p]).muteChange s.mutes.rampLength s.mutes.reasons[p]
        { s.mutes.reasons[p] with fault := false }).muteChange s.mutes.rampLength
          { s.mutes.reasons[p] with fault := false } r) }

/-- The state with a link that has become trusted: FAULT is gone, and the ramps are retargeted. -/
def State.lockGained (p : Pod) (l : Link) (c : Control) (s : State) : State :=
  { s with
    links := Vec.put s.links p l, control := c
    mutes := { s.mutes with reasons := Vec.put s.mutes.reasons p { s.mutes.reasons[p] with fault := false } }
    ramps := s.faultGone p { s.mutes.reasons[p] with fault := false } }

/-- R42, R74, R89: a link that becomes trusted, whatever was reported before. -/
theorem handOn_eq_lockGained {p : Pod} {l : Link} {c : LinkChange} (s : State) (d : Control)
    (hb : c.before.trusted = false) (ha : c.after.trusted = true) :
    ∃ e : Control, State.handOn p { s with links := Vec.put s.links p l, control := d } c = s.lockGained p l e := by
  rw [handOn_of_trusting _ hb ha, linkEvent_eq, loseFault_eq]
  refine ⟨(State.linkEvent p c { s with links := Vec.put s.links p l, control := d }).control, ?_⟩
  simp only [State.lockGained, State.faultGone, Ramp.muteChange_self]
  rfl

/-- R30: the lock is complete, and the link starts to settle or is LOCKED at once. -/
theorem lockAndSettle_acquiring (p : Pod) (f : MicFrame) (s : State) (hs : s.outOfReset) :
    let l := s.links[p]
    let count := if f.sequence = l.expected then l.goodCount + 1 else 1
    l.state = .acquiring → s.linkParams.lockCount ≤ count →
      (1 ≤ s.linkParams.settleFrames → exec (.lockCount p f) s = .next
        ({ s with
            links := Vec.put s.links p
              { l with state := .settling, goodCount := count, expected := f.sequence + 1, arrivalSeen := true,
                       fifo := [f], restartRun := 0, firstTake := true, settleCounter := 0 } }.post .link 0xE2
          [podByte p, 2, 3, 2])) ∧
      (s.linkParams.settleFrames = 0 → ∃ e : Control, exec (.lockCount p f) s = .next (s.lockGained p
          { l with state := .locked, goodCount := count, expected := f.sequence + 1, arrivalSeen := true, fifo := [f],
                   restartRun := 0, firstTake := true, coastRun := 0 } e)) ∧
      ∀ candidate : List Byte, decodeMicFrame candidate = some f →
        exec (.micFrameArrival p candidate true) s = exec (.lockCount p f) s := by
  intro l count hl hcount
  have harrive : l.arrive s.linkParams f = _ := arrive_of_lockCount hl hcount
  refine ⟨fun hsettle => ?_, fun hzero => ?_, fun candidate hf => ?_⟩
  · rw [completeLock_of_settle hsettle] at harrive
    rw [exec_lockCount_of_arrive hs harrive rfl, moveLink_one, handOn_of_event _ rfl (by decide) (by decide)]
    rfl
  · rw [completeLock_of_zero hzero] at harrive
    obtain ⟨e, he⟩ := handOn_eq_lockGained (p := p) (c := ⟨.acquiring, .locked, .lockCount⟩) s s.control rfl rfl
    exact ⟨e, (exec_lockCount_of_arrive hs harrive rfl).trans (congrArg Host.Outcome.next he)⟩
  · have hcause : hasCause .lockCount (l.arrive s.linkParams f).2 = true := by
      rw [harrive, Link.completeLock]
      split <;> rfl
    rw [exec_micFrameArrival_of_arrive hs hf rfl, exec_lockCount_of_arrive hs rfl hcause]

/-- R29, R30: with lock count 1 the first frame is such an arrival. -/
theorem lockAndSettle_absent (p : Pod) (f : MicFrame) (candidate : List Byte) (s : State) (hs : s.outOfReset)
    (hl : (s.links[p]).state = .absent) (hq : s.linkParams.lockCount ≤ 1) (hf : decodeMicFrame candidate = some f) :
    let l : Link :=
      { s.links[p] with
        goodCount := 1, expected := f.sequence + 1, silenceRun := 0, arrivalSeen := true, fifo := [f], restartRun := 0
        firstTake := true }
    exec (.micFrameArrival p candidate true) s = exec (.lockCount p f) s ∧
    (1 ≤ s.linkParams.settleFrames → exec (.lockCount p f) s = .next
      (({ s with links := Vec.put s.links p { l with state := .settling, settleCounter := 0 } }.post .link 0xE2
        [podByte p, 1, 2, 1]).post .link 0xE2 [podByte p, 2, 3, 2])) ∧
    (s.linkParams.settleFrames = 0 → ∃ e : Control,
      exec (.lockCount p f) s = .next (s.lockGained p { l with state := .locked, coastRun := 0 } e)) := by
  intro l
  have harrive := arrive_of_first_lock (f := f) hl hq
  refine ⟨?_, fun hsettle => ?_, fun hzero => ?_⟩
  · have hcause : hasCause .lockCount ((s.links[p]).arrive s.linkParams f).2 = true := by
      rw [harrive, Link.completeLock]
      split <;> rfl
    rw [exec_micFrameArrival_of_arrive hs hf rfl, exec_lockCount_of_arrive hs rfl hcause]
  · rw [completeLock_of_settle hsettle] at harrive
    rw [exec_lockCount_of_arrive hs harrive rfl, moveLink_two, handOn_of_event _ rfl (by decide) (by decide),
      handOn_of_event _ rfl (by decide) (by decide)]
    rfl
  · rw [completeLock_of_zero hzero] at harrive
    have hexec := exec_lockCount_of_arrive hs harrive rfl
    rw [moveLink_two, handOn_of_event (c := ⟨.absent, .acquiring, .firstFrame⟩) _ rfl (by decide) (by decide),
      linkEvent_eq] at hexec
    obtain ⟨e, he⟩ := handOn_eq_lockGained (p := p) (c := ⟨.acquiring, .locked, .lockCount⟩) s _ rfl rfl
    exact ⟨e, hexec.trans (congrArg Host.Outcome.next he)⟩

/-! ### The take that ends the settling (R32, R92) -/

/-- One pod's turn in a pass over the key levels. -/
def keyTurn (one : Pod → KeyLevels → State → State) (keys : TakenKeys) (s : State) (p : Pod) : State :=
  match keys[p] with
  | some k => one p k s
  | none => s

theorem keyPass_eq (one : Pod → KeyLevels → State → State) (keys : TakenKeys) (s : State) :
    keyPass one keys s = allPods.foldl (keyTurn one keys) s := rfl

section
variable {one : Pod → KeyLevels → State → State} {keys : TakenKeys} {s : State} {p : Pod}

theorem keyTurn_of_some {k : KeyLevels} (h : keys[p] = some k) : keyTurn one keys s p = one p k s := by rw [keyTurn, h]

theorem keyTurn_of_none (h : keys[p] = none) : keyTurn one keys s p = s := by rw [keyTurn, h]

end

/-- Each pod has one turn in a pass. -/
theorem allPods_split (p : Pod) : ∃ l₁ l₂ : List Pod, allPods = l₁ ++ p :: l₂ ∧ p ∉ l₁ ∧ p ∉ l₂ := by
  obtain ⟨l₁, l₂, h⟩ := List.append_of_mem (mem_allPods p)
  have hn : allPods.Nodup := List.nodup_finRange 24
  rw [h, List.nodup_middle, List.nodup_cons, List.mem_append, not_or] at hn
  exact ⟨l₁, l₂, h, hn.1⟩

/-- R91: a pass in which one pod has handed over key levels. -/
theorem keyPass_single (one : Pod → KeyLevels → State → State) (p : Pod) (k : KeyLevels) (s : State) :
    keyPass one (Vec.tab fun q => if q = p then some k else none) s = one p k s := by
  have hkeys (q : Pod) : (Vec.tab fun q => if q = p then some k else none : TakenKeys)[q] = if q = p then some k else none :=
    Vec.getElem_tab _ _ q.2
  have hother (l : List Pod) (hl : p ∉ l) (t : State) :
      l.foldl (keyTurn one (Vec.tab fun q => if q = p then some k else none)) t = t := by
    induction l with
    | nil => rfl
    | cons q rest ih =>
      rw [List.mem_cons, not_or] at hl
      rw [List.foldl_cons, keyTurn_of_none (by rw [hkeys, if_neg fun e => hl.1 e.symm])]
      exact ih hl.2
  obtain ⟨l₁, l₂, hsplit, h₁, h₂⟩ := allPods_split p
  rw [keyPass_eq, hsplit, List.foldl_append, hother l₁ h₁, List.foldl_cons, hother l₂ h₂,
    keyTurn_of_some (by rw [hkeys, if_pos rfl])]

theorem takeKeys_single (p : Pod) (k : KeyLevels) (s : State) :
    s.takeKeys (Vec.tab fun q => if q = p then some k else none) = (s.takeAllLevel p k).takeTalkLevel p k := by
  rw [State.takeKeys, keyPass_single, keyPass_single]

/-- R92: a first take adopts both levels, and KEY follows the mode. -/
theorem takeKeys_of_first {p : Pod} {k : KeyLevels} (h : k.first = true) (s : State) :
    s.takeKeys (Vec.tab fun q => if q = p then some k else none) =
      ((s.setAllKey p { pressed := k.all, guardAge := 100 }).setTalkKey p
        { pressed := k.talk, guardAge := 100 }).keyFollows p k.talk := by
  rw [takeKeys_single, State.takeAllLevel, if_pos h, State.takeTalkLevel, if_pos h]

end Sys2Proof.Machine
end

section
/-! The take that ends the settling, and the settling of O28. -/

namespace Sys2Proof.Machine

/-- What the passes over the key levels leave alone. -/
theorem takeKeys_frame (keys : TakenKeys) (s : State) :
    (s.takeKeys keys).session = s.session ∧ (s.takeKeys keys).store = s.store ∧ (s.takeKeys keys).players = s.players ∧
      (s.takeKeys keys).alc = s.alc ∧ (s.takeKeys keys).router = s.router ∧ (s.takeKeys keys).detectors = s.detectors ∧
      (s.takeKeys keys).inputs = s.inputs := by
  have h := takeKeys_moves s keys
  exact ⟨h.session_eq (by decide), h.frame .store (by decide), h.frame .players (by decide), h.frame .alc (by decide),
    h.router_eq (by decide), h.frame .detectors (by decide), h.inputs_eq (by decide)⟩

/-- A pod whose link settles carries FAULT, so its gate is shut. -/
theorem shut_of_settling {p : Pod} {s : State} (hg : GatesSound s) (hf : FaultSound s)
    (hl : (s.links[p]).state = .settling) : (s.gate p).state.Shut := by
  refine hg.1 p (Reasons.muted_of_fault ?_)
  rw [(hf p).1, hl]
  rfl

section
variable {p : Pod} {l : Link} {c : Control} {s : State} {k : KeyLevels}

theorem lockGained_reason : (s.lockGained p l c).mutes.reasons[p] = { s.mutes.reasons[p] with fault := false } :=
  Vec.getElem_put_self _ _ _

/-- R92: what the first take of a lock makes of the mute controller. -/
theorem firstTake_mutes (hk : k.first = true) :
    ((s.lockGained p l c).takeKeys (Vec.tab fun q => if q = p then some k else none)).mutes = { s.mutes with
      talkKey := Vec.put s.mutes.talkKey p { pressed := k.talk, guardAge := 100 }
      allKey := Vec.put s.mutes.allKey p { pressed := k.all, guardAge := 100 }
      reasons := Vec.put s.mutes.reasons p
        { s.mutes.reasons[p] with
          fault := false, key := (s.mutes.keyMode[p]).keyAfter (s.mutes.reasons[p]).key k.talk } } := by
  have hreason : (((s.lockGained p l c).setAllKey p { pressed := k.all, guardAge := 100 }).setTalkKey p
      { pressed := k.talk, guardAge := 100 }).mutes.reasons[p] = { s.mutes.reasons[p] with fault := false } :=
    lockGained_reason (l := l) (c := c)
  rw [takeKeys_of_first hk, keyFollows_eq, setReasons_mutes, hreason]
  simp only [State.setTalkKey, State.setAllKey, State.lockGained, Vec.put_put]

/-- R87, R92: with the gate shut, KEY of a first take moves the local mute ramp alone. -/
theorem firstTake_of_shut (hk : k.first = true) (hg : (s.gate p).state.Shut) :
    let t := (s.lockGained p l c).takeKeys (Vec.tab fun q => if q = p then some k else none)
    t.automixer = s.automixer ∧ t.ramps = s.faultGone p t.mutes.reasons[p] := by
  intro t
  have ht : t.mutes.reasons[p] = { s.mutes.reasons[p] with
      fault := false, key := (s.mutes.keyMode[p]).keyAfter (s.mutes.reasons[p]).key k.talk } := by
    simp only [t]
    rw [firstTake_mutes hk]
    exact Vec.getElem_put_self _ _ _
  let w := ((s.lockGained p l c).setAllKey p { pressed := k.all, guardAge := 100 }).setTalkKey p
    { pressed := k.talk, guardAge := 100 }
  have hreason : w.mutes.reasons[p] = { s.mutes.reasons[p] with fault := false } :=
    lockGained_reason (l := l) (c := c)
  have hshut : (w.gate p).state.Shut := hg
  rw [ht]
  simp only [t]
  rw [takeKeys_of_first hk, keyFollows_eq, setReasons_of_shut (s := w) (fun _ _ => hshut), hreason]
  refine ⟨rfl, ?_⟩
  simp [w, State.withReasons, State.setTalkKey, State.setAllKey, State.lockGained, State.faultGone, Ramp.muteChange_self]

/-- R93: a take that is not the first, with the accepted levels, gives no edge. -/
theorem takeKeys_of_no_edge (hk : k.first = false) (htalk : k.talk = (s.mutes.talkKey[p]).pressed)
    (hall : k.all = (s.mutes.allKey[p]).pressed) :
    s.takeKeys (Vec.tab fun q => if q = p then some k else none) = s := by
  refine takeKeys_of_pressed fun q j hj => ?_
  rw [Fin.getElem_fin, Vec.getElem_tab] at hj
  split at hj
  · rename_i hq
    obtain rfl : q = p := hq
    obtain rfl : k = j := by simpa using hj
    exact ⟨hk, htalk, hall⟩
  · simp at hj

end

/-- R32, R42, R92: SETTLE_DONE as a command. -/
theorem lockAndSettle_settling (p : Pod) (f : MicFrame) (rest : List MicFrame) (s : State) (hs : s.outOfReset) :
    let l := s.links[p]
    l.state = .settling → l.fifo = f :: rest → s.linkParams.settleFrames ≤ l.settleCounter + 1 →
      ∃ t : State, exec (.settleDone p) s = .next t ∧
        t.links = Vec.put s.links p
          { l with state := .locked, fifo := rest, lastTaken := f, firstTake := false,
                   settleCounter := l.settleCounter + 1, coastRun := 0 } ∧
        (t.mutes.reasons[p]).fault = false ∧
        (l.firstTake = true → t.mutes.talkKey[p] = { pressed := f.talk, guardAge := 100 } ∧
          t.mutes.allKey[p] = { pressed := f.all, guardAge := 100 } ∧
          (t.mutes.reasons[p]).key = (s.mutes.keyMode[p]).keyAfter (s.mutes.reasons[p]).key f.talk ∧
          ∀ q : Pod, q ≠ p → t.mutes.reasons[q] = s.mutes.reasons[q]) ∧
        (GatesSound s → FaultSound s →
          l.firstTake = true ∨ (f.talk = (s.mutes.talkKey[p]).pressed ∧ f.all = (s.mutes.allKey[p]).pressed) →
          t.mutes.reasons[p] = { s.mutes.reasons[p] with fault := false, key := (t.mutes.reasons[p]).key } ∧
          (l.firstTake = false → (t.mutes.reasons[p]).key = (s.mutes.reasons[p]).key) ∧
          t.automixer = s.automixer ∧ t.ramps = s.faultGone p t.mutes.reasons[p]) ∧
        t.session = s.session ∧ t.store = s.store ∧ t.players = s.players ∧ t.alc = s.alc ∧ t.router = s.router ∧
        t.detectors = s.detectors ∧ t.inputs = s.inputs := by
  intro l hl hfifo hcount
  have hexec := exec_settleDone_of_boundary hs (boundary_of_settled hl hfifo hcount) rfl
  obtain ⟨e, he⟩ := handOn_eq_lockGained (p := p) (l := { l with
    state := .locked, fifo := rest, lastTaken := f, firstTake := false, settleCounter := l.settleCounter + 1, coastRun := 0 })
    (c := ⟨.settling, .locked, .settleDone⟩) s s.control rfl rfl
  rw [moveLink_one, show State.handOn p _ _ = _ from he] at hexec
  set k : KeyLevels := { talk := f.talk, all := f.all, first := l.firstTake } with hk
  rw [show (Yield.frame f s.links[p].firstTake).keys = some k from rfl] at hexec
  set u := s.lockGained p { l with
    state := .locked, fifo := rest, lastTaken := f, firstTake := false, settleCounter := l.settleCounter + 1, coastRun := 0 } e
    with hu
  refine ⟨_, hexec, (takeKeys_moves u _).frame .links (by decide), ?_, fun hfirst => ?_, fun hg hf hedge => ?_, takeKeys_frame _ u⟩
  · rw [(takeKeys_faultsKept u _).fault p, hu, lockGained_reason]
  · rw [firstTake_mutes hfirst]
    exact ⟨Vec.getElem_put_self _ _ _, Vec.getElem_put_self _ _ _, congrArg Reasons.key (Vec.getElem_put_self _ _ _),
      fun q hq => Vec.getElem_put_ne _ _ _ _ q.2 fun h => hq (Fin.ext h).symm⟩
  · cases hfirst : (l.firstTake : Bool) with
    | true =>
      obtain ⟨hautomixer, hramps⟩ := firstTake_of_shut (l := { l with
        state := .locked, fifo := rest, lastTaken := f, firstTake := false, settleCounter := l.settleCounter + 1, coastRun := 0 })
        (c := e) (k := k) hfirst (shut_of_settling hg hf hl)
      refine ⟨?_, fun h => absurd h (by decide), hautomixer, hramps⟩
      rw [firstTake_mutes hfirst, Fin.getElem_fin, Vec.getElem_put_self]
    | false =>
      rw [hfirst] at hedge
      obtain ⟨htalk, hall⟩ := hedge.resolve_left (by decide)
      rw [takeKeys_of_no_edge (s := u) (k := k) hfirst htalk hall, hu, lockGained_reason]
      exact ⟨rfl, fun _ => rfl, rfl, rfl⟩

/-- Settles O28: a lock completed in ACQUIRING and by the first frame, and the take that ends the settling. -/
theorem lockAndSettle : Obligations.LockAndSettle := by
  have gained {p : Pod} {l : Link} {s : State} {c : Instr} (h : ∃ e : Control, exec c s = .next (s.lockGained p l e)) :
      ∃ t : State, exec c s = .next t ∧ t.links = Vec.put s.links p l ∧
        t.mutes.reasons = Vec.put s.mutes.reasons p { s.mutes.reasons[p] with fault := false } ∧
        t.ramps = s.faultGone p { s.mutes.reasons[p] with fault := false } ∧ t.session = s.session ∧ t.store = s.store ∧
        t.players = s.players ∧ t.alc = s.alc ∧ t.router = s.router ∧ t.detectors = s.detectors ∧
        t.automixer = s.automixer := by
    obtain ⟨e, he⟩ := h
    exact ⟨_, he, rfl, rfl, rfl, rfl, rfl, rfl, rfl, rfl, rfl, rfl⟩
  refine ⟨?_, ?_, lockAndSettle_settling⟩
  · intro p f s hs l count hl hcount
    obtain ⟨hsettle, hzero, harrival⟩ := lockAndSettle_acquiring p f s hs hl hcount
    exact ⟨hsettle, fun h => gained (hzero h), harrival⟩
  · intro p f candidate s hs hl hq hf
    obtain ⟨harrival, hsettle, hzero⟩ := lockAndSettle_absent p f candidate s hs hl hq hf
    exact ⟨harrival, hsettle, fun h => gained (hzero h)⟩

end Sys2Proof.Machine
end

section
/-! How a silent or empty link goes to ABSENT (R31, R33, R34), and how a restart drops a lock (R36): O30, O29. -/

namespace Sys2Proof.Machine

/-! ### The automixer's parameters -/

/-- A mute moves no parameter of the automixer, neither those in force nor those taken for the next boundary (R64). -/
def ParamsKept (s t : State) : Prop :=
  t.automixer.params = s.automixer.params ∧ t.automixer.pendingParams = s.automixer.pendingParams

theorem ParamsKept.of_automixer {s t : State} (h : t.automixer = s.automixer) : ParamsKept s t := by
  rw [ParamsKept, h]
  exact ⟨rfl, rfl⟩

theorem ParamsKept.trans {s t u : State} (h : ParamsKept s t) (h' : ParamsKept t u) : ParamsKept s u :=
  ⟨h'.1.trans h.1, h'.2.trans h.2⟩

theorem closeForMute_paramsKept (p : Pod) (s : State) : ParamsKept s (s.closeForMute p) := by
  by_cases h : (s.gate p).state.Shut
  · rw [closeForMute_of_shut h]
    exact .of_automixer rfl
  · rw [closeForMute_of_active h, ParamsKept, State.retargetGate_automixer, releaseGate_automixer]
    exact ⟨rfl, rfl⟩

theorem setReasons_paramsKept (p : Pod) (r : Reasons) (s : State) : ParamsKept s (s.setReasons p r) := by
  rw [setReasons_eq]
  split
  · exact closeForMute_paramsKept p (s.withReasons p r)
  · exact .of_automixer rfl

theorem gainFault_paramsKept (p : Pod) (s : State) : ParamsKept s (s.gainFault p) :=
  (setReasons_paramsKept p _ s).trans (.of_automixer rfl)

theorem revertKeys_paramsKept (p : Pod) (s : State) : ParamsKept s (s.revertKeys p) := by
  unfold State.revertKeys
  rw [keyFollows_eq]
  exact ParamsKept.trans (t := (s.setTalkKey p { s.mutes.talkKey[p] with pressed := false }).setAllKey p
    { s.mutes.allKey[p] with pressed := false }) (.of_automixer rfl) (setReasons_paramsKept p _ _)

/-! ### Trusted links that are lost -/

section
variable {p : Pod} {c : LinkChange}

/-- R42, R95, R101: a trusted link goes to ABSENT. -/
theorem handOn_of_absent (s : State) (hb : c.before.trusted = true) (ha : c.after = .absent) :
    State.handOn p s c = (((s.linkEvent p c).gainFault p).revertKeys p).leaveTalkList p .dropped := by
  have htakes : c.before.takes = true := by
    cases h : c.before with
    | locked | coasting => rfl
    | off | absent | acquiring | settling => rw [h] at hb; cases hb
  rw [State.handOn, State.faultFollows, State.keysFollow, hb, htakes, ha]
  rfl

/-- R42, R95: a trusted link starts to acquire again; the talk-request list stays. -/
theorem handOn_of_dropped (s : State) (hb : c.before.trusted = true) (ha : c.after = .acquiring) :
    State.handOn p s c = ((s.linkEvent p c).gainFault p).revertKeys p := by
  have htakes : c.before.takes = true := by
    cases h : c.before with
    | locked | coasting => rfl
    | off | absent | acquiring | settling => rw [h] at hb; cases hb
  rw [State.handOn, State.faultFollows, State.keysFollow, hb, htakes, ha]
  rfl

/-- R95: a link that settles starts to acquire again. -/
theorem handOn_of_unsettled (s : State) (hb : c.before = .settling) (ha : c.after = .acquiring) :
    State.handOn p s c = (s.linkEvent p c).revertKeys p := by
  rw [State.handOn, State.faultFollows, State.keysFollow, hb, ha]
  rfl

end

/-! ### Silence and unlock -/

section
variable {l : Link} {q : LinkParams}

/-- R31: the silence run reaches the unlock count. -/
theorem boundary_of_silence (h : l.state = .acquiring) (hq : q.unlockCount ≤ if l.arrivalSeen then 0 else l.silenceRun + 1) :
    l.boundary q = ({ l with state := .absent, goodCount := 0, silenceRun := 0, arrivalSeen := false }, .nothing,
      [⟨.acquiring, .absent, .silence⟩]) := by
  rw [Link.boundary, h]
  simp only [Link.acquiringBoundary]
  rw [if_pos (by exact hq)]

/-- R34: the coast run reaches the unlock count. -/
theorem boundary_of_unlock (h : l.state.trusted = true) (hf : l.fifo = []) (hq : q.unlockCount ≤ l.nextCoastRun) :
    l.boundary q = (l.unlocked, .nothing, [⟨l.state, .absent, .unlock⟩]) := by
  rw [Link.boundary_empty q h hf, Link.emptyTake, if_pos hq]

end

theorem trusted_iff {x : LinkState} : x.trusted = true ↔ x = .locked ∨ x = .coasting := by cases x <;> decide

/-- R87: a mute ramp depends on a reason set by whether it mutes. -/
theorem Ramp.muteChange_congr {n : Nat} {r r' x x' : Reasons} (h : r.muted = x.muted) (h' : r'.muted = x'.muted)
    (y : Ramp) : y.muteChange n r r' = y.muteChange n x x' := by
  rw [Ramp.muteChange, Ramp.muteChange, h, h']

section
variable {p : Pod} {gate : Ramp} {list : List Pod} {s t : State} (h : LockLost p gate list s t)
include h

theorem LockLost.reason : t.mutes.reasons[p] =
    { s.mutes.reasons[p] with
      fault := true, key := (s.mutes.keyMode[p]).keyAfter (s.mutes.reasons[p]).key false } := by
  rw [h.mutes]
  exact Vec.getElem_put_self _ _ _

theorem LockLost.talkKey : t.mutes.talkKey[p] = { s.mutes.talkKey[p] with pressed := false } := by
  rw [h.mutes]
  exact Vec.getElem_put_self _ _ _

theorem LockLost.allKey : t.mutes.allKey[p] = { s.mutes.allKey[p] with pressed := false } := by
  rw [h.mutes]
  exact Vec.getElem_put_self _ _ _

theorem LockLost.gateRamp : t.ramps.gate[p] = gate := by
  rw [h.ramps]
  exact Vec.getElem_put_self _ _ _

theorem LockLost.localMuteRamp : t.ramps.localMute[p] =
    (s.ramps.localMute[p]).muteChange s.mutes.rampLength s.mutes.reasons[p] { s.mutes.reasons[p] with fault := true } := by
  rw [h.ramps]
  exact Vec.getElem_put_self _ _ _

theorem LockLost.others (hg : GatesSound s) (q : Pod) (hq : q ≠ p) :
    t.mutes.reasons[q] = s.mutes.reasons[q] ∧ t.gate q = s.gate q := by
  refine ⟨?_, (h.gates hg).others q hq⟩
  rw [h.mutes]
  exact Vec.getElem_put_ne _ _ _ _ q.2 fun e => hq (Fin.ext e).symm

end

/-- The loss of a lock, where the link has moved and the move was reported. -/
theorem lockLost_of_moved {p : Pod} {s u : State} (hm : u.mutes = s.mutes) (hr : u.ramps = s.ramps)
    (ha : u.automixer = s.automixer) :
    LockLost p ((s.ramps.gate[p]).jump 0) s.mutes.talkList s ((u.gainFault p).revertKeys p) := by
  rw [← hr, ← hm]
  exact (lockLost_of_trusted p u).of_control hm hr ha

/-- Settles O30: an ACQUIRING link that is silent, and a trusted link whose FIFO stays empty. -/
theorem silenceAndUnlock : Obligations.SilenceAndUnlock := by
  intro p s hs l run
  refine ⟨fun hl hq => ?_, fun hl hfifo hq hg => ?_⟩
  · intro u left
    rw [exec_silence_of_boundary hs (boundary_of_silence hl hq) rfl, moveLink_one]
    have hand : State.handOn p
        { s with
          links := Vec.put s.links p { l with state := .absent, goodCount := 0, silenceRun := 0, arrivalSeen := false } }
        ⟨.acquiring, .absent, .silence⟩ = u.leaveTalkList p .dropped := rfl
    have hu : u.mutes = s.mutes := State.post_mutes _ _ _ _
    rw [hand, State.leaveTalkList, hu, filter_bne]
    refine congrArg Host.Outcome.next (if_congr Iff.rfl ?_ rfl)
    rw [State.talkReport, State.setTalkList, hu]
    rfl
  · have hexec := exec_unlock_of_boundary hs (boundary_of_unlock (trusted_iff.2 hl) hfifo hq) rfl
    have hlost : LockLost p ((s.ramps.gate[p]).jump 0) (s.mutes.talkList.filter (· ≠ p)) s
        (s.moveLink p l.unlocked [⟨l.state, .absent, .unlock⟩]) := by
      rw [moveLink_one, handOn_of_absent _ (trusted_iff.2 hl) rfl]
      exact (lockLost_of_moved (by simp) (by simp) (by simp)).leaveTalkList .dropped
    obtain ⟨hshut, _, hothers⟩ := hlost.gates hg
    refine ⟨_, hexec, by simp only [State.moveLink_links]; rfl, ?_, ?_, hlost.reason, ?_, hshut, ?_, ?_, ?_,
      hlost.others hg, by simp⟩
    · rw [hlost.reason]
    · rw [hlost.gateRamp]
      rfl
    · rw [hlost.ramps, hlost.reason]
      rw [Ramp.muteChange_congr rfl]
      exact (Reasons.muted_of_fault rfl).trans (Reasons.muted_of_fault rfl).symm
    · rw [hlost.mutes]
    · rw [hlost.talkKey]
    · rw [hlost.allKey]

/-! ### The restart -/

/-- What the restart of a link whose frame is taken makes of it (R36). -/
def Link.acquiringAnew (f : MicFrame) (l : Link) : Link :=
  { l with state := .acquiring, fifo := [], goodCount := 1, expected := f.sequence + 1, silenceRun := 0,
           arrivalSeen := true, settleCounter := 0, coastRun := 0, restartRun := 0, lastRestart := f.sequence }

section
variable {l : Link} {q : LinkParams} {f : MicFrame}

/-- R36: the fourth frame of a restart run. -/
theorem arrive_of_restart (h : l.state.takes = true) (ha : q.window < (f.sequence - l.expected).toNat)
    (hl : q.window < (l.expected - f.sequence).toNat) (hr : 3 ≤ l.restartRun) (hn : f.sequence = l.lastRestart + 1) :
    l.arrive q f =
      let r := (l.acquiringAnew f).countLock q f
      (r.1, ⟨l.state, .acquiring, .restart⟩ :: r.2) := by
  have hrun : 4 ≤ l.nextRestartRun f.sequence := by
    rw [Link.nextRestartRun, if_pos ⟨by omega, hn⟩]
    omega
  rw [arrive_of_out h ha hl, Link.outOfWindow, if_pos hrun]
  rfl

end

/-- What FAULT makes of the gate ramp of a link that restarts (R74). -/
def State.restartedGate (p : Pod) (s : State) : Ramp :=
  if (s.links[p]).state.trusted then (s.ramps.gate[p]).jump 0 else s.ramps.gate[p]

theorem takes_iff {x : LinkState} : x.takes = true ↔ x = .settling ∨ x.trusted = true := by cases x <;> decide

section
variable {p : Pod} {l : Link} {s : State} (htakes : (s.links[p]).state.takes = true)
include htakes

/-- The state after a restart, before a new lock is completed. -/
theorem handOn_restart (hf : FaultSound s) :
    let c : LinkChange := ⟨(s.links[p]).state, .acquiring, .restart⟩
    let t := State.handOn p { s with links := Vec.put s.links p l } c
    LockLost p (s.restartedGate p) s.mutes.talkList s t ∧ ParamsKept s t ∧
      ((s.links[p]).state = .settling → t.automixer = s.automixer) := by
  intro c t
  let u := State.linkEvent p c { s with links := Vec.put s.links p l }
  have hmutes : u.mutes = s.mutes := State.linkEvent_mutes _ _ _
  have hramps : u.ramps = s.ramps := State.linkEvent_ramps _ _ _
  have hautomixer : u.automixer = s.automixer := State.linkEvent_automixer _ _ _
  rcases takes_iff.1 htakes with h | h
  · have ht : t = u.revertKeys p := handOn_of_unsettled _ h rfl
    have hfault : (u.mutes.reasons[p]).fault = true := by
      rw [hmutes, (hf p).1, h]
      rfl
    rw [ht, State.restartedGate, h]
    refine ⟨?_, (ParamsKept.of_automixer hautomixer).trans (revertKeys_paramsKept p u), fun _ => ?_⟩
    · rw [← hmutes, if_neg (by decide), ← hramps]
      exact (lockLost_of_settling hfault).of_control hmutes hramps hautomixer
    · rw [revertKeys_of_fault hfault]
      exact hautomixer
  · have ht : t = (u.gainFault p).revertKeys p := handOn_of_dropped _ h rfl
    rw [ht, State.restartedGate, if_pos h]
    refine ⟨lockLost_of_moved hmutes hramps hautomixer, ?_, fun h' => ?_⟩
    · exact (ParamsKept.of_automixer hautomixer).trans
        ((gainFault_paramsKept p u).trans (revertKeys_paramsKept p _))
    · rw [h'] at h
      cases h

end

section
variable {p : Pod} {gate : Ramp} {list : List Pod} {s d : State}

/-- R42, R74: a lock completed after the loss of one. -/
theorem LockLost.relock (h : LockLost p gate list s d) (hd : ParamsKept s d) {c : LinkChange}
    (hb : c.before.trusted = false) (ha : c.after.trusted = true) :
    let t := State.handOn p d c
    let old := s.mutes.reasons[p]
    let muted := (s.ramps.localMute[p]).muteChange s.mutes.rampLength old { old with fault := true }
    t.mutes = { d.mutes with
      reasons := Vec.put s.mutes.reasons p
        { old with fault := false, key := (s.mutes.keyMode[p]).keyAfter old.key false } } ∧
    t.ramps = { s.ramps with
      gate := Vec.put s.ramps.gate p (gate.calledFor s.automixer.params (t.gate p).state)
      localMute := Vec.put s.ramps.localMute p
        (muted.muteChange s.mutes.rampLength { old with fault := true } t.mutes.reasons[p]) } ∧
    t.automixer = d.automixer := by
  intro t old muted
  have ht : t = (d.linkEvent p c).loseFault p := handOn_of_trusting d hb ha
  have hmutes : t.mutes = { d.mutes with
      reasons := Vec.put s.mutes.reasons p
        { old with fault := false, key := (s.mutes.keyMode[p]).keyAfter old.key false } } := by
    rw [ht, loseFault_eq]
    simp only [State.withReasons, State.linkEvent_mutes]
    rw [h.reason, h.mutes]
    simp only [Vec.put_put]
    rfl
  have hautomixer : t.automixer = d.automixer := by
    rw [ht, loseFault_eq]
    exact State.linkEvent_automixer p c d
  refine ⟨hmutes, ?_, hautomixer⟩
  have hreason : t.mutes.reasons[p] = { old with fault := false, key := (s.mutes.keyMode[p]).keyAfter old.key false } := by
    rw [hmutes]
    exact Vec.getElem_put_self _ _ _
  rw [hreason, State.gate, hautomixer, ht, loseFault_eq]
  simp only [State.withReasons, State.linkEvent_mutes, State.linkEvent_ramps, State.linkEvent_automixer, State.gate]
  rw [h.reason, h.gateRamp, h.localMuteRamp]
  simp only [h.ramps, h.mutes, Vec.put_put, hd.1]
  rw [Ramp.muteChange_congr (r := { old with fault := true, key := (s.mutes.keyMode[p]).keyAfter old.key false })
    (x := { old with fault := true }) (by simp [Reasons.muted]) rfl]

end

theorem LockLost.linkEvent {p : Pod} {gate : Ramp} {list : List Pod} {s d : State} (h : LockLost p gate list s d)
    (c : LinkChange) : LockLost p gate list s (d.linkEvent p c) := by
  refine ⟨?_, ?_, fun hg => (h.gates hg).of_automixer (State.linkEvent_automixer p c d)⟩
  · rw [State.linkEvent_mutes, h.mutes]
  · rw [State.linkEvent_ramps, h.ramps]

/-- R36: the state after a restart has lost its lock, and with lock count 1 and settle frames 0 gained another. -/
theorem restart_cases {p : Pod} {f : MicFrame} {s : State} (hf : FaultSound s)
    (htakes : (s.links[p]).state.takes = true) :
    let r := ((s.links[p]).acquiringAnew f).countLock s.linkParams f
    let t := s.moveLink p r.1 (⟨(s.links[p]).state, .acquiring, .restart⟩ :: r.2)
    (¬ (s.linkParams.lockCount ≤ 1 ∧ s.linkParams.settleFrames = 0) ∧
      LockLost p (s.restartedGate p) s.mutes.talkList s t ∧
      ((s.links[p]).state = .settling → t.automixer = s.automixer)) ∨
    ((s.linkParams.lockCount ≤ 1 ∧ s.linkParams.settleFrames = 0) ∧
      ∃ d : State, LockLost p (s.restartedGate p) s.mutes.talkList s d ∧ ParamsKept s d ∧
        ((s.links[p]).state = .settling → d.automixer = s.automixer) ∧
        t = State.handOn p d ⟨.acquiring, .locked, .lockCount⟩) := by
  intro r t
  obtain ⟨hlost, hparams, hsame⟩ := handOn_restart htakes (l := r.1) hf
  by_cases hlock : s.linkParams.lockCount ≤ 1
  · have hr : r = ((s.links[p]).acquiringAnew f).completeLock s.linkParams f := countLock_of_reached hlock
    by_cases hsettle : s.linkParams.settleFrames = 0
    · rw [completeLock_of_zero hsettle] at hr
      refine .inr ⟨⟨hlock, hsettle⟩, _, hlost, hparams, hsame, ?_⟩
      simp only [t, show r.2 = [⟨.acquiring, .locked, .lockCount⟩] by rw [hr]]
      rfl
    · rw [completeLock_of_settle (by omega)] at hr
      have ht : t = State.linkEvent p ⟨.acquiring, .settling, .lockCount⟩ (State.handOn p
          { s with links := Vec.put s.links p r.1 } ⟨(s.links[p]).state, .acquiring, .restart⟩) := by
        simp only [t, show r.2 = [⟨.acquiring, .settling, .lockCount⟩] by rw [hr]]
        exact handOn_of_event (c := ⟨.acquiring, .settling, .lockCount⟩) _ rfl (by decide) (by decide)
      refine .inl ⟨fun h => hsettle h.2, ?_⟩
      rw [ht]
      exact ⟨hlost.linkEvent _, fun h => (State.linkEvent_automixer _ _ _).trans (hsame h)⟩
  · have hr : r = ((s.links[p]).acquiringAnew f, []) := countLock_of_short (Nat.lt_of_not_le hlock)
    have ht : t = State.handOn p { s with links := Vec.put s.links p r.1 }
        ⟨(s.links[p]).state, .acquiring, .restart⟩ := by
      simp only [t, show r.2 = [] by rw [hr]]
      rfl
    refine .inl ⟨fun h => hlock h.1, ?_⟩
    rw [ht]
    exact ⟨hlost, hsame⟩

/-- R24: a target leaves a pending jump pending. -/
theorem setTarget_pendingJump (target length : Nat) (r : Ramp) : (r.setTarget target length).pendingJump = r.pendingJump := by
  unfold Ramp.setTarget
  split <;> rfl

theorem calledFor_pendingJump (q : AutomixParams) (g : GateState) (r : Ramp) :
    (r.calledFor q g).pendingJump = r.pendingJump := by
  cases g <;> exact setTarget_pendingJump _ _ r

/-- Settles O29: the restart drops the lock; with lock count 1 a new lock follows it. -/
theorem restartDropsTheLock : Obligations.RestartDropsTheLock := by
  intro p f s hs hg hf l relocks locksAtOnce old acquiring relocked htakes hahead hlate hrun hseq
  have harrive : l.arrive s.linkParams f = _ := arrive_of_restart htakes hahead hlate hrun hseq
  refine ⟨_, exec_restart_of_arrive hs harrive rfl, fun candidate hc => exec_micFrameArrival_of_arrive hs hc harrive,
    fun h => ?_, fun h => ?_, ?_⟩
  · rw [State.moveLink_links, countLock_of_short (Nat.lt_of_not_le h)]
    rfl
  · rw [State.moveLink_links, countLock_of_reached h]
    by_cases hsettle : s.linkParams.settleFrames = 0
    · rw [completeLock_of_zero hsettle]
      simp only [relocked, if_pos hsettle]
      rfl
    · rw [completeLock_of_settle (by omega)]
      simp only [relocked, if_neg hsettle]
      rfl
  have hkept (l : Link) (changes : List LinkChange) :
      let t := s.moveLink p l changes
      t.session = s.session ∧ t.store = s.store ∧ t.players = s.players ∧ t.alc = s.alc ∧ t.router = s.router := by simp
  rcases restart_cases (f := f) hf htakes with ⟨hnot, hlost, hsame⟩ | ⟨honce, d, hlost, hparams, hsame, ht⟩
  · rw [show decide locksAtOnce = false from decide_eq_false hnot]
    obtain ⟨hshut, hunqueued, _⟩ := hlost.gates hg
    refine ⟨by rw [hlost.reason]; rfl, hlost.reason, ?_, fun h => ⟨?_, hshut, hunqueued⟩, hsame, by rw [hlost.talkKey],
      by rw [hlost.allKey], by rw [hlost.talkKey], by rw [hlost.mutes], hlost.others hg, hkept _ _⟩
    · intro jumped muted
      rw [if_neg hnot]
      exact hlost.ramps
    · rw [hlost.gateRamp, State.restartedGate, if_pos h]
      rfl
  · rw [show decide locksAtOnce = true from decide_eq_true honce, ht]
    obtain ⟨hmutes, hramps, hautomixer⟩ := hlost.relock hparams (c := ⟨.acquiring, .locked, .lockCount⟩) rfl rfl
    obtain ⟨hshut, hunqueued, hothers⟩ := (hlost.gates hg).of_automixer hautomixer
    set t := State.handOn p d ⟨.acquiring, .locked, .lockCount⟩
    have hreason : t.mutes.reasons[p] =
        { old with fault := false, key := (s.mutes.keyMode[p]).keyAfter old.key false } := by
      rw [hmutes]
      exact Vec.getElem_put_self _ _ _
    refine ⟨by rw [hreason]; rfl, hreason, ?_, fun h => ⟨?_, hshut, hunqueued⟩, fun h => hautomixer.trans (hsame h), ?_, ?_,
      ?_, ?_, fun q hq => ⟨?_, hothers q hq⟩, ht ▸ hkept _ _⟩
    · intro jumped muted
      rw [if_pos honce]
      exact hramps
    · have hput : t.ramps.gate[p] = Ramp.calledFor s.automixer.params (t.gate p).state (s.restartedGate p) := by
        rw [hramps]
        exact Vec.getElem_put_self _ _ _
      rw [hput, calledFor_pendingJump, State.restartedGate, if_pos h]
      rfl
    · rw [hmutes]
      exact congrArg KeyRecord.pressed hlost.talkKey
    · rw [hmutes]
      exact congrArg KeyRecord.pressed hlost.allKey
    · rw [hmutes]
      exact (congrArg KeyRecord.guardAge hlost.talkKey).trans rfl
    · rw [hmutes, hlost.mutes]
    · rw [hmutes]
      exact Vec.getElem_put_ne _ _ _ _ q.2 fun e => hq (Fin.ext e).symm

end Sys2Proof.Machine
end

section
/-! What a roster change does to one pod (R182). -/

namespace Sys2Proof.Machine

/-! ### Reports in a row -/

/-- A report with its category, its type and its fields. -/
abbrev Report := Category × Byte × List Byte

/-- R198: what a report makes of the control link. -/
def Control.report (c : Control) (e : Report) : Control :=
  if c.mask.getLsbD e.1.bit then c.enqueueReport e.2.1 e.2.2 else c

/-- The reports of a list, posted in its order. -/
def State.reported (l : List Report) (s : State) : State := { s with control := l.foldl Control.report s.control }

theorem post_eq_reported (e : Report) (s : State) : s.post e.1 e.2.1 e.2.2 = s.reported [e] := by
  rw [post_eq, post_control]
  rfl

theorem foldl_post_eq_reported (l : List Report) (s : State) :
    l.foldl (fun t e => t.post e.1 e.2.1 e.2.2) s = s.reported l := by
  induction l generalizing s with
  | nil => rfl
  | cons e l ih => rw [List.foldl_cons, ih, post_eq_reported, State.reported, State.reported, List.foldl_cons]; rfl

/-! ### The sides of a pod -/

@[simp] theorem Vec.put_getElem_val {α : Type} {n : Nat} (v : Vector α n) (i : Fin n) : Vec.put v i v[i.1] = v :=
  Vec.put_same v i

/-- What a roster change can move of one pod. -/
structure PodSide where
  link : Link
  gate : Gate
  reasons : Reasons
  talkKey : KeyRecord
  allKey : KeyRecord
  localMute : Ramp
  gateRamp : Ramp

def State.podSide (p : Pod) (s : State) : PodSide :=
  { link := s.links[p], gate := s.gate p, reasons := s.mutes.reasons[p], talkKey := s.mutes.talkKey[p]
    allKey := s.mutes.allKey[p], localMute := s.ramps.localMute[p], gateRamp := s.ramps.gate[p] }

/-- The state with the side of a pod as given, the lists that the pod leaves, and reports. -/
def State.putPod (p : Pod) (x : PodSide) (keeps dropped : Bool) (reports : List Report) (s : State) : State :=
  { s with
    links := Vec.put s.links p x.link
    automixer := { s.automixer with
      gates := Vec.put s.automixer.gates p x.gate
      waitQueue := if keeps then s.automixer.waitQueue else s.automixer.waitQueue.filter (· ≠ p)
      collected := if keeps then s.automixer.collected else s.automixer.collected.filter (· ≠ p) }
    mutes := { s.mutes with
      reasons := Vec.put s.mutes.reasons p x.reasons
      talkKey := Vec.put s.mutes.talkKey p x.talkKey
      allKey := Vec.put s.mutes.allKey p x.allKey
      talkList := if dropped then s.mutes.talkList.filter (· ≠ p) else s.mutes.talkList }
    ramps := { s.ramps with
      localMute := Vec.put s.ramps.localMute p x.localMute
      gate := Vec.put s.ramps.gate p x.gateRamp }
    control := reports.foldl Control.report s.control }

theorem putPod_podSide (p : Pod) (s : State) : s.putPod p (s.podSide p) true false [] = s := by
  simp only [State.putPod, State.podSide, State.gate, if_true, List.foldl_nil]
  simp only [Vec.put_same]
  rfl

namespace RosterChange

/-! ### The differences, in the words of R182 -/

section
variable (old new : Roster) (s : State) (p : Pod)

def leaves : Bool := old.pods[p] && !new.pods[p]

def enters : Bool := !old.pods[p] && new.pods[p]

def crowned : Bool := new.chairs[p] && (enters old new p || !old.chairs[p])

def deposed : Bool := old.pods[p] && new.pods[p] && old.chairs[p] && !new.chairs[p]

def delegate : Bool := deposed old new p || (enters old new p && !new.chairs[p])

/-- R42, R95, R99: the reason set. -/
def reasons : Reasons :=
  let o := s.mutes.reasons[p]
  if leaves old new p then
    { o with
      chair := false, fault := true
      key := if (s.links[p]).state.takes then (s.mutes.keyMode[p]).keyAfter o.key false else o.key }
  else { o with chair := !crowned old new p && (o.chair || (delegate old new p && s.mutes.chairMute)) }

/-- R73: a delegate's mute closes the gate. -/
def muted : Bool :=
  deposed old new p && !(s.mutes.reasons[p]).muted && (reasons old new s p).muted &&
    decide ((s.gate p).state ≠ .closed ∧ (s.gate p).state ≠ .bypass)

def bypassed : Bool := enters old new p && decide ((s.gate p).mode = .bypass)

def keeps : Bool := !(leaves old new p || bypassed old new s p || muted old new s p)

def dropped : Bool := leaves old new p || crowned old new p

def released (k : KeyRecord) : KeyRecord :=
  if leaves old new p && (s.links[p]).state.takes then { k with pressed := false } else k

/-- R29, R35: the link. -/
def link : Link :=
  if leaves old new p then { s.links[p] with
    state := .off, fifo := [], expected := 0, goodCount := 0, silenceRun := 0, settleCounter := 0
    coastRun := 0, restartRun := 0, arrivalSeen := false, firstTake := false, lastTaken := MicFrame.blank }
  else if enters old new p then { s.links[p] with state := .absent, feedSequence := 0 } else s.links[p]

/-- R75: the gate. -/
def gate : Gate :=
  { s.gate p with
    priority := if crowned old new p then 3 else if deposed old new p || (leaves old new p && old.chairs[p]) then 0
      else (s.gate p).priority
    state := if bypassed old new s p then .bypass else if leaves old new p || muted old new s p then .closed
      else (s.gate p).state
    count := if keeps old new s p then (s.gate p).count else 0 }

/-- R74: the gate ramp. -/
def gateRamp : Ramp :=
  if leaves old new p && (s.links[p]).state.trusted then (s.ramps.gate[p]).jump 0
  else if muted old new s p then
    (s.ramps.gate[p]).setTarget (lin15 s.automixer.params.offAttenuation) s.automixer.params.release
  else s.ramps.gate[p]

def side : PodSide :=
  { link := link old new s p, gate := gate old new s p, reasons := reasons old new s p
    talkKey := released old new s p s.mutes.talkKey[p], allKey := released old new s p s.mutes.allKey[p]
    localMute :=
      (s.ramps.localMute[p]).muteChange s.mutes.rampLength s.mutes.reasons[p] (reasons old new s p)
    gateRamp := gateRamp old new s p }

/-- R43, R84, R101: the reports of one pod; the talk-request list counts `listed` pods after it. -/
def reports (listed : Nat) : List Report :=
  (if leaves old new p then [(.link, 0xE2, [podByte p, (s.links[p]).state.code, 0, 0])]
    else if enters old new p then [(.link, 0xE2, [podByte p, 0, 1, 0])] else []) ++
  (if leaves old new p = true ∧ (s.gate p).state ≠ .closed then [(.gate, 0xE5, [podByte p, (s.gate p).state.code, 0, 8])]
    else if bypassed old new s p then [(.gate, 0xE5, [podByte p, (s.gate p).state.code, 5, 8])]
    else if muted old new s p then [(.gate, 0xE5, [podByte p, (s.gate p).state.code, 0, 6])] else []) ++
  if dropped old new p = true ∧ p ∈ s.mutes.talkList then [(.key, 0xE4, [4, podByte p, u8 listed])] else []

end

/-! ### The steps of one pod's change -/

section
variable (p : Pod) (s : State)

theorem leaveLink_eq : s.leaveLink p =
    { s with
      links := Vec.put s.links p (s.links[p]).leaveRoster
      control := s.control.report (.link, 0xE2, [podByte p, (s.links[p]).state.code, 0, 0]) } :=
  post_eq_reported (.link, 0xE2, [podByte p, (s.links[p]).state.code, 0, 0])
    { s with links := Vec.put s.links p (s.links[p]).leaveRoster }

theorem enterLink_eq : s.enterLink p =
    { s with
      links := Vec.put s.links p (s.links[p]).enterRoster
      control := s.control.report (.link, 0xE2, [podByte p, (s.links[p]).state.code, 1, 0]) } :=
  post_eq_reported (.link, 0xE2, [podByte p, (s.links[p]).state.code, 1, 0])
    { s with links := Vec.put s.links p (s.links[p]).enterRoster }

/-- A gate set to a state, out of the wait queue and the collection. -/
def gateSet (st : GateState) : Automixer :=
  { s.automixer with
    gates := Vec.put s.automixer.gates p { s.gate p with state := st, count := 0 }
    waitQueue := s.automixer.waitQueue.filter (· ≠ p), collected := s.automixer.collected.filter (· ≠ p) }

theorem setGateState_dequeueGate (st : GateState) :
    (s.setGateState p st 0).dequeueGate p = { s with automixer := gateSet p s st } := by
  simp only [State.setGateState, State.dequeueGate, gateSet, filter_bne]
  rfl

theorem releaseGate_eq (c : GateCause) : s.releaseGate p c =
    { s with
      automixer := gateSet p s .closed
      control := s.control.report (.gate, 0xE5, [podByte p, (s.gate p).state.code, 0, c.code]) } := by
  rw [State.releaseGate, setGateState_dequeueGate]
  exact post_eq_reported (.gate, 0xE5, [podByte p, (s.gate p).state.code, 0, c.code]) _

theorem leaveTalkList_dropped : s.leaveTalkList p .dropped =
    { s with
      mutes := { s.mutes with talkList := s.mutes.talkList.filter (· ≠ p) }
      control := if p ∈ s.mutes.talkList then
          s.control.report (.key, 0xE4, [4, podByte p, u8 (s.mutes.talkList.filter (· ≠ p)).length])
        else s.control } := by
  unfold State.leaveTalkList
  split
  · rw [filter_bne]
    exact post_eq_reported (.key, 0xE4, [4, podByte p, u8 (s.mutes.talkList.filter (· ≠ p)).length]) _
  · rename_i h
    rw [List.filter_eq_self.2 fun q hq => by simpa using fun e : q = p => h (e ▸ hq)]

end

/-! ### A pod leaves the roster -/

section
variable {p : Pod} {s : State}

/-- R75, R84: the gate of a leaving pod. -/
theorem leaveGate_eq (wasChair : Bool) : s.leaveGate p wasChair =
    { s with
      automixer := { s.automixer with
        gates := Vec.put s.automixer.gates p
          { s.gate p with
            state := .closed, count := 0, priority := if wasChair then 0 else (s.gate p).priority }
        waitQueue := s.automixer.waitQueue.filter (· ≠ p), collected := s.automixer.collected.filter (· ≠ p) }
      control := if (s.gate p).state = .closed then s.control
        else s.control.report (.gate, 0xE5, [podByte p, (s.gate p).state.code, 0, 8]) } := by
  have hpriority (t : State) (ht : t.automixer = gateSet p s .closed) : t.setPriority p 0 =
      { t with automixer := { gateSet p s .closed with
          gates := Vec.put s.automixer.gates p { s.gate p with state := .closed, count := 0, priority := 0 } } } := by
    rw [State.setPriority, ht]
    simp only [gateSet, Vec.put_put, Fin.getElem_fin, Vec.getElem_put_self]
  unfold State.leaveGate
  by_cases h : (s.gate p).state = .closed
  · rw [if_pos h, if_pos h, setGateState_dequeueGate]
    cases wasChair with
    | true => exact hpriority _ rfl
    | false => rfl
  · rw [if_neg h, if_neg h, releaseGate_eq]
    cases wasChair with
    | true => exact hpriority _ rfl
    | false => rfl

/-- R74, R89, R95, R99, R101: the mutes of a leaving pod whose gate is closed. -/
theorem leaveMutes_eq (l : LinkState) (h : (s.gate p).state = .closed) :
    let o := s.mutes.reasons[p]
    let r : Reasons := { o with
      chair := false, fault := true, key := if l.takes then (s.mutes.keyMode[p]).keyAfter o.key false else o.key }
    let released (k : KeyRecord) : KeyRecord := if l.takes then { k with pressed := false } else k
    s.leaveMutes p l = { s with
      mutes := { s.mutes with
        reasons := Vec.put s.mutes.reasons p r
        talkKey := Vec.put s.mutes.talkKey p (released s.mutes.talkKey[p])
        allKey := Vec.put s.mutes.allKey p (released s.mutes.allKey[p])
        talkList := s.mutes.talkList.filter (· ≠ p) }
      ramps := { s.ramps with
        localMute := Vec.put s.ramps.localMute p ((s.ramps.localMute[p]).muteChange s.mutes.rampLength o r)
        gate := Vec.put s.ramps.gate p (if o.fault then s.ramps.gate[p] else (s.ramps.gate[p]).jump 0) }
      control := if p ∈ s.mutes.talkList then
          s.control.report (.key, 0xE4, [4, podByte p, u8 (s.mutes.talkList.filter (· ≠ p)).length])
        else s.control } := by
  intro o r released
  have hreasons : s.leaveReasons p = { s with
      mutes := { s.mutes with reasons := Vec.put s.mutes.reasons p { o with chair := false, fault := true } }
      ramps := { s.ramps with
        localMute := Vec.put s.ramps.localMute p ((s.ramps.localMute[p]).muteChange s.mutes.rampLength o r)
        gate := Vec.put s.ramps.gate p (if o.fault then s.ramps.gate[p] else (s.ramps.gate[p]).jump 0) } } := by
    rw [State.leaveReasons, setReasons_of_shut fun _ _ => .inl h, State.withReasons,
      Ramp.muteChange_congr (x := o) (x' := r) rfl ((Reasons.muted_of_fault rfl).trans (Reasons.muted_of_fault rfl).symm)]
    cases hfault : o.fault with
    | true =>
      rw [if_pos rfl, if_pos rfl, Vec.put_same]
    | false =>
      rw [if_neg (by decide), if_neg (by decide)]
      rfl
  rw [State.leaveMutes, hreasons]
  cases hl : l.takes with
  | true =>
    rw [if_pos rfl, revertKeys_of_fault (congrArg Reasons.fault (Vec.getElem_put_self _ _ _)), leaveTalkList_dropped]
    simp [released, r, hl]
  | false =>
    rw [if_neg (by decide), leaveTalkList_dropped]
    simp [released, r, hl, Vec.put_same, -Fin.getElem_fin]

end

section
variable {old new : Roster} {p : Pod} {s : State}

/-- R182: a pod leaves the roster. -/
theorem podLeaves_eq (hfault : (s.mutes.reasons[p]).fault = !(s.links[p]).state.trusted) (hold : old.pods[p] = true)
    (hnew : new.pods[p] = false) (hchair : new.chairs[p] = false) :
    s.podLeaves p old.chairs[p] = s.putPod p (side old new s p) (keeps old new s p) (dropped old new p)
      (reports old new s p (s.mutes.talkList.filter (· ≠ p)).length) := by
  have hleaves : leaves old new p = true := by rw [leaves, hold, hnew]; rfl
  have henters : enters old new p = false := by rw [enters, hold]; rfl
  have hcrowned : crowned old new p = false := by rw [crowned, hchair]; rfl
  have hdeposed : deposed old new p = false := by rw [deposed, hnew, Bool.and_false]; rfl
  have hmuted : muted old new s p = false := by rw [muted, hdeposed]; rfl
  have hbypassed : bypassed old new s p = false := by rw [bypassed, henters]; rfl
  rw [State.podLeaves, leaveLink_eq, leaveGate_eq, leaveMutes_eq]
  swap
  · exact congrArg Gate.state (Vec.getElem_put_self _ _ _)
  simp only [State.putPod, side, keeps, dropped, reports, link, gate, RosterChange.reasons, gateRamp, released, hleaves, hcrowned,
    hdeposed, hmuted, hbypassed, hfault]
  have hramp : (if (!(s.links[p]).state.trusted) = true then s.ramps.gate[p] else (s.ramps.gate[p]).jump 0) =
      if (true && (s.links[p]).state.trusted) = true then (s.ramps.gate[p]).jump 0 else s.ramps.gate[p] := by
    cases (s.links[p]).state.trusted <;> rfl
  rw [hramp]
  by_cases hclosed : (s.gate p).state = .closed
  all_goals
    by_cases hlisted : p ∈ s.mutes.talkList
    all_goals
      simp [State.gate] at hclosed ⊢
      simp [hclosed, hlisted]
      rfl

/-- R75, R84: the gate of an entering pod. -/
theorem enterGate_eq : s.enterGate p = if (s.gate p).mode = .bypass then
      { s with
        automixer := gateSet p s .bypass
        control := s.control.report (.gate, 0xE5, [podByte p, (s.gate p).state.code, 5, 8]) }
    else s := by
  unfold State.enterGate
  cases h : (s.gate p).mode with
  | bypass =>
    rw [if_pos rfl, setGateState_dequeueGate]
    exact post_eq_reported (.gate, 0xE5, [podByte p, (s.gate p).state.code, 5, 8]) _
  | auto => rw [if_neg (by decide)]

/-- R182: a chair pod has no CHAIR, and none of its gate's mutes begins. -/
theorem becomesChair_eq : s.becomesChair p =
    { s with
      automixer := { s.automixer with gates := Vec.put s.automixer.gates p { s.gate p with priority := 3 } }
      mutes := { s.mutes with
        reasons := Vec.put s.mutes.reasons p { s.mutes.reasons[p] with chair := false }
        talkList := s.mutes.talkList.filter (· ≠ p) }
      ramps := { s.ramps with
        localMute := Vec.put s.ramps.localMute p
          ((s.ramps.localMute[p]).muteChange s.mutes.rampLength s.mutes.reasons[p]
            { s.mutes.reasons[p] with chair := false }) }
      control := if p ∈ s.mutes.talkList then
          s.control.report (.key, 0xE4, [4, podByte p, u8 (s.mutes.talkList.filter (· ≠ p)).length])
        else s.control } := by
  have hmute : (s.setPriority p 3).setChair p false =
      (s.setPriority p 3).withReasons p { s.mutes.reasons[p] with chair := false } := by
    refine setReasons_of_shut fun h h' => ?_
    simp [Reasons.muted, State.setPriority] at h h'
    simp [h] at h'
  rw [State.becomesChair, hmute, leaveTalkList_dropped]
  rfl

/-- R98, R182: a delegate that is muted already, or whose gate is shut. -/
theorem becomesDelegate_of_shut
    (h : (s.mutes.reasons[p]).muted = false → s.mutes.chairMute = true → (s.gate p).state.Shut) :
    s.becomesDelegate p =
      s.withReasons p { s.mutes.reasons[p] with chair := (s.mutes.reasons[p]).chair || s.mutes.chairMute } := by
  unfold State.becomesDelegate
  cases hc : s.mutes.chairMute with
  | true =>
    rw [if_pos rfl, Bool.or_true]
    exact setReasons_of_shut fun hm _ => h hm hc
  | false => rw [if_neg (by decide), Bool.or_false, withReasons_self]

/-- R73, R182: a delegate whose gate the chair mute closes. -/
theorem becomesDelegate_of_active (hm : (s.mutes.reasons[p]).muted = false) (hc : s.mutes.chairMute = true)
    (hg : ¬ (s.gate p).state.Shut) :
    let r : Reasons := { s.mutes.reasons[p] with chair := true }
    s.becomesDelegate p = { s with
      automixer := gateSet p s .closed
      mutes := { s.mutes with reasons := Vec.put s.mutes.reasons p r }
      ramps := { s.ramps with
        localMute := Vec.put s.ramps.localMute p
          ((s.ramps.localMute[p]).muteChange s.mutes.rampLength s.mutes.reasons[p] r)
        gate := Vec.put s.ramps.gate p
          ((s.ramps.gate[p]).setTarget (lin15 s.automixer.params.offAttenuation) s.automixer.params.release) }
      control := s.control.report (.gate, 0xE5, [podByte p, (s.gate p).state.code, 0, 6]) } := by
  intro r
  have hfault : (s.mutes.reasons[p]).fault = false := by
    cases hf : (s.mutes.reasons[p]).fault with
    | true => rw [Reasons.muted_of_fault hf] at hm; cases hm
    | false => rfl
  have hmuted : r.muted = true := by simp [r, Reasons.muted]
  have hshut : (s.withReasons p r).closeForMute p = _ := closeForMute_of_active hg
  have hstays : ((s.withReasons p r).mutes.reasons[p]).fault = false := by
    rw [withReasons_reasons_self]
    exact hfault
  have hclosed : ((gateSet p (s.withReasons p r) .closed).gates[p]).state = .closed :=
    congrArg Gate.state (Vec.getElem_put_self _ _ _)
  rw [State.becomesDelegate, if_pos hc, State.setChair, setReasons_eq, if_pos ⟨hm, hmuted⟩, hshut, releaseGate_eq,
    State.retargetGate_eq, hstays, hclosed]
  rfl

/-- R182: a pod enters the roster. -/
theorem podEnters_eq (hfault : (s.mutes.reasons[p]).fault = !(s.links[p]).state.trusted) (hoff : (s.links[p]).state = .off)
    (hold : old.pods[p] = false) (hnew : new.pods[p] = true) :
    s.podEnters p new.chairs[p] = s.putPod p (side old new s p) (keeps old new s p) (dropped old new p)
      (reports old new s p (s.mutes.talkList.filter (· ≠ p)).length) := by
  have hleaves : leaves old new p = false := by rw [leaves, hold]; rfl
  have henters : enters old new p = true := by rw [enters, hold, hnew]; rfl
  have hdeposed : deposed old new p = false := by rw [deposed, hold]; rfl
  have hcrowned : crowned old new p = new.chairs[p] := by rw [crowned, henters, Bool.true_or, Bool.and_true]
  have hdelegate : delegate old new p = !new.chairs[p] := by rw [delegate, hdeposed, henters]; rfl
  have hmuted : muted old new s p = false := by rw [muted, hdeposed]; rfl
  have hbypassed : bypassed old new s p = decide ((s.gate p).mode = .bypass) := by rw [bypassed, henters]; rfl
  have hfaulty : (s.mutes.reasons[p]).fault = true := by rw [hfault, hoff]; rfl
  cases hchair : new.chairs[p] with
  | true =>
    rw [State.podEnters, if_pos rfl, becomesChair_eq, enterGate_eq, enterLink_eq]
    simp only [State.putPod, side, keeps, dropped, reports, link, gate, RosterChange.reasons, gateRamp, released, hleaves,
      henters, hcrowned, hdeposed, hdelegate, hmuted, hbypassed, hchair, hoff]
    by_cases hmode : (s.gate p).mode = .bypass
    all_goals
      by_cases hlisted : p ∈ s.mutes.talkList
      all_goals
        simp [State.gate] at hmode
        simp [State.gate, Link.enterRoster, LinkState.code, hmode, hlisted, gateSet]
  | false =>
    have hkept : ((s.enterLink p).enterGate p).mutes = s.mutes := by
      rw [enterGate_eq, enterLink_eq]
      split <;> rfl
    rw [State.podEnters, if_neg (by decide), becomesDelegate_of_shut fun h => ?_]
    · rw [hkept, enterGate_eq, enterLink_eq]
      simp only [State.putPod, side, keeps, dropped, reports, link, gate, RosterChange.reasons, gateRamp, released, hleaves,
        henters, hcrowned, hdeposed, hdelegate, hmuted, hbypassed, hchair, hoff, State.withReasons]
      by_cases hmode : (s.gate p).mode = .bypass
      · simp [State.gate] at hmode
        simp [State.gate, Link.enterRoster, LinkState.code, hmode, gateSet]
      · simp [State.gate] at hmode
        simp [State.gate, Link.enterRoster, LinkState.code, hmode]
        rw [Vec.put_getElem_val]
    · rw [hkept, Reasons.muted_of_fault hfaulty] at h
      cases h

section
variable (hold : old.pods[p] = true) (hnew : new.pods[p] = true)
include hold hnew

/-- R182: a pod of both rosters becomes a chair pod. -/
theorem becomesChair_eq_putPod (hchair : old.chairs[p] = false) (hchair' : new.chairs[p] = true) :
    s.becomesChair p = s.putPod p (side old new s p) (keeps old new s p) (dropped old new p)
      (reports old new s p (s.mutes.talkList.filter (· ≠ p)).length) := by
  have hleaves : leaves old new p = false := by rw [leaves, hold, hnew]; rfl
  have henters : enters old new p = false := by rw [enters, hold]; rfl
  have hdeposed : deposed old new p = false := by rw [deposed, hchair, Bool.and_false]; rfl
  have hcrowned : crowned old new p = true := by rw [crowned, hchair, hchair', henters]; rfl
  have hmuted : muted old new s p = false := by rw [muted, hdeposed]; rfl
  have hbypassed : bypassed old new s p = false := by rw [bypassed, henters]; rfl
  rw [becomesChair_eq]
  simp only [State.putPod, side, keeps, dropped, reports, link, gate, RosterChange.reasons, gateRamp, released, hleaves,
    henters, hcrowned, hdeposed, hmuted, hbypassed]
  by_cases hlisted : p ∈ s.mutes.talkList <;> simp [State.gate, hlisted]

/-- R182: a pod of both rosters ceases to be a chair pod. -/
theorem deposed_eq_putPod (hchair : old.chairs[p] = true) (hchair' : new.chairs[p] = false) :
    (s.setPriority p 0).becomesDelegate p = s.putPod p (side old new s p) (keeps old new s p) (dropped old new p)
      (reports old new s p (s.mutes.talkList.filter (· ≠ p)).length) := by
  have hleaves : leaves old new p = false := by rw [leaves, hold, hnew]; rfl
  have henters : enters old new p = false := by rw [enters, hold]; rfl
  have hdeposed : deposed old new p = true := by rw [deposed, hold, hnew, hchair, hchair']; rfl
  have hdelegate : delegate old new p = true := by rw [delegate, hdeposed]; rfl
  have hcrowned : crowned old new p = false := by rw [crowned, hchair']; rfl
  have hbypassed : bypassed old new s p = false := by rw [bypassed, henters]; rfl
  have hstate : ((s.setPriority p 0).gate p).state = (s.gate p).state := by
    simp [State.setPriority, State.gate]
  have hreasons : RosterChange.reasons old new s p =
      { s.mutes.reasons[p] with chair := (s.mutes.reasons[p]).chair || s.mutes.chairMute } := by
    simp only [RosterChange.reasons, hleaves, hcrowned, hdelegate]
    rfl
  by_cases hactive : (s.mutes.reasons[p]).muted = false ∧ s.mutes.chairMute = true ∧ ¬ (s.gate p).state.Shut
  · obtain ⟨hm, hc, hg⟩ := hactive
    have hmuted : muted old new s p = true := by
      have hafter : (RosterChange.reasons old new s p).muted = true := by
        rw [hreasons, hc]
        simp [Reasons.muted]
      rw [muted, hdeposed, hm, hafter, decide_eq_true (not_or.1 hg)]
      rfl
    rw [becomesDelegate_of_active (s := s.setPriority p 0) hm hc (hstate ▸ hg)]
    simp only [State.putPod, side, keeps, dropped, reports, link, gate, hreasons, gateRamp, released, hleaves,
      henters, hcrowned, hdeposed, hmuted, hbypassed, hc]
    simp [State.setPriority, State.gate, gateSet, hc]
  · have hmuted : muted old new s p = false := by
      refine Bool.eq_false_iff.2 fun h => hactive ?_
      simp only [muted, hdeposed, Bool.true_and, Bool.and_eq_true, Bool.not_eq_true', decide_eq_true_eq] at h
      obtain ⟨⟨hm, hafter⟩, hgate⟩ := h
      refine ⟨hm, Bool.of_not_eq_false fun hc => ?_, not_or.2 hgate⟩
      rw [hreasons, hc, Bool.or_false, hm] at hafter
      cases hafter
    rw [becomesDelegate_of_shut (s := s.setPriority p 0) fun hm hc => ?_]
    · simp only [State.putPod, side, keeps, dropped, reports, link, gate, hreasons, gateRamp, released, hleaves,
        henters, hcrowned, hdeposed, hmuted, hbypassed]
      simp [State.setPriority, State.gate, State.withReasons]
    · exact Decidable.of_not_not fun hg => hactive ⟨hm, hc, hstate ▸ hg⟩

end

/-- A pod without a difference keeps its side. -/
theorem putPod_unchanged (n : Nat) (hleaves : leaves old new p = false) (henters : enters old new p = false)
    (hcrowned : crowned old new p = false) (hdeposed : deposed old new p = false) :
    s.putPod p (side old new s p) (keeps old new s p) (dropped old new p) (reports old new s p n) = s := by
  have hdelegate : delegate old new p = false := by rw [delegate, hdeposed, henters]; rfl
  have hmuted : muted old new s p = false := by rw [muted, hdeposed]; rfl
  have hbypassed : bypassed old new s p = false := by rw [bypassed, henters]; rfl
  have hreasons : RosterChange.reasons old new s p = s.mutes.reasons[p] := by
    simp only [RosterChange.reasons, hleaves, hcrowned, hdelegate]
    simp
  have hside : side old new s p = s.podSide p := by
    simp only [side, link, gate, keeps, hreasons, gateRamp, released, hleaves, henters, hcrowned, hdeposed, hmuted, hbypassed]
    rw [Ramp.muteChange_self]
    rfl
  have hreports : reports old new s p n = [] := by
    simp [reports, hleaves, henters, dropped, hcrowned, hmuted, hbypassed]
  rw [hside, hreports, keeps, dropped, hleaves, hcrowned, hmuted, hbypassed]
  exact putPod_podSide p s

/-- R182: the change of one pod. -/
theorem podChange_eq (hfault : (s.mutes.reasons[p]).fault = !(s.links[p]).state.trusted)
    (hoff : (s.links[p]).state = .off ↔ old.pods[p] = false) (hchairs : new.chairs[p] = true → new.pods[p] = true) :
    s.podChange old new p = s.putPod p (side old new s p) (keeps old new s p) (dropped old new p)
      (reports old new s p (s.mutes.talkList.filter (· ≠ p)).length) := by
  unfold State.podChange
  cases hold : old.pods[p] <;> cases hnew : new.pods[p]
  · have hchair : new.chairs[p] = false := Bool.eq_false_iff.2 fun h => by rw [hchairs h] at hnew; cases hnew
    exact (putPod_unchanged _ (by rw [leaves, hold]; rfl) (by rw [enters, hold, hnew]; rfl) (by rw [crowned, hchair]; rfl)
      (by rw [deposed, hold]; rfl)).symm
  · exact podEnters_eq hfault (hoff.2 hold) hold hnew
  · have hchair : new.chairs[p] = false := Bool.eq_false_iff.2 fun h => by rw [hchairs h] at hnew; cases hnew
    exact podLeaves_eq hfault hold hnew hchair
  · have hleaves : leaves old new p = false := by rw [leaves, hold, hnew]; rfl
    have henters : enters old new p = false := by rw [enters, hold]; rfl
    cases hchair : old.chairs[p] <;> cases hchair' : new.chairs[p]
    · exact (putPod_unchanged _ hleaves henters (by rw [crowned, hchair']; rfl) (by rw [deposed, hchair, Bool.and_false]; rfl)).symm
    · exact becomesChair_eq_putPod hold hnew hchair hchair'
    · exact deposed_eq_putPod hold hnew hchair hchair'
    · exact (putPod_unchanged _ hleaves henters (by rw [crowned, hchair, hchair', henters]; rfl)
        (by rw [deposed, hchair', Bool.and_comm]; rfl)).symm

end

end RosterChange

end Sys2Proof.Machine
end

section
/-! SET_ROSTER hands its differences on, pod by pod (R181, R182): O49. -/

namespace Sys2Proof.Machine

/-! ### A pass over all members, in ascending order -/

/-- A pass whose `k`-th step takes the `k`-th state to the next one. -/
theorem foldl_finRange {α : Type} {n : Nat} (f : α → Fin n → α) (g : Nat → α) (h : ∀ i : Fin n, f (g i.1) i = g (i.1 + 1)) :
    (List.finRange n).foldl f (g 0) = g n := by
  have hpre (k : Nat) (hk : k ≤ n) : ((List.finRange n).take k).foldl f (g 0) = g k := by
    induction k with
    | zero => rfl
    | succ k ih =>
      rw [List.take_succ_eq_append_getElem (by rw [List.length_finRange]; omega), List.foldl_append, ih (by omega)]
      simpa using h ⟨k, hk⟩
  have hall := hpre n le_rfl
  rwa [List.take_of_length_le (by rw [List.length_finRange])] at hall

/-- A member written, where those before it are written already. -/
theorem Vec.put_tab_lt {α : Type} {n : Nat} (f g : Fin n → α) (i : Fin n) :
    Vec.put (Vec.tab fun j => if j.1 < i.1 then f j else g j) i (f i) =
      Vec.tab fun j => if j.1 < i.1 + 1 then f j else g j := by
  refine Vector.ext fun j hj => ?_
  rw [Vec.getElem_put, Vec.getElem_tab, Vec.getElem_tab]
  by_cases h : i.1 = j
  · subst h
    rw [if_pos rfl, if_pos (by exact Nat.lt_succ_self _)]
  · rw [if_neg h]
    exact if_congr (by show j < i.1 ↔ j < i.1 + 1; omega) rfl rfl

/-- A member that is not kept leaves a list, where those before it have left it already. -/
theorem filter_next {n : Nat} (keeps : Fin n → Bool) (l : List (Fin n)) (i : Fin n) :
    (if keeps i then l.filter fun j => keeps j || decide (i.1 ≤ j.1)
      else (l.filter fun j => keeps j || decide (i.1 ≤ j.1)).filter (· ≠ i)) =
      l.filter fun j => keeps j || decide (i.1 + 1 ≤ j.1) := by
  cases h : keeps i with
  | true =>
    rw [if_pos rfl]
    refine List.filter_congr fun j _ => ?_
    by_cases hj : j = i
    · rw [hj, h]; rfl
    · have : i.1 ≤ j.1 ↔ i.1 + 1 ≤ j.1 := by have := fun e => hj (Fin.ext e); omega
      rw [decide_eq_decide.2 this]
  | false =>
    rw [if_neg (by decide), List.filter_filter]
    refine List.filter_congr fun j _ => ?_
    by_cases hj : j = i
    · rw [hj, h]; simp
    · have : i.1 ≤ j.1 ↔ i.1 + 1 ≤ j.1 := by have := fun e => hj (Fin.ext e); omega
      rw [decide_eq_true hj, Bool.true_and, decide_eq_decide.2 this]

namespace RosterChange

/-! ### The change of one pod depends on that pod alone -/

/-- Two states that agree on what the change of pod `p` looks at. -/
structure Alike (p : Pod) (s u : State) : Prop where
  side : u.podSide p = s.podSide p
  chairMute : u.mutes.chairMute = s.mutes.chairMute
  keyMode : u.mutes.keyMode = s.mutes.keyMode
  rampLength : u.mutes.rampLength = s.mutes.rampLength
  params : u.automixer.params = s.automixer.params

section
variable {old new : Roster} {p : Pod} {s u : State} (h : Alike p s u)
include h

theorem Alike.reasons_eq : RosterChange.reasons old new u p = RosterChange.reasons old new s p := by
  obtain ⟨hside, hchair, hkey, -, -⟩ := h
  rw [State.podSide, State.podSide, PodSide.mk.injEq] at hside
  obtain ⟨hlink, -, hreasons, -⟩ := hside
  simp only [RosterChange.reasons, hlink, hreasons, hchair, hkey]

theorem Alike.muted_eq : muted old new u p = muted old new s p := by
  have hafter := h.reasons_eq (old := old) (new := new)
  obtain ⟨hside, -, -, -, -⟩ := h
  rw [State.podSide, State.podSide, PodSide.mk.injEq] at hside
  obtain ⟨-, hgate, hreasons, -⟩ := hside
  simp only [muted, hafter, hreasons, hgate]

theorem Alike.bypassed_eq : bypassed old new u p = bypassed old new s p := by
  have hgate : u.gate p = s.gate p := congrArg PodSide.gate h.side
  rw [bypassed, bypassed, hgate]

theorem Alike.keeps_eq : keeps old new u p = keeps old new s p := by
  rw [keeps, keeps, h.bypassed_eq, h.muted_eq]

theorem Alike.side_eq : RosterChange.side old new u p = RosterChange.side old new s p := by
  have hafter := h.reasons_eq (old := old) (new := new)
  have hmuted := h.muted_eq (old := old) (new := new)
  have hbypassed := h.bypassed_eq (old := old) (new := new)
  have hkeeps := h.keeps_eq (old := old) (new := new)
  obtain ⟨hside, -, -, hlength, hparams⟩ := h
  rw [State.podSide, State.podSide, PodSide.mk.injEq] at hside
  obtain ⟨hlink, hgate, hreasons, htalk, hall, hlocal, hramp⟩ := hside
  simp only [RosterChange.side, link, gate, gateRamp, released, hafter, hmuted, hbypassed, hkeeps, hlink, hgate, hreasons, htalk,
    hall, hlocal, hramp, hlength, hparams]

theorem Alike.reports_eq (n : Nat) (hl : p ∈ u.mutes.talkList ↔ p ∈ s.mutes.talkList) :
    reports old new u p n = reports old new s p n := by
  have hmuted := h.muted_eq (old := old) (new := new)
  have hbypassed := h.bypassed_eq (old := old) (new := new)
  have hlink : u.links[p] = s.links[p] := congrArg PodSide.link h.side
  have hgate : u.gate p = s.gate p := congrArg PodSide.gate h.side
  simp only [reports, hmuted, hbypassed, hlink, hgate, hl]

end

/-! ### The pass over the pods -/

section
variable (old new : Roster) (s : State)

/-- The pods left on the talk-request list when the turn of pod `p` is over. -/
def listed (p : Pod) : Nat := (s.mutes.talkList.filter fun r => !(dropped old new r && decide (r ≤ p))).length

/-- The state when the first `k` pods have had their turn. -/
def after (k : Nat) : State :=
  { s with
    session := { s.session with roster := new }
    links := Vec.tab fun p => if p.1 < k then link old new s p else s.links[p]
    automixer := { s.automixer with
      gates := Vec.tab fun p => if p.1 < k then gate old new s p else s.gate p
      waitQueue := s.automixer.waitQueue.filter fun p => keeps old new s p || decide (k ≤ p.1)
      collected := s.automixer.collected.filter fun p => keeps old new s p || decide (k ≤ p.1) }
    mutes := { s.mutes with
      reasons := Vec.tab fun p => if p.1 < k then RosterChange.reasons old new s p else s.mutes.reasons[p]
      talkList := s.mutes.talkList.filter fun p => !dropped old new p || decide (k ≤ p.1)
      talkKey := Vec.tab fun p => if p.1 < k then released old new s p s.mutes.talkKey[p] else s.mutes.talkKey[p]
      allKey := Vec.tab fun p => if p.1 < k then released old new s p s.mutes.allKey[p] else s.mutes.allKey[p] }
    ramps := { s.ramps with
      localMute := Vec.tab fun p => if p.1 < k then
          (s.ramps.localMute[p]).muteChange s.mutes.rampLength s.mutes.reasons[p] (RosterChange.reasons old new s p)
        else s.ramps.localMute[p]
      gate := Vec.tab fun p => if p.1 < k then gateRamp old new s p else s.ramps.gate[p] }
    control := (((List.finRange 24).take k).flatMap fun p => reports old new s p (listed old new s p)).foldl
      Control.report s.control }

theorem after_alike (p : Pod) : Alike p s (after old new s p.1) := by
  refine ⟨?_, rfl, rfl, rfl, rfl⟩
  simp [State.podSide, after, State.gate]

theorem mem_after_talkList (p : Pod) : p ∈ (after old new s p.1).mutes.talkList ↔ p ∈ s.mutes.talkList := by
  simp [after]

theorem putPod_after (p : Pod) :
    (after old new s p.1).putPod p (side old new s p) (keeps old new s p) (dropped old new p)
      (reports old new s p (listed old new s p)) = after old new s (p.1 + 1) := by
  have htalk : (if dropped old new p then (after old new s p.1).mutes.talkList.filter (· ≠ p)
      else (after old new s p.1).mutes.talkList) = (after old new s (p.1 + 1)).mutes.talkList := by
    have h := filter_next (fun q => !dropped old new q) s.mutes.talkList p
    cases hd : dropped old new p <;> simpa [hd, after] using h
  have hcontrol : (reports old new s p (listed old new s p)).foldl Control.report (after old new s p.1).control =
      (after old new s (p.1 + 1)).control := by
    simp only [after]
    rw [List.take_succ_eq_append_getElem (by rw [List.length_finRange]; exact p.2), List.flatMap_append, List.foldl_append]
    simp
  rw [State.putPod, htalk, hcontrol]
  simp only [after, side, Vec.put_tab_lt, filter_next (keeps old new s)]

theorem after_zero : after old new s 0 = { s with session := { s.session with roster := new } } := by
  simp [after, State.gate, -Fin.getElem_fin]

end

/-- The list is counted in a report of the pod that leaves it. -/
theorem reports_congr {old new : Roster} {s : State} {p : Pod} {m n : Nat} (h : dropped old new p = true → m = n) :
    reports old new s p m = reports old new s p n := by
  unfold reports
  cases hd : dropped old new p with
  | true => rw [h hd]
  | false => simp

theorem listed_of_dropped {old new : Roster} {p : Pod} (s : State) (h : dropped old new p = true) :
    ((after old new s p.1).mutes.talkList.filter (· ≠ p)).length = listed old new s p := by
  have hnext := filter_next (fun q => !dropped old new q) s.mutes.talkList p
  rw [h] at hnext
  refine (congrArg List.length hnext).trans ?_
  rw [listed]
  congr 1
  refine List.filter_congr fun q _ => ?_
  rw [Bool.not_and, ← decide_not]
  congr 1
  refine decide_eq_decide.2 ?_
  rw [Fin.le_def]
  omega

/-- R182: the differences handed on. -/
theorem takeRoster_eq {new : Roster} {s : State} (hf : FaultSound s)
    (hchairs : ∀ p : Pod, new.chairs[p] = true → new.pods[p] = true) :
    s.takeRoster new = after s.session.roster new s 24 := by
  have hstep (p : Pod) : (after s.session.roster new s p.1).podChange s.session.roster new p =
      after s.session.roster new s (p.1 + 1) := by
    have halike := after_alike s.session.roster new s p
    have hlink : (after s.session.roster new s p.1).links[p] = s.links[p] := congrArg PodSide.link halike.side
    have hreasons : (after s.session.roster new s p.1).mutes.reasons[p] = s.mutes.reasons[p] :=
      congrArg PodSide.reasons halike.side
    have hmem := mem_after_talkList s.session.roster new s p
    rw [podChange_eq (by rw [hreasons, hlink]; exact (hf p).1) (by rw [hlink]; exact (hf p).2) (hchairs p), halike.side_eq,
      halike.keeps_eq, halike.reports_eq _ hmem, ← putPod_after, reports_congr fun hd => listed_of_dropped s hd]
  rw [State.takeRoster, ← after_zero]
  exact foldl_finRange _ _ hstep

end RosterChange

end Sys2Proof.Machine
end

section
/-! The check of SET_ROSTER and its answer (R181), and the settling of O49. -/

namespace Sys2Proof.Machine

/-! ### The check of the three lists -/

theorem podOf_isSome (b : Byte) : (podOf b).isSome = true ↔ 1 ≤ b.toNat ∧ b.toNat ≤ 24 := by
  unfold podOf
  split <;> simp_all

theorem trunkOf_isSome (b : Byte) : (trunkOf b).isSome = true ↔ 25 ≤ b.toNat ∧ b.toNat ≤ 28 := by
  unfold trunkOf
  split <;> simp_all

theorem exists_podByte {b : Byte} (h : 1 ≤ b.toNat ∧ b.toNat ≤ 24) : ∃ p : Pod, podByte p = b :=
  ⟨⟨b.toNat - 1, by omega⟩, BitVec.eq_of_toNat_eq (by rw [podByte_toNat]; show b.toNat - 1 + 1 = _; omega)⟩

theorem trunkByte_toNat (k : Trunk) : (trunkByte k).toNat = k.1 + 25 := by
  rw [trunkByte, u8, BitVec.toNat_ofNat, Nat.mod_eq_of_lt (by omega)]

theorem exists_trunkByte {b : Byte} (h : 25 ≤ b.toNat ∧ b.toNat ≤ 28) : ∃ k : Trunk, trunkByte k = b :=
  ⟨⟨b.toNat - 25, by omega⟩, BitVec.eq_of_toNat_eq (by rw [trunkByte_toNat]; show b.toNat - 25 + 25 = _; omega)⟩

/-- R181: three lists that name a roster. -/
def SoundLists (pods chairs trunks : List Byte) : Prop :=
  (∀ b ∈ pods, 1 ≤ b.toNat ∧ b.toNat ≤ 24) ∧ (∀ b ∈ trunks, 25 ≤ b.toNat ∧ b.toNat ≤ 28) ∧
    pods.Nodup ∧ chairs.Nodup ∧ trunks.Nodup ∧ chairs.length ≤ 2 ∧ ∀ b ∈ chairs, b ∈ pods

theorem rosterValid_iff (pods chairs trunks : List Byte) :
    rosterValid pods chairs trunks = true ↔ SoundLists pods chairs trunks := by
  simp only [rosterValid, SoundLists, Bool.and_eq_true, List.all_eq_true, podOf_isSome, trunkOf_isSome, decide_eq_true_eq,
    List.contains_iff_mem, and_assoc]

/-! ### The answer, in ascending order -/

/-- The numbers of a list in the order of the members they name are the list sorted. -/
theorem map_filter_eq_mergeSort {n : Nat} {f : Fin n → Byte} (hmono : ∀ i j : Fin n, i < j → (f i).toNat < (f j).toNat)
    {l : List Byte} (hl : l.Nodup) (hrange : ∀ b ∈ l, ∃ i, f i = b) :
    ((List.finRange n).filter fun i => decide (f i ∈ l)).map f = l.mergeSort fun a b => decide (a.toNat ≤ b.toNat) := by
  have hascending : (((List.finRange n).filter fun i => decide (f i ∈ l)).map f).Pairwise fun a b => a.toNat < b.toNat :=
    List.pairwise_map.2 (((List.pairwise_lt_finRange n).filter _).imp fun h => hmono _ _ h)
  have hperm : (((List.finRange n).filter fun i => decide (f i ∈ l)).map f).Perm l := by
    refine (List.perm_ext_iff_of_nodup (hascending.imp fun h e => absurd h (by rw [e]; exact Nat.lt_irrefl _)) hl).2 fun b => ?_
    simp only [List.mem_map, List.mem_filter, List.mem_finRange, true_and, decide_eq_true_eq]
    refine ⟨fun ⟨i, hi, he⟩ => he ▸ hi, fun hb => ?_⟩
    obtain ⟨i, rfl⟩ := hrange b hb
    exact ⟨i, hb, rfl⟩
  refine List.Perm.eq_of_pairwise (le := fun a b => a.toNat ≤ b.toNat) (fun a b _ _ h h' => BitVec.eq_of_toNat_eq (Nat.le_antisymm h h'))
    (hascending.imp Nat.le_of_lt) ?_ (hperm.trans (List.mergeSort_perm _ _).symm)
  have hsorted := List.pairwise_mergeSort (le := fun a b : Byte => decide (a.toNat ≤ b.toNat))
    (fun a b c h h' => by simp only [decide_eq_true_eq] at h h' ⊢; omega)
    (fun a b => by simp only [Bool.or_eq_true, decide_eq_true_eq]; omega) l
  simpa using hsorted

theorem podBytes_eq {l : List Byte} (hl : l.Nodup) (hrange : ∀ b ∈ l, 1 ≤ b.toNat ∧ b.toNat ≤ 24) :
    podBytes (Vec.tab fun p => decide (podByte p ∈ l)) = l.mergeSort fun a b => decide (a.toNat ≤ b.toNat) := by
  rw [← map_filter_eq_mergeSort (f := podByte) (fun i j h => by rw [podByte_toNat, podByte_toNat]; exact Nat.succ_lt_succ h) hl
    fun b hb => exists_podByte (hrange b hb)]
  simp only [podBytes, Fin.getElem_fin, Vec.getElem_tab]
  rfl

theorem trunkBytes_eq {l : List Byte} (hl : l.Nodup) (hrange : ∀ b ∈ l, 25 ≤ b.toNat ∧ b.toNat ≤ 28) :
    trunkBytes (Vec.tab fun k => decide (trunkByte k ∈ l)) = l.mergeSort fun a b => decide (a.toNat ≤ b.toNat) := by
  rw [← map_filter_eq_mergeSort (f := trunkByte)
    (fun i j h => by rw [trunkByte_toNat, trunkByte_toNat]; exact Nat.add_lt_add_right h 25) hl
    fun b hb => exists_trunkByte (hrange b hb)]
  simp only [trunkBytes, Fin.getElem_fin, Vec.getElem_tab]

/-- R181: the roster that sound lists name, in the words of the rule. -/
def rosterNamed (pods chairs trunks : List Byte) : Roster :=
  { pods := Vec.tab fun p => decide (podByte p ∈ pods), chairs := Vec.tab fun p => decide (podByte p ∈ chairs)
    trunks := Vec.tab fun k => decide (trunkByte k ∈ trunks) }

theorem rosterOf_eq (pods chairs trunks : List Byte) : rosterOf pods chairs trunks = rosterNamed pods chairs trunks := by
  simp only [rosterOf, rosterNamed, List.contains_eq_mem]

section
variable {pods chairs trunks : List Byte} (h : SoundLists pods chairs trunks)
include h

theorem rosterNamed_bytes : (rosterNamed pods chairs trunks).bytes =
    (u8 pods.length :: pods.mergeSort fun a b => decide (a.toNat ≤ b.toNat)) ++
      (u8 chairs.length :: chairs.mergeSort fun a b => decide (a.toNat ≤ b.toNat)) ++
      (u8 trunks.length :: trunks.mergeSort fun a b => decide (a.toNat ≤ b.toNat)) := by
  obtain ⟨hpods, htrunks, hp, hc, ht, -, hsub⟩ := h
  simp only [Roster.bytes, rosterNamed, counted, podBytes_eq hp hpods, podBytes_eq hc fun b hb => hpods b (hsub b hb),
    trunkBytes_eq ht htrunks, List.length_mergeSort]

theorem rosterNamed_chairs (p : Pod) (hp : (rosterNamed pods chairs trunks).chairs[p] = true) :
    (rosterNamed pods chairs trunks).pods[p] = true := by
  obtain ⟨-, -, -, -, -, -, hsub⟩ := h
  simp only [rosterNamed, Fin.getElem_fin, Vec.getElem_tab, decide_eq_true_eq] at hp ⊢
  exact hsub _ hp

end

/-! ### SET_ROSTER -/

theorem exec_setRoster {tag : Byte} {pods chairs trunks : List Byte} {s : State} {v : Verdict} (h : s.takes)
    (hv : judgeSetRoster pods chairs trunks s.hunt = v) :
    exec (.setRoster tag pods chairs trunks) s = .next (v.effect (s.answered 0x84 tag (v.status.code :: v.fields))) :=
  congrArg Host.Outcome.next (takeRequest_verdict h hv)

/-- The state when every pod has had its turn. -/
theorem RosterChange.after_all (old new : Roster) (s : State) :
    after old new s 24 = { s with
      session := { s.session with roster := new }
      links := Vec.tab fun p => link old new s p
      automixer := { s.automixer with
        gates := Vec.tab fun p => gate old new s p
        waitQueue := s.automixer.waitQueue.filter (keeps old new s)
        collected := s.automixer.collected.filter (keeps old new s) }
      mutes := { s.mutes with
        reasons := Vec.tab fun p => RosterChange.reasons old new s p
        talkList := s.mutes.talkList.filter fun p => !dropped old new p
        talkKey := Vec.tab fun p => released old new s p s.mutes.talkKey[p]
        allKey := Vec.tab fun p => released old new s p s.mutes.allKey[p] }
      ramps := { s.ramps with
        localMute := Vec.tab fun p =>
          (s.ramps.localMute[p]).muteChange s.mutes.rampLength s.mutes.reasons[p] (RosterChange.reasons old new s p)
        gate := Vec.tab fun p => gateRamp old new s p }
      control := ((List.finRange 24).flatMap fun p => reports old new s p (listed old new s p)).foldl
        Control.report s.control } := by
  have hlate (p : Pod) : decide (24 ≤ p.1) = false := decide_eq_false (by omega)
  have htake : (List.finRange 24).take 24 = List.finRange 24 := List.take_of_length_le (by rw [List.length_finRange])
  simp only [after, htake, hlate, Bool.or_false, Fin.is_lt, if_true]

/-- Settles O49: the refusals by the checks, and a taken roster by the change of each pod. -/
theorem setRosterHandsItsDifferencesOn : Obligations.SetRosterHandsItsDifferencesOn := by
  intro tag pods chairs trunks s hs sound run
  have hsound : rosterValid pods chairs trunks = true ↔ sound := rosterValid_iff pods chairs trunks
  refine ⟨fun hbad => ?_, fun hgood hmixer => ?_, fun hgood hmixer hf => ?_⟩
  · have hv : judgeSetRoster pods chairs trunks s.hunt = .refuse .badValue :=
      if_pos (by rw [Bool.eq_false_iff.2 fun h => hbad (hsound.1 h)]; rfl)
    exact exec_setRoster hs hv
  · have hv : judgeSetRoster pods chairs trunks s.hunt = .refuse .wrongState := by
      rw [judgeSetRoster, if_neg (by rw [hsound.2 hgood]; decide), if_neg (by exact hmixer)]
    exact exec_setRoster hs hv
  · intro ordered u old new leaves enters crowned deposed delegate reasons state muted bypassed keeps dropped released reports
    have hv : judgeSetRoster pods chairs trunks s.hunt =
        { status := .ok, fields := ordered pods ++ ordered chairs ++ ordered trunks, effect := State.takeRoster new } := by
      rw [judgeSetRoster, if_neg (by rw [hsound.2 hgood]; decide), if_pos (by exact hmixer), rosterOf_eq, rosterNamed_bytes hgood]
      rfl
    have htaken : State.takeRoster new u = RosterChange.after old new u 24 :=
      RosterChange.takeRoster_eq hf (rosterNamed_chairs hgood)
    refine (exec_setRoster hs hv).trans (congrArg Host.Outcome.next (htaken.trans ?_))
    rw [RosterChange.after_all, foldl_post_eq_reported]
    rfl

end Sys2Proof.Machine
end

section
/-! SUPPORT. FAULT follows the link (R42): every move of a link, and every boundary, keeps FAULT on the pods whose link is
not trusted. -/

namespace Sys2Proof.Machine

/-- What is done keeps FAULT true to the links, and the links to the roster. -/
def KeepsFault (s t : State) : Prop := FaultSound s → FaultSound t

theorem KeepsFault.refl (s : State) : KeepsFault s s := id

theorem KeepsFault.trans {s t u : State} (h : KeepsFault s t) (k : KeepsFault t u) : KeepsFault s u := fun hs => k (h hs)

theorem FaultsKept.keeps {s t : State} (h : FaultsKept s t) : KeepsFault s t := h.sound

theorem KeepsFault.of_moves {A : List Part} {s t : State} (h : Moves A s t) (hA : .mutes ∉ A ∧ .links ∉ A ∧ .roster ∉ A) :
    KeepsFault s t := (FaultsKept.of_moves h hA).keeps

/-! ### One change of a link's state -/

theorem linkEvent_faultsKept (p : Pod) (c : LinkChange) (s : State) : FaultsKept s (s.linkEvent p c) :=
  .of_moves (linkEvent_moves p s c) (by decide)

theorem keysFollow_faultsKept (p : Pod) (c : LinkChange) (s : State) : FaultsKept s (s.keysFollow p c) := by
  unfold State.keysFollow
  simp only
  have hkeys : FaultsKept s (if c.before.takes && !c.after.takes then s.revertKeys p else s) := by
    split
    · exact revertKeys_faultsKept p s
    · exact .refl s
  split
  · exact hkeys.trans (leaveTalkList_faultsKept p _ _)
  · exact hkeys

/-- FAULT of pod `p` is as given, and that of the others, the link states and the roster are left alone. -/
structure FaultSet (p : Pod) (b : Bool) (s t : State) : Prop where
  self : (t.mutes.reasons[p]).fault = b
  others : ∀ q : Pod, q ≠ p → (t.mutes.reasons[q]).fault = (s.mutes.reasons[q]).fault
  link : ∀ q : Pod, (t.links[q]).state = (s.links[q]).state
  roster : t.session.roster = s.session.roster

theorem FaultsKept.then_set {p : Pod} {b : Bool} {s t u : State} (h : FaultsKept s t) (k : FaultSet p b t u) : FaultSet p b s u :=
  ⟨k.self, fun q hq => (k.others q hq).trans (h.fault q), fun q => (k.link q).trans (h.link q), k.roster.trans h.roster⟩

theorem FaultSet.then_kept {p : Pod} {b : Bool} {s t u : State} (h : FaultSet p b s t) (k : FaultsKept t u) : FaultSet p b s u :=
  ⟨(k.fault p).trans h.self, fun q hq => (k.fault q).trans (h.others q hq), fun q => (k.link q).trans (h.link q),
    k.roster.trans h.roster⟩

theorem FaultSet.trans {p : Pod} {b b' : Bool} {s t u : State} (h : FaultSet p b s t) (k : FaultSet p b' t u) :
    FaultSet p b' s u :=
  ⟨k.self, fun q hq => (k.others q hq).trans (h.others q hq), fun q => (k.link q).trans (h.link q), k.roster.trans h.roster⟩

theorem FaultSet.same {p : Pod} {b : Bool} {s : State} (h : (s.mutes.reasons[p]).fault = b) : FaultSet p b s s :=
  ⟨h, fun _ _ => rfl, fun _ => rfl, rfl⟩

theorem FaultSet.of_mutes {p : Pod} {r : Reasons} {s t : State}
    (hm : t.mutes.reasons = Vec.put s.mutes.reasons p r) (hl : t.links = s.links) (hs : t.session = s.session) :
    FaultSet p r.fault s t := by
  refine ⟨by rw [hm, Fin.getElem_fin, Vec.getElem_put_self], fun q hq => ?_, fun q => by rw [hl], by rw [hs]⟩
  rw [hm]
  exact congrArg Reasons.fault (Vec.getElem_put_ne _ _ _ _ q.2 fun e => hq (Fin.ext e).symm)

theorem gainFault_faultSet (p : Pod) (s : State) : FaultSet p true s (s.gainFault p) :=
  .of_mutes (r := { s.mutes.reasons[p] with fault := true }) (by rw [gainFault_mutes]) (by simp [State.gainFault])
    (by simp [State.gainFault])

theorem loseFault_faultSet (p : Pod) (s : State) : FaultSet p false s (s.loseFault p) := by
  rw [loseFault_eq]
  exact .of_mutes (r := { s.mutes.reasons[p] with fault := false }) rfl rfl rfl

/-- R42: FAULT follows the change. -/
theorem handOn_faultSet {p : Pod} {c : LinkChange} {s : State} (h : (s.mutes.reasons[p]).fault = !c.before.trusted) :
    FaultSet p (!c.after.trusted) s (State.handOn p s c) := by
  have hevent := linkEvent_faultsKept p c s
  refine FaultSet.then_kept (hevent.then_set ?_) (keysFollow_faultsKept p c _)
  unfold State.faultFollows
  have hnow : ((s.linkEvent p c).mutes.reasons[p]).fault = !c.before.trusted := (hevent.fault p).trans h
  cases hb : c.before.trusted <;> cases ha : c.after.trusted <;> rw [hb] at hnow
  · exact .same hnow
  · exact loseFault_faultSet p _
  · exact gainFault_faultSet p _
  · exact .same hnow

/-! ### The changes of one move -/

/-- The changes handed on lead from one state of a link to another; a change between two states that are trusted alike may
go unreported (R33). -/
def Leads (a b : LinkState) : List LinkChange → Prop
  | [] => a.trusted = b.trusted
  | c :: rest => c.before = a ∧ Leads c.after b rest

theorem foldl_handOn_faultSet {p : Pod} {a b : LinkState} {changes : List LinkChange} {s : State} (hl : Leads a b changes)
    (h : (s.mutes.reasons[p]).fault = !a.trusted) : FaultSet p (!b.trusted) s (changes.foldl (State.handOn p) s) := by
  induction changes generalizing a s with
  | nil => exact .same (by rw [h, show a.trusted = b.trusted from hl])
  | cons c rest ih =>
    obtain ⟨hbefore, hrest⟩ := hl
    have hset := handOn_faultSet (c := c) (hbefore ▸ h)
    exact hset.trans (ih hrest hset.self)

/-- What an arrival or a boundary makes of a link, and the changes it hands on. -/
structure LinkMove (before after : Link) (changes : List LinkChange) : Prop where
  leads : Leads before.state after.state changes
  off : after.state = .off ↔ before.state = .off

theorem moveLink_keepsFault {p : Pod} {l : Link} {changes : List LinkChange} {s : State}
    (h : LinkMove s.links[p] l changes) : KeepsFault s (s.moveLink p l changes) := by
  intro hs q
  have hset : FaultSet p (!l.state.trusted) { s with links := Vec.put s.links p l } (s.moveLink p l changes) :=
    foldl_handOn_faultSet h.leads (hs p).1
  rw [hset.roster]
  by_cases hq : q = p
  · subst hq
    have hlink : ((Vec.put s.links q l)[q]).state = l.state := congrArg Link.state (Vec.getElem_put_self _ _ _)
    rw [hset.self, hset.link, hlink]
    exact ⟨rfl, h.off.trans (hs q).2⟩
  · have hlink : ((Vec.put s.links p l)[q]).state = (s.links[q]).state :=
      congrArg Link.state (Vec.getElem_put_ne _ _ _ _ q.2 fun e => hq (Fin.ext e).symm)
    rw [hset.others q hq, hset.link, hlink]
    exact hs q

/-! ### Arrivals (R29, R30, R36) -/

section
variable {q : LinkParams} {f : MicFrame} {l : Link}

theorem completeLock_linkMove (h : l.state = .acquiring) :
    LinkMove l (l.completeLock q f).1 (l.completeLock q f).2 := by
  unfold Link.completeLock
  split <;> constructor <;> simp [Leads, h]

theorem countLock_linkMove (h : l.state = .acquiring) : LinkMove l (l.countLock q f).1 (l.countLock q f).2 := by
  unfold Link.countLock
  split
  · exact completeLock_linkMove h
  · exact ⟨rfl, .rfl⟩

/-- A link that goes to ACQUIRING, where a lock may be complete at once. -/
theorem LinkMove.then_countLock {l₁ : Link} {c : LinkChange} (hl₁ : l₁.state = .acquiring) (hb : c.before = l.state)
    (ha : c.after = .acquiring) (hoff : l.state ≠ .off) :
    LinkMove l (l₁.countLock q f).1 (c :: (l₁.countLock q f).2) := by
  have hcount := countLock_linkMove (q := q) (f := f) hl₁
  refine ⟨⟨hb, by rw [ha, ← hl₁]; exact hcount.leads⟩, ?_⟩
  rw [hcount.off, hl₁]
  exact iff_of_false (by decide) hoff

theorem outOfWindow_linkMove (h : l.state.takes = true) : LinkMove l (l.outOfWindow q f).1 (l.outOfWindow q f).2 := by
  have hoff : l.state ≠ .off := fun e => by rw [e] at h; cases h
  unfold Link.outOfWindow
  split
  · exact .then_countLock (c := ⟨l.state, .acquiring, .restart⟩) rfl rfl rfl hoff
  · exact ⟨rfl, .rfl⟩

theorem sequenced_linkMove (h : l.state.takes = true) : LinkMove l (l.sequenced q f).1 (l.sequenced q f).2 := by
  unfold Link.sequenced
  split
  · rw [append_eq]
    exact ⟨rfl, .rfl⟩
  · rw [append_eq]
    exact ⟨rfl, .rfl⟩
  · exact ⟨rfl, .rfl⟩
  · exact outOfWindow_linkMove h

/-- R30: the link of an arrival in ACQUIRING before the lock count is looked at. -/
def Link.counted (f : MicFrame) (l : Link) : Link :=
  { l with goodCount := if f.sequence = l.expected then l.goodCount + 1 else 1, expected := f.sequence + 1, arrivalSeen := true }

theorem arrive_linkMove : LinkMove l (l.arrive q f).1 (l.arrive q f).2 := by
  cases h : l.state with
  | off =>
    rw [arrive_of_off h]
    exact ⟨rfl, .rfl⟩
  | absent =>
    rw [arrive_eq_firstFrame h]
    exact .then_countLock (c := ⟨.absent, .acquiring, .firstFrame⟩) rfl h.symm rfl (by rw [h]; decide)
  | acquiring =>
    rw [arrive_eq_acquire h, Link.acquire]
    have hcount := countLock_linkMove (q := q) (f := f) (l := l.counted f) h
    exact ⟨hcount.leads, hcount.off⟩
  | settling | locked | coasting =>
    rw [arrive_of_takes (by rw [h]; rfl)]
    exact sequenced_linkMove (by rw [h]; rfl)

/-! ### The boundary (R31 to R34) -/

theorem emptyTake_linkMove {n : Nat} (h : l.state.trusted = true) : LinkMove l (l.emptyTake q n).1 (l.emptyTake q n).2.2 := by
  have hoff : l.state ≠ .off := fun e => by rw [e] at h; cases h
  unfold Link.emptyTake
  split
  · exact ⟨⟨rfl, rfl⟩, by simpa [Link.unlocked] using hoff⟩
  · exact ⟨h, by simpa using hoff⟩

theorem boundary_linkMove : LinkMove l (l.boundary q).1 (l.boundary q).2.2 := by
  unfold Link.boundary
  cases h : l.state with
  | off | absent => exact ⟨rfl, .rfl⟩
  | acquiring =>
    simp only [Link.acquiringBoundary]
    split <;> constructor <;> simp [Leads, h]
  | settling =>
    cases l.fifo with
    | nil => constructor <;> simp [Leads, h, Link.underrun]
    | cons f rest =>
      simp only [Link.settlingTake, Link.takeOldest]
      split <;> constructor <;> simp [Leads, h]
  | locked =>
    cases l.fifo with
    | nil => exact emptyTake_linkMove (by rw [h]; rfl)
    | cons f rest => exact ⟨rfl, .rfl⟩
  | coasting =>
    cases l.fifo with
    | nil => exact emptyTake_linkMove (by rw [h]; rfl)
    | cons f rest => constructor <;> simp [Leads, h, LinkState.trusted]

end

theorem malformed_state (l : Link) : l.malformed.state = l.state := by
  unfold Link.malformed
  split <;> rfl

section
variable (p : Pod) (s : State)

theorem frameArrives_keepsFault (f : MicFrame) : KeepsFault s (s.frameArrives p f) := moveLink_keepsFault arrive_linkMove

theorem candidateArrives_keepsFault (candidate : List Byte) (ok : Bool) :
    KeepsFault s (s.candidateArrives p candidate ok) := by
  unfold State.candidateArrives
  split
  · exact frameArrives_keepsFault p s _
  · exact moveLink_keepsFault (changes := []) ⟨by rw [malformed_state]; rfl, by rw [malformed_state]⟩

theorem linkBoundary_keepsFault : KeepsFault s (s.linkBoundary p) := moveLink_keepsFault boundary_linkMove

theorem linkEventOf_keepsFault (c : LinkCause) : KeepsFault s (s.linkEventOf p c) := by
  unfold State.linkEventOf
  split
  · exact linkBoundary_keepsFault p s
  · exact .refl s

end

/-! ### The mix period boundary -/

theorem work_keepsFault (before : State) (a : Arrivals) (g : Progress) (w : Work) :
    KeepsFault g.state (g.work before a w).state := by
  cases w with
  | take p => exact (linkBoundary_keepsFault p g.state).trans (.of_moves (moves_podInputs _ _) (by decide))
  | keys =>
    rw [work_keys]
    exact ((ageKeys_faultsKept _).trans (takeKeys_faultsKept _ _)).keeps
  | automixer => exact .of_moves (work_moves before a g .automixer) (by decide)
  | player n => exact .of_moves (work_moves before a g (.player n)) (by simp [partsOf, playerParts])
  | levelControl => exact .of_moves (work_moves before a g .levelControl) (by decide)
  | session => exact .of_moves (work_moves before a g .session) (by decide)

theorem works_keepFault (before : State) (a : Arrivals) (l : List Work) (g : Progress) :
    KeepsFault g.state (l.foldl (Progress.work before a) g).state := by
  induction l generalizing g with
  | nil => exact .refl _
  | cons w rest ih => exact (work_keepsFault before a g w).trans (ih _)

theorem sendFeeds_faultsKept (s : State) : FaultsKept s s.sendFeeds := by
  refine ⟨fun _ => rfl, fun p => ?_, rfl⟩
  rw [sendFeeds_links]
  split <;> rfl

theorem giveLeds_faultsKept (before s : State) : FaultsKept s (s.giveLeds before) := ⟨fun _ => rfl, fun _ => rfl, rfl⟩

theorem boundary_keepsFault (order : List Work) (trunks : Vector Frame 4) (s : State) :
    KeepsFault s (s.boundary order trunks) := by
  have hbegun : KeepsFault s s.begun := .of_moves (begun_moves s) (by decide)
  have hworked : KeepsFault s.begun (s.worked order) := works_keepFault s _ _ { state := s.begun, keys := _ }
  have hducked : KeepsFault (s.worked order) ((s.worked order).judgeDucks s) := .of_moves (judgeDucks_moves _ s) (by decide)
  have hplaced : KeepsFault _ (((s.worked order).judgeDucks s).placeTrunks trunks) :=
    hducked.trans (.of_moves (moves_trunkInputs _ _) (by decide))
  have hmeasured : KeepsFault _ (((s.worked order).judgeDucks s).placeTrunks trunks).measureAll :=
    hplaced.trans (.of_moves (moves_detectors _ _) (by decide))
  have hready : KeepsFault (s.worked order) (s.ready order trunks) :=
    (hmeasured.trans (giveLeds_faultsKept s _).keeps).trans (sendFeeds_faultsKept _).keeps
  rw [boundary_eq]
  exact ((hbegun.trans hworked).trans hready).trans (.of_moves (openPeriod_moves _) (by decide))

end Sys2Proof.Machine
end

section
/-! Every step keeps FAULT on the pods whose link is not trusted, and the link OFF on those outside the roster: O57. -/

namespace Sys2Proof.Machine

/-! ### SET_ROSTER -/

/-- R35, R42: the sides of a pod after a roster change fit the new roster. -/
theorem takeRoster_keepsFault {new : Roster} (h : ∀ p : Pod, new.chairs[p] = true → new.pods[p] = true) (s : State) :
    KeepsFault s (s.takeRoster new) := by
  intro hs p
  obtain ⟨hfault, hoff⟩ := hs p
  rw [RosterChange.takeRoster_eq hs h, RosterChange.after_all]
  have hreasons : (Vec.tab fun q => RosterChange.reasons s.session.roster new s q)[p] =
      RosterChange.reasons s.session.roster new s p := Vec.getElem_tab _ _ p.2
  have hlink : (Vec.tab fun q => RosterChange.link s.session.roster new s q)[p] = RosterChange.link s.session.roster new s p :=
    Vec.getElem_tab _ _ p.2
  dsimp only
  rw [hreasons, hlink]
  unfold RosterChange.reasons RosterChange.link RosterChange.leaves RosterChange.enters
  cases hold : s.session.roster.pods[p] <;> cases hnew : new.pods[p]
  · exact ⟨hfault, iff_of_true (hoff.2 hold) rfl⟩
  · have hlost : (s.mutes.reasons[p]).fault = true := by rw [hfault, hoff.2 hold]; rfl
    exact ⟨hlost, iff_of_false (fun e => by cases e) (by decide)⟩
  · exact ⟨rfl, iff_of_true rfl rfl⟩
  · have hon : (s.links[p]).state ≠ .off := fun e => by rw [hoff.1 e] at hold; cases hold
    exact ⟨hfault, iff_of_false hon (by decide)⟩

/-! ### Requests (R193) -/

theorem takeRequest_keepsFault (ty tag : Byte) (n : Nat) {judge : State → Verdict} (s : State)
    (h : ∀ v u, KeepsFault u ((judge v).effect u)) : KeepsFault s (takeRequest ty tag n judge s) := by
  have hhunt : KeepsFault s s.hunt := .of_moves (hunt_moves s) (by decide)
  rcases takeRequest_cases ty tag n judge s with ⟨_, h₁⟩ | ⟨_, h₁⟩ | ⟨ht, h₁⟩ <;> rw [h₁]
  · exact .refl s
  · exact hhunt.trans (.of_moves (controlError_moves _ _ _ _ _) (by decide))
  · have hanswered : KeepsFault s.hunt (s.hunt.queueAnswer ty tag (judge s.hunt).status (judge s.hunt).fields) :=
      .of_moves (queueAnswer_moves (s := s.hunt) _ _ _ _ ht.2) (by decide)
    exact (hhunt.trans hanswered).trans (h _ _)

section
variable (v u : State)

theorem judgeSetRoster_keepsFault (pods chairs trunks : List Byte) :
    KeepsFault u ((judgeSetRoster pods chairs trunks v).effect u) := by
  unfold judgeSetRoster
  cases hv : rosterValid pods chairs trunks with
  | false => exact .refl u
  | true =>
    rw [if_neg (by decide)]
    split
    · rw [rosterOf_eq]
      exact takeRoster_keepsFault (rosterNamed_chairs ((rosterValid_iff _ _ _).1 hv)) u
    · exact .refl u

theorem judgeGetLinks_keepsFault (first count clear : Byte) : KeepsFault u ((judgeGetLinks first count clear v).effect u) := by
  have hcleared (listed : List Pod) : FaultsKept u (u.clearLinkCounters listed) := by
    refine ⟨fun _ => rfl, fun p => ?_, rfl⟩
    simp only [State.clearLinkCounters, Fin.getElem_fin, Vec.getElem_tab]
    split <;> rfl
  unfold judgeGetLinks
  split
  · simp only
    split
    · exact (hcleared _).keeps
    · exact .refl u
  · exact .refl u

theorem judgeSetMute_keepsFault (channel host : Byte) : KeepsFault u ((judgeSetMute channel host v).effect u) := by
  unfold judgeSetMute
  split
  · exact .refl u
  · split
    · exact (setHost_faultsKept _ u _).keeps
    · exact (setTrunkHost_faultsKept u _ _).keeps
    · exact .refl u

theorem judgeClearReasons_keepsFault (channel reasons : Byte) :
    KeepsFault u ((judgeClearReasons channel reasons v).effect u) := by
  unfold judgeClearReasons
  split
  · exact .refl u
  · split
    · exact .refl u
    · split
      · exact .refl u
      · exact (clearReasons_faultsKept u _ _).keeps

theorem judgeSetPrivacy_keepsFault (value : Byte) : KeepsFault u ((judgeSetPrivacy value v).effect u) := by
  unfold judgeSetPrivacy
  split
  · exact .refl u
  · exact (setPrivacy_faultsKept u _).keeps

theorem judgeSetChairMute_keepsFault (value : Byte) : KeepsFault u ((judgeSetChairMute value v).effect u) := by
  unfold judgeSetChairMute
  split
  · exact .refl u
  · exact (setChairMute_faultsKept u _).keeps

theorem judgeSetKeyMode_keepsFault (channel mode : Byte) : KeepsFault u ((judgeSetKeyMode channel mode v).effect u) := by
  unfold judgeSetKeyMode
  split
  · exact (setKeyMode_faultsKept u _ _).keeps
  · exact .refl u

/-- A setting of the mute controller. -/
theorem mutes_keepsFault (m : Mutes) (hm : m.reasons = u.mutes.reasons) : KeepsFault u { u with mutes := m } :=
  (FaultsKept.of_reasons (moves_mutes u m) (by decide) hm).keeps

end

theorem serve_keepsFault (i : Instr) (s : State) : KeepsFault s (serve i s) := by
  cases i with
  | setRoster => exact takeRequest_keepsFault _ _ _ s fun v u => judgeSetRoster_keepsFault v u _ _ _
  | getLinks => exact takeRequest_keepsFault _ _ _ s fun v u => judgeGetLinks_keepsFault v u _ _ _
  | setMute => exact takeRequest_keepsFault _ _ _ s fun v u => judgeSetMute_keepsFault v u _ _
  | clearReasons => exact takeRequest_keepsFault _ _ _ s fun v u => judgeClearReasons_keepsFault v u _ _
  | setPrivacy => exact takeRequest_keepsFault _ _ _ s fun v u => judgeSetPrivacy_keepsFault v u _
  | setChairMute => exact takeRequest_keepsFault _ _ _ s fun v u => judgeSetChairMute_keepsFault v u _
  | setKeyMode => exact takeRequest_keepsFault _ _ _ s fun v u => judgeSetKeyMode_keepsFault v u _ _
  | setKeyGuard => exact takeRequest_keepsFault _ _ _ s fun v u => mutes_keepsFault u _ rfl
  | setMuteRamp => exact takeRequest_keepsFault _ _ _ s fun v u => mutes_keepsFault u _ rfl
  | _ => exact .of_moves (serve_moves _ s) (by simp [requestParts, effectParts, gateParts, visitParts])

/-! ### Frames (R190 to R193) -/

theorem takeFrame_keepsFault (ty tag : Byte) (payload : List Byte) (s : State) :
    KeepsFault s (s.takeFrame ty tag payload) := by
  unfold State.takeFrame
  split
  · exact takeRequest_keepsFault _ _ _ s fun _ u => .refl u
  · refine takeRequest_keepsFault _ _ _ s fun v u => ?_
    unfold judgeBadLength
    split
    · split
      · exact .refl u
      · exact .refl u
    · exact .refl u
  · exact serve_keepsFault _ s

theorem hunt_controlError_keepsFault (cause : ControlCause) (n : Nat) (ty tag : Byte) (s : State) :
    KeepsFault s (s.hunt.controlError cause n ty tag) :=
  (KeepsFault.of_moves (hunt_moves s) (by decide)).trans (.of_moves (controlError_moves _ _ _ _ _) (by decide))

theorem judgeFrame_keepsFault (body : List Byte) (sum : Byte) (s : State) : KeepsFault s (s.judgeFrame body sum) := by
  unfold State.judgeFrame
  split
  · exact (KeepsFault.of_moves (hunt_moves s) (by decide)).trans (takeFrame_keepsFault _ _ _ _)
  · exact hunt_controlError_keepsFault _ _ _ _ s

theorem receiveByte_keepsFault (b : Byte) (s : State) : KeepsFault s (s.receiveByte b) := by
  have hset (r : Receiver) : KeepsFault s (s.setReceiver r) := .of_moves (setReceiver_moves r s) (by decide)
  unfold State.receiveByte
  simp only
  split
  · split
    · exact hset _
    · exact .refl s
  · split
    · exact hset _
    · exact .of_moves (hunt_moves s) (by decide)
  · exact hset _
  · exact judgeFrame_keepsFault _ _ s

theorem framingError_keepsFault (b : Byte) (s : State) : KeepsFault s (s.framingError b) := by
  unfold State.framingError
  simp only
  split
  · exact .refl s
  all_goals exact hunt_controlError_keepsFault _ _ _ _ s

/-! ### Resets (R185 to R188) -/

/-- At reset every pod carries FAULT, every link is OFF, and the roster is empty. -/
theorem blocksReset_faultSound (store : ClipStore) (r : StartReason) (ph : Phase) (latch : Bool) (l : List Instr) :
    FaultSound (State.blocksReset store r ph latch l) := by
  intro p
  simp [State.blocksReset, Mutes.reset, Roster.reset, Link.reset, LinkState.trusted]

theorem endReset_keepsFault (r : StartReason) (s : State) : KeepsFault s (s.endReset r) :=
  (KeepsFault.of_moves (moves_resets s _ (by rfl) (by rfl)) (by decide)).trans
    (.of_moves (moves_postAlways _ _ _ (by decide)) (by decide))

/-! ### Every command -/

theorem unlessInReset_keepsFault {f : State → State} (s : State) (h : ∀ u, KeepsFault u (f u)) :
    KeepsFault s (unlessInReset f s) := by
  unfold unlessInReset
  split
  · exact h s
  · exact h s
  · exact .refl s
  · exact .refl s

theorem whileListening_keepsFault {f : State → State} (s : State) (h : ∀ u, KeepsFault u (f u)) :
    KeepsFault s (whileListening f s) := by
  unfold whileListening
  split
  · exact h s
  · exact .refl s

theorem ite_keepsFault {c : Prop} [Decidable c] {s t : State} (h : KeepsFault s t) : KeepsFault s (if c then t else s) := by
  split
  · exact h
  · exact .refl s

theorem exec_keepsFault (c : Instr) (s : State) : ∃ t : State, exec c s = .next t ∧ KeepsFault s t := by
  cases hc : c with
  | mixPeriodBoundary order trunks => exact ⟨_, rfl, unlessInReset_keepsFault s (boundary_keepsFault order trunks)⟩
  | micFrameArrival p l ok => exact ⟨_, rfl, unlessInReset_keepsFault s fun u => candidateArrives_keepsFault p u l ok⟩
  | lockCount p f =>
    exact ⟨_, rfl, unlessInReset_keepsFault s fun u => ite_keepsFault (frameArrives_keepsFault p u f)⟩
  | restart p f =>
    exact ⟨_, rfl, unlessInReset_keepsFault s fun u => ite_keepsFault (frameArrives_keepsFault p u f)⟩
  | settleDone p =>
    exact ⟨_, rfl, unlessInReset_keepsFault s fun u => ite_keepsFault
      ((linkBoundary_keepsFault p u).trans (takeKeys_faultsKept _ _).keeps)⟩
  | silence p => exact ⟨_, rfl, unlessInReset_keepsFault s fun u => linkEventOf_keepsFault p u _⟩
  | unlock p => exact ⟨_, rfl, unlessInReset_keepsFault s fun u => linkEventOf_keepsFault p u _⟩
  | openCountReached p =>
    exact ⟨_, rfl, unlessInReset_keepsFault s fun u =>
      .of_moves (judgedWith_moves u .request (fun t => collect_moves t [p]) p) (by decide)⟩
  | holdExpiry p =>
    exact ⟨_, rfl, unlessInReset_keepsFault s fun u => .of_moves (judgedWith_moves u .expired (expire_moves · p) p) (by decide)⟩
  | waitTimeout p =>
    exact ⟨_, rfl, unlessInReset_keepsFault s fun u => .of_moves (judgedWith_moves u .timeout (timeOut_moves · p) p) (by decide)⟩
  | noiseFloorRise c =>
    exact ⟨_, rfl, unlessInReset_keepsFault s fun u => ite_keepsFault (.of_moves (moves_detectors u _) (by decide))⟩
  | intervalEnd =>
    exact ⟨_, rfl, unlessInReset_keepsFault s fun u => ite_keepsFault (.of_moves (endInterval_moves u) (by decide))⟩
  | segmentEnd n i =>
    exact ⟨_, rfl, unlessInReset_keepsFault s fun u => ite_keepsFault (.of_moves (playPosition_moves u n i) (by decide))⟩
  | masterRampArrival =>
    exact ⟨_, rfl, unlessInReset_keepsFault s fun u => ite_keepsFault
      ((KeepsFault.of_moves (onMasterRamp_moves (fun _ h => Ramp.clearArrival_bounded h) u) (by decide)).trans
        (.of_moves (masterArrival_moves _) (by decide)))⟩
  | playerRampArrival n =>
    exact ⟨_, rfl, unlessInReset_keepsFault s fun u => ite_keepsFault
      ((KeepsFault.of_moves (onPlayerRamp_moves (fun _ h => Ramp.clearArrival_bounded h) u n) (by decide)).trans
        (.of_moves (playerArrival_moves _ n) (by decide)))⟩
  | badCheckFrame body check =>
    exact ⟨_, rfl, whileListening_keepsFault s fun u => ite_keepsFault (judgeFrame_keepsFault body _ u)⟩
  | framingError b => exact ⟨_, rfl, whileListening_keepsFault s (framingError_keepsFault b)⟩
  | badFrameLength b =>
    exact ⟨_, rfl, whileListening_keepsFault s fun u => ite_keepsFault (.of_moves (hunt_moves u) (by decide))⟩
  | gapTimerExpiry =>
    refine ⟨_, rfl, whileListening_keepsFault s fun u => ?_⟩
    simp only
    split
    · exact .refl u
    all_goals exact hunt_controlError_keepsFault _ _ _ _ u
  | messageSent =>
    refine ⟨_, rfl, unlessInReset_keepsFault s fun u => ?_⟩
    split
    · exact fun _ => blocksReset_faultSound _ _ _ _ _
    · exact .of_moves (dropSent_moves u) (by decide)
  | unknownRequest ty tag l =>
    refine ⟨_, rfl, ?_⟩
    split
    · exact .refl s
    · exact takeRequest_keepsFault _ _ _ s fun _ u => .refl u
  | powerOn held => exact ⟨_, rfl, fun _ => blocksReset_faultSound _ _ _ _ _⟩
  | resetPin => exact ⟨_, rfl, fun _ => blocksReset_faultSound _ _ _ _ _⟩
  | softReset => exact ⟨_, rfl, ite_keepsFault fun _ => blocksReset_faultSound _ _ _ _ _⟩
  | resetEnd =>
    refine ⟨_, rfl, ?_⟩
    split
    · exact endReset_keepsFault _ s
    · exact endReset_keepsFault _ s
    · exact .refl s
    · exact .refl s
  | controlByteReceived b => exact ⟨_, rfl, whileListening_keepsFault s (receiveByte_keepsFault b)⟩
  | _ => exact ⟨serve c s, by rw [hc]; rfl, serve_keepsFault c s⟩

/-- Settles O57: the command at the front of the queue keeps FAULT true to the links. -/
theorem stepKeepsTheFaultReason : Obligations.StepKeepsTheFaultReason := by
  intro s t hs h
  unfold step at h
  split at h
  · cases h
    exact hs
  · rename_i c rest _
    obtain ⟨u, hu, hkeeps⟩ := exec_keepsFault c { s with pending := rest }
    rw [hu] at h
    cases h
    exact hkeeps hs

end Sys2Proof.Machine
end

section
/-! SUPPORT. What the keys of one pod look at and say, under everything that is done about other pods and other blocks
(R91 to R95). -/

namespace Sys2Proof.Machine

/-- The two keys of a pod, its KEY reason and its key mode. -/
structure KeyView where
  talkKey : KeyRecord
  allKey : KeyRecord
  key : Bool
  mode : KeyMode

def State.keyView (p : Pod) (s : State) : KeyView :=
  { talkKey := s.mutes.talkKey[p], allKey := s.mutes.allKey[p], key := (s.mutes.reasons[p]).key
    mode := s.mutes.keyMode[p] }

/-- R95: both keys are released, and KEY follows by the mode. -/
def KeyView.released (v : KeyView) : KeyView :=
  { v with
    talkKey := { v.talkKey with pressed := false }, allKey := { v.allKey with pressed := false }
    key := v.mode.keyAfter v.key false }

/-- R91: the keys at the next boundary. -/
def KeyView.older (v : KeyView) : KeyView := { v with talkKey := v.talkKey.older, allKey := v.allKey.older }

/-- R92: the keys of a first take. -/
def KeyView.first (k : KeyLevels) (v : KeyView) : KeyView :=
  { v with
    talkKey := { pressed := k.talk, guardAge := 100 }, allKey := { pressed := k.all, guardAge := 100 }
    key := v.mode.keyAfter v.key k.talk }

theorem keyView_of_mutes {p : Pod} {s t : State} (h : t.mutes = s.mutes) : t.keyView p = s.keyView p := by
  rw [State.keyView, State.keyView, h]

theorem keyView_of_moves {p : Pod} {A : List Part} {s t : State} (h : Moves A s t) (hA : .mutes ∉ A) :
    t.keyView p = s.keyView p := keyView_of_mutes (h.frame .mutes hA)

/-- A pass that leaves the view of a pod alone at each member. -/
theorem foldl_keyView {α : Type} {p : Pod} {f : State → α → State} (h : ∀ t a, (f t a).keyView p = t.keyView p) (l : List α)
    (s : State) : (l.foldl f s).keyView p = s.keyView p := by
  induction l generalizing s with
  | nil => rfl
  | cons a rest ih => exact (ih _).trans (h s a)

section
variable {p q : Pod} (s : State)

/-- A reason set written: that of another pod, or with the same KEY. -/
theorem setReasons_keyView {r : Reasons} (h : q = p → r.key = (s.mutes.reasons[p]).key) :
    (s.setReasons q r).keyView p = s.keyView p := by
  simp only [State.keyView, setReasons_mutes]
  congr 1
  by_cases hq : q = p
  · subst hq
    rw [← h rfl]
    exact congrArg Reasons.key (Vec.getElem_put_self _ _ _)
  · exact congrArg Reasons.key (Vec.getElem_put_ne _ _ _ _ p.2 fun e => hq (Fin.ext e))

theorem setChair_keyView (b : Bool) : (s.setChair q b).keyView p = s.keyView p :=
  setReasons_keyView s fun e => by rw [e]

theorem gainFault_keyView : (s.gainFault q).keyView p = s.keyView p := by
  rw [State.gainFault]
  exact (keyView_of_mutes (State.onGateRamp_mutes _ _ _)).trans (setReasons_keyView s fun e => by rw [e])

theorem loseFault_keyView : (s.loseFault q).keyView p = s.keyView p := by
  rw [State.loseFault]
  exact (keyView_of_mutes (State.retargetGate_mutes _ _)).trans (setReasons_keyView s fun e => by rw [e])

theorem leaveTalkList_keyView (a : TalkAction) : (s.leaveTalkList q a).keyView p = s.keyView p := by
  rw [State.keyView, leaveTalkList_mutes]
  rfl

theorem clearTalkList_keyView : s.clearTalkList.keyView p = s.keyView p := by
  unfold State.clearTalkList
  split
  · rfl
  · exact keyView_of_mutes (s := s.setTalkList []) (State.talkReport_mutes _ _ _)

theorem chairMuteOn_keyView : s.chairMuteOn.keyView p = s.keyView p := by
  refine (foldl_keyView (fun t q => ?_) _ _).trans rfl
  split
  · exact setChair_keyView t true
  · rfl

theorem chairMuteOff_keyView : s.chairMuteOff.keyView p = s.keyView p := by
  refine (clearTalkList_keyView _).trans ((foldl_keyView (fun t q => ?_) _ _).trans rfl)
  split
  · exact setChair_keyView t false
  · rfl

theorem setChairMute_keyView (on : Bool) : (s.setChairMute on).keyView p = s.keyView p := by
  unfold State.setChairMute
  split
  · rfl
  · split
    · exact chairMuteOn_keyView s
    · exact chairMuteOff_keyView s

theorem acceptEdge_keyView (isAll level : Bool) {effect : State → State} (h : ∀ t, (effect t).keyView p = t.keyView p) :
    (s.acceptEdge q isAll level effect).keyView p = s.keyView p :=
  (h _).trans (keyView_of_moves (moves_post s _ _ _ (by decide)) (by decide))

theorem talkPress_keyView : (s.talkPress q).keyView p = s.keyView p := by
  unfold State.talkPress
  split
  · exact leaveTalkList_keyView s _
  · split
    · exact keyView_of_mutes (s := s.setTalkList (s.mutes.talkList ++ [q])) (State.talkReport_mutes _ _ _)
    · exact keyView_of_mutes (State.talkReport_mutes _ _ _)

theorem allEdge_keyView (pressed : Bool) : (s.allEdge q pressed).keyView p = s.keyView p := by
  unfold State.allEdge
  split
  · exact setChairMute_keyView s _
  · rfl

/-! ### The other pods' keys -/

section
variable (h : q ≠ p)
include h

theorem keyFollows_keyView_other (b : Bool) : (s.keyFollows q b).keyView p = s.keyView p := by
  rw [keyFollows_eq]
  exact setReasons_keyView s fun e => absurd e h

theorem setTalkKey_keyView_other (k : KeyRecord) : (s.setTalkKey q k).keyView p = s.keyView p := by
  simp only [State.keyView, State.setTalkKey]
  congr 1
  exact Vec.getElem_put_ne _ _ _ _ p.2 fun e => h (Fin.ext e)

theorem setAllKey_keyView_other (k : KeyRecord) : (s.setAllKey q k).keyView p = s.keyView p := by
  simp only [State.keyView, State.setAllKey]
  congr 1
  exact Vec.getElem_put_ne _ _ _ _ p.2 fun e => h (Fin.ext e)

theorem revertKeys_keyView_other : (s.revertKeys q).keyView p = s.keyView p := by
  rw [State.revertKeys]
  refine (keyFollows_keyView_other _ h false).trans ?_
  exact (setAllKey_keyView_other (s.setTalkKey q { s.mutes.talkKey[q] with pressed := false }) h
    { s.mutes.allKey[q] with pressed := false }).trans (setTalkKey_keyView_other s h _)

theorem talkEdge_keyView_other (pressed : Bool) : (s.talkEdge q pressed).keyView p = s.keyView p := by
  have hkey : (s.talkEdgeKey q pressed).keyView p = s.keyView p := by
    unfold State.talkEdgeKey
    split
    · split
      · exact setReasons_keyView s fun e => absurd e h
      · rfl
    all_goals exact keyFollows_keyView_other s h pressed
  unfold State.talkEdge
  split
  · exact (talkPress_keyView _).trans hkey
  · exact hkey

theorem takeAllLevel_keyView_other (k : KeyLevels) : (s.takeAllLevel q k).keyView p = s.keyView p := by
  unfold State.takeAllLevel
  split
  · exact setAllKey_keyView_other s h _
  · split
    · exact (acceptEdge_keyView _ true k.all fun t => allEdge_keyView t k.all).trans (setAllKey_keyView_other s h _)
    · rfl

theorem takeTalkLevel_keyView_other (k : KeyLevels) : (s.takeTalkLevel q k).keyView p = s.keyView p := by
  unfold State.takeTalkLevel
  split
  · exact (keyFollows_keyView_other _ h _).trans (setTalkKey_keyView_other s h _)
  · split
    · exact (acceptEdge_keyView _ false k.talk fun t => talkEdge_keyView_other t h k.talk).trans
        (setTalkKey_keyView_other s h _)
    · rfl

end

/-! ### The pod's own keys -/

theorem keyFollows_keyView_self (b : Bool) :
    (s.keyFollows p b).keyView p = { s.keyView p with key := (s.mutes.keyMode[p]).keyAfter (s.mutes.reasons[p]).key b } := by
  rw [keyFollows_eq]
  simp only [State.keyView, setReasons_mutes]
  congr 1
  exact congrArg Reasons.key (Vec.getElem_put_self _ _ _)

theorem setTalkKey_keyView_self (k : KeyRecord) : (s.setTalkKey p k).keyView p = { s.keyView p with talkKey := k } := by
  simp only [State.keyView, State.setTalkKey]
  congr 1
  exact Vec.getElem_put_self _ _ _

theorem setAllKey_keyView_self (k : KeyRecord) : (s.setAllKey p k).keyView p = { s.keyView p with allKey := k } := by
  simp only [State.keyView, State.setAllKey]
  congr 1
  exact Vec.getElem_put_self _ _ _

/-- R95. -/
theorem revertKeys_keyView_self : (s.revertKeys p).keyView p = (s.keyView p).released := by
  let u := (s.setTalkKey p { s.mutes.talkKey[p] with pressed := false }).setAllKey p { s.mutes.allKey[p] with pressed := false }
  have hu : u.keyView p = { s.keyView p with
      talkKey := { s.mutes.talkKey[p] with pressed := false }, allKey := { s.mutes.allKey[p] with pressed := false } } := by
    rw [setAllKey_keyView_self, setTalkKey_keyView_self]
  have hrevert : s.revertKeys p = u.keyFollows p false := rfl
  rw [hrevert, keyFollows_keyView_self, hu]
  rfl

theorem ageKeys_keyView : s.ageKeys.keyView p = (s.keyView p).older := by
  simp [State.keyView, State.ageKeys, KeyView.older]

/-! ### The two passes (R91, R92) -/

/-- The turns of other pods in a pass. -/
theorem keyTurns_keyView {one : Pod → KeyLevels → State → State}
    (hone : ∀ (q : Pod) (k : KeyLevels) (t : State), q ≠ p → (one q k t).keyView p = t.keyView p) (keys : TakenKeys)
    {l : List Pod} (hl : p ∉ l) : (l.foldl (keyTurn one keys) s).keyView p = s.keyView p := by
  induction l generalizing s with
  | nil => rfl
  | cons q rest ih =>
    rw [List.mem_cons, not_or] at hl
    refine (ih _ hl.2).trans ?_
    cases hk : keys[q] with
    | none => rw [keyTurn_of_none hk]
    | some k =>
      rw [keyTurn_of_some hk]
      exact hone q k s fun e => hl.1 e.symm

/-- In a pass a pod's view changes at its own turn alone. -/
theorem keyPass_keyView {one : Pod → KeyLevels → State → State}
    (hone : ∀ (q : Pod) (k : KeyLevels) (t : State), q ≠ p → (one q k t).keyView p = t.keyView p) (keys : TakenKeys) :
    ∃ u : State, u.keyView p = s.keyView p ∧ (keyPass one keys s).keyView p = (keyTurn one keys u p).keyView p := by
  obtain ⟨l₁, l₂, hsplit, h₁, h₂⟩ := allPods_split p
  refine ⟨l₁.foldl (keyTurn one keys) s, keyTurns_keyView s hone keys h₁, ?_⟩
  rw [keyPass_eq, hsplit, List.foldl_append, List.foldl_cons]
  exact keyTurns_keyView _ hone keys h₂

theorem takeKeys_keyView_of_none {keys : TakenKeys} (h : keys[p] = none) : (s.takeKeys keys).keyView p = s.keyView p := by
  obtain ⟨u, hu, hall⟩ := keyPass_keyView s (fun q k t hq => takeAllLevel_keyView_other t hq k) keys
  obtain ⟨v, hv, htalk⟩ := keyPass_keyView (keyPass State.takeAllLevel keys s)
    (fun q k t hq => takeTalkLevel_keyView_other t hq k) keys
  rw [keyTurn_of_none h] at hall htalk
  exact htalk.trans (hv.trans (hall.trans hu))

/-- R92: the levels of a first take are adopted. -/
theorem takeKeys_keyView_of_first {keys : TakenKeys} {k : KeyLevels} (h : keys[p] = some k) (hk : k.first = true) :
    (s.takeKeys keys).keyView p = (s.keyView p).first k := by
  obtain ⟨u, hu, hall⟩ := keyPass_keyView s (fun q k t hq => takeAllLevel_keyView_other t hq k) keys
  obtain ⟨v, hv, htalk⟩ := keyPass_keyView (keyPass State.takeAllLevel keys s)
    (fun q k t hq => takeTalkLevel_keyView_other t hq k) keys
  rw [keyTurn_of_some h, State.takeAllLevel, if_pos hk, setAllKey_keyView_self, hu] at hall
  have hview : v.keyView p = { s.keyView p with allKey := { pressed := k.all, guardAge := 100 } } := hv.trans hall
  rw [keyTurn_of_some h, State.takeTalkLevel, if_pos hk, keyFollows_keyView_self, setTalkKey_keyView_self] at htalk
  have hkey : (v.mutes.reasons[p]).key = (s.mutes.reasons[p]).key := congrArg KeyView.key hview
  have hmode : v.mutes.keyMode[p] = s.mutes.keyMode[p] := congrArg KeyView.mode hview
  refine htalk.trans ?_
  rw [hview]
  simp only [KeyView.first, State.keyView, State.setTalkKey, hkey, hmode]

end

end Sys2Proof.Machine
end

section
/-! SUPPORT. The keys of one pod at a boundary (R91, R92, R95): its own take, then the ageing and the passes over the key
levels of all the takes. -/

namespace Sys2Proof.Machine

/-! ### The keys under the changes of a link (R95) -/

theorem faultFollows_keyView {p q : Pod} (c : LinkChange) (s : State) : (s.faultFollows q c).keyView p = s.keyView p := by
  unfold State.faultFollows
  split
  · exact gainFault_keyView s
  · split
    · exact loseFault_keyView s
    · rfl

theorem linkEvent_keyView {p q : Pod} (c : LinkChange) (s : State) : (s.linkEvent q c).keyView p = s.keyView p :=
  keyView_of_mutes (State.linkEvent_mutes _ _ _)

section
variable {p q : Pod} (c : LinkChange) (s : State)

theorem handOn_keyView_other (h : q ≠ p) : (State.handOn q s c).keyView p = s.keyView p := by
  have hbefore : ((s.linkEvent q c).faultFollows q c).keyView p = s.keyView p :=
    (faultFollows_keyView c _).trans (linkEvent_keyView c s)
  rw [← hbefore, State.handOn, State.keysFollow]
  have hkeys (t : State) : (if c.before.takes && !c.after.takes then t.revertKeys q else t).keyView p = t.keyView p := by
    split
    · exact revertKeys_keyView_other t h
    · rfl
  split
  · exact (leaveTalkList_keyView _ _).trans (hkeys _)
  · exact hkeys _

theorem handOn_keyView_self : (State.handOn p s c).keyView p =
    if c.before.takes && !c.after.takes then (s.keyView p).released else s.keyView p := by
  have hbefore : ((s.linkEvent p c).faultFollows p c).keyView p = s.keyView p :=
    (faultFollows_keyView c _).trans (linkEvent_keyView c s)
  have hkeys : (if c.before.takes && !c.after.takes then ((s.linkEvent p c).faultFollows p c).revertKeys p
      else (s.linkEvent p c).faultFollows p c).keyView p =
      if c.before.takes && !c.after.takes then (s.keyView p).released else s.keyView p := by
    split
    · rw [revertKeys_keyView_self, hbefore]
    · exact hbefore
  rw [State.handOn, State.keysFollow, ← hkeys]
  split
  · exact leaveTalkList_keyView _ _
  · rfl

end

theorem moveLink_keyView_other {p q : Pod} (h : q ≠ p) (l : Link) (changes : List LinkChange) (s : State) :
    (s.moveLink q l changes).keyView p = s.keyView p :=
  (foldl_keyView (fun t c => handOn_keyView_other c t h) changes _).trans rfl

/-! ### The order of the work (R91) -/

theorem keysAfterTakes_split (l : List Work) :
    ∃ l₁ l₂ : List Work, keysAfterTakes l = l₁ ++ .keys :: l₂ ∧ ∀ p : Pod, Work.take p ∉ l₂ := by
  induction l with
  | nil => exact ⟨[], [], rfl, by simp⟩
  | cons w rest ih =>
    rw [keysAfterTakes]
    split
    · obtain ⟨l₁, l₂, hsplit, hl₂⟩ := ih
      exact ⟨w :: l₁, l₂, by rw [hsplit]; rfl, hl₂⟩
    · rename_i hnone
      refine ⟨[], w :: rest, rfl, fun p hp => hnone ?_⟩
      exact List.any_eq_true.2 ⟨_, hp, rfl⟩

/-- R91: no take follows the passes over the key levels. -/
theorem deferKeys_split {l : List Work} (h : Work.keys ∈ l) :
    ∃ l₁ l₂ : List Work, deferKeys l = l₁ ++ .keys :: l₂ ∧ ∀ p : Pod, Work.take p ∉ l₂ := by
  induction l with
  | nil => cases h
  | cons w rest ih =>
    cases w with
    | keys => exact keysAfterTakes_split rest
    | take q | automixer | player q | levelControl | session =>
      obtain ⟨l₁, l₂, hsplit, hl₂⟩ := ih (by simpa using h)
      exact ⟨_ :: l₁, l₂, by rw [deferKeys, hsplit]; rfl; simp, hl₂⟩

/-- The order of a boundary's work, as one pod's keys see it: its take, and then the passes over the keys. -/
theorem schedule_of_pod (p : Pod) (order : List Work) :
    ∃ l₁ l₂ l₃ : List Work, schedule order = l₁ ++ .take p :: l₂ ++ .keys :: l₃ ∧
      (∀ w ∈ l₁ ++ l₂ ++ l₃, w ≠ .take p ∧ w ≠ .keys) := by
  have hkeys : Work.keys ∈ keepFirst (order ++ defaultOrder) := mem_keepFirst.2 (List.mem_append_right _ (mem_defaultOrder _))
  obtain ⟨a, l₃, hsplit, hl₃⟩ := deferKeys_split hkeys
  have htake : Work.take p ∈ a := by
    have hmem := mem_schedule (.take p) order
    rw [schedule, hsplit, List.mem_append, List.mem_cons] at hmem
    rcases hmem with h | h | h
    · exact h
    · cases h
    · exact absurd h (hl₃ p)
  obtain ⟨l₁, l₂, rfl⟩ := List.append_of_mem htake
  have hnodup := nodup_schedule order
  rw [schedule, hsplit] at hnodup
  refine ⟨l₁, l₂, l₃, hsplit, fun w hw => ?_⟩
  rw [List.nodup_middle, List.nodup_cons, List.append_assoc, List.cons_append, List.nodup_middle, List.nodup_cons] at hnodup
  obtain ⟨hkeys, htake, -⟩ := hnodup
  constructor
  · rintro rfl
    exact htake (by simpa using hw)
  · rintro rfl
    refine hkeys ?_
    simp at hw ⊢
    tauto

/-! ### The work of a boundary -/

/-- What the passes over the keys will find of a pod: the view of its keys, and the levels its take has handed over. -/
def Progress.podKeys (p : Pod) (g : Progress) : KeyView × Option KeyLevels := (g.state.keyView p, g.keys[p])

section
variable {p : Pod} (before : State) (a : Arrivals) (g : Progress)

theorem take_podKeys_other {q : Pod} (h : q ≠ p) : (g.take q).podKeys p = g.podKeys p := by
  have hview : (g.take q).state.keyView p = g.state.keyView p :=
    (keyView_of_moves (moves_podInputs _ _) (by decide)).trans (moveLink_keyView_other h _ _ g.state)
  have hkeys : (g.take q).keys[p] = g.keys[p] := Vec.getElem_put_ne _ _ _ _ p.2 fun e => h (Fin.ext e)
  rw [Progress.podKeys, Progress.podKeys, hview, hkeys]

theorem work_keys_of_other {w : Work} (h : ∀ q : Pod, w ≠ .take q) : (g.work before a w).keys = g.keys := by
  cases w with
  | take q => exact absurd rfl (h q)
  | keys | automixer | player n | levelControl | session => simp only [Progress.work, Progress.onState]

theorem work_podKeys {w : Work} (h : w ≠ .take p ∧ w ≠ .keys) : (g.work before a w).podKeys p = g.podKeys p := by
  have kept (w : Work) (htake : ∀ q : Pod, w ≠ .take q) (hparts : .mutes ∉ partsOf w) :
      (g.work before a w).podKeys p = g.podKeys p := by
    rw [Progress.podKeys, Progress.podKeys, keyView_of_moves (work_moves before a g w) hparts, work_keys_of_other before a g htake]
  cases w with
  | take q => exact take_podKeys_other g fun e => h.1 (by rw [e])
  | keys => exact absurd rfl h.2
  | automixer => exact kept .automixer (by simp) (by decide)
  | player n => exact kept (.player n) (by simp) (by simp [partsOf, playerParts])
  | levelControl => exact kept .levelControl (by simp) (by decide)
  | session => exact kept .session (by simp) (by decide)

theorem works_podKeys {l : List Work} (h : ∀ w ∈ l, w ≠ .take p ∧ w ≠ .keys) :
    (l.foldl (Progress.work before a) g).podKeys p = g.podKeys p := by
  induction l generalizing g with
  | nil => rfl
  | cons w rest ih =>
    exact (ih _ fun v hv => h v (List.mem_cons_of_mem w hv)).trans (work_podKeys before a g (h w (by simp)))

end

/-- The keys of a pod after the takes of a boundary, where they hand on the changes given. -/
def KeyView.handedOn (changes : List LinkChange) (v : KeyView) : KeyView :=
  changes.foldl (fun v c => if c.before.takes && !c.after.takes then v.released else v) v

theorem moveLink_keyView_self (p : Pod) (l : Link) (changes : List LinkChange) (s : State) :
    (s.moveLink p l changes).keyView p = (s.keyView p).handedOn changes := by
  have hfold (t : State) : (changes.foldl (State.handOn p) t).keyView p = (t.keyView p).handedOn changes := by
    induction changes generalizing t with
    | nil => rfl
    | cons c rest ih => rw [List.foldl_cons, ih, handOn_keyView_self]; rfl
  exact hfold _

/-- R91, R92, R95: what a boundary's work makes of the keys of one pod: they are looked at by the passes as its take left
them, one boundary older. -/
theorem worked_keyView (order : List Work) (s : State) (p : Pod) :
    let r := (s.links[p]).boundary s.linkParams
    let v := ((s.keyView p).handedOn r.2.2).older
    (r.2.1.keys = none → (s.worked order).keyView p = v) ∧
    ∀ k : KeyLevels, r.2.1.keys = some k → k.first = true → (s.worked order).keyView p = v.first k := by
  intro r v
  obtain ⟨l₁, l₂, l₃, hsched, hother⟩ := schedule_of_pod p order
  let a := s.closePeriod.ramps.arrivals
  let g := l₁.foldl (Progress.work s a) { state := s.begun, keys := Vec.tab fun _ => none }
  let h := l₂.foldl (Progress.work s a) (g.take p)
  have hworked : s.worked order = (l₃.foldl (Progress.work s a) (h.work s a .keys)).state := by
    show ((schedule order).foldl (Progress.work s a) { state := s.begun, keys := Vec.tab fun _ => none }).state = _
    rw [hsched, List.foldl_append, List.foldl_append, List.foldl_cons, List.foldl_cons, work_take]
  have hfirst : g.state.keyView p = s.keyView p := by
    have hg : g.podKeys p = _ := works_podKeys s a _ fun w hw => hother w (by simp [hw])
    have hbegun : s.begun.keyView p = s.keyView p := keyView_of_moves (begun_moves s) (by decide)
    exact (congrArg Prod.fst hg).trans hbegun
  have hlink : g.state.links[p] = s.links[p] ∧ g.state.linkParams = s.linkParams := by
    have hlinks := works_podKept s a { state := s.begun, keys := Vec.tab fun _ => none } l₁ (p := p)
      fun hw => (hother _ (by simp [hw])).1 rfl
    have hparams := (works_moves s a { state := s.begun, keys := Vec.tab fun _ => none } l₁).frame .linkParams (by decide)
    exact ⟨hlinks.1.trans (by rw [begun_eq]), hparams.trans (by rw [begun_eq])⟩
  have hyield : g.state.linkYield p = r.2.1 := by rw [State.linkYield, hlink.1, hlink.2]
  have htake : (g.take p).podKeys p = ((s.keyView p).handedOn r.2.2, r.2.1.keys) := by
    have hview : (g.take p).state.keyView p = (s.keyView p).handedOn r.2.2 := by
      have hmoved : (g.state.linkBoundary p).keyView p = (g.state.keyView p).handedOn _ := moveLink_keyView_self p _ _ _
      rw [hlink.1, hlink.2, hfirst] at hmoved
      exact (keyView_of_moves (moves_podInputs _ _) (by decide)).trans hmoved
    have hkeys : (g.take p).keys[p] = r.2.1.keys := (Vec.getElem_put_self _ _ _).trans (by rw [hyield])
    rw [Progress.podKeys, hview, hkeys]
  have hlater : h.podKeys p = (g.take p).podKeys p := works_podKeys s a _ fun w hw => hother w (by simp [hw])
  have hview : h.state.keyView p = (s.keyView p).handedOn r.2.2 := congrArg Prod.fst (hlater.trans htake)
  have hkeys : h.keys[p] = r.2.1.keys := congrArg Prod.snd (hlater.trans htake)
  have hlast : (s.worked order).keyView p = (h.state.ageKeys.takeKeys h.keys).keyView p := by
    have hl₃ : (l₃.foldl (Progress.work s a) (h.work s a .keys)).podKeys p = _ :=
      works_podKeys s a _ fun w hw => hother w (by simp [hw])
    rw [hworked, ← work_keys s a h]
    exact congrArg Prod.fst hl₃
  have hage : h.state.ageKeys.keyView p = v := by rw [ageKeys_keyView, hview]
  rw [hlast]
  refine ⟨fun hnone => ?_, fun k hk hkfirst => ?_⟩
  · rw [takeKeys_keyView_of_none _ (hkeys.trans hnone), hage]
  · rw [takeKeys_keyView_of_first _ (hkeys.trans hk) hkfirst, hage]

theorem boundary_keyView (order : List Work) (trunks : Vector Frame 4) (s : State) (p : Pod) :
    (s.boundary order trunks).keyView p = (s.worked order).keyView p := by
  obtain ⟨-, -, -, hmutes, -, -⟩ := boundary_fields order trunks s
  have hleds (u : State) : ((u.placeTrunks trunks).measureAll.giveLeds s).keyView p = u.keyView p := rfl
  exact (keyView_of_mutes hmutes).trans
    ((hleds ((s.worked order).judgeDucks s)).trans (keyView_of_moves (judgeDucks_moves _ s) (by decide)))

end Sys2Proof.Machine
end

section
/-! SUPPORT. The automixer parameters last taken (R64, R135), under the work of a boundary. -/

namespace Sys2Proof.Machine

theorem ParamsKept.refl (s : State) : ParamsKept s s := ⟨rfl, rfl⟩

theorem ParamsKept.foldl {α : Type} {f : State → α → State} (h : ∀ t a, ParamsKept t (f t a)) (l : List α) (s : State) :
    ParamsKept s (l.foldl f s) := by
  induction l generalizing s with
  | nil => exact .refl s
  | cons a rest ih => exact (h s a).trans (ih _)

theorem ParamsKept.of_moves {A : List Part} {s t : State} (h : Moves A s t) (hA : .automixer ∉ A) : ParamsKept s t :=
  .of_automixer (h.frame .automixer hA)

/-! ### Mutes and keys -/

section
variable (p : Pod) (s : State)

theorem setChair_paramsKept (b : Bool) : ParamsKept s (s.setChair p b) := setReasons_paramsKept p _ s

theorem keyFollows_paramsKept (b : Bool) : ParamsKept s (s.keyFollows p b) := by
  rw [keyFollows_eq]
  exact setReasons_paramsKept p _ s

theorem loseFault_paramsKept : ParamsKept s (s.loseFault p) := by
  rw [loseFault_eq]
  exact .of_automixer rfl

theorem leaveTalkList_paramsKept (a : TalkAction) : ParamsKept s (s.leaveTalkList p a) :=
  .of_automixer (State.leaveTalkList_automixer p a s)

theorem handOn_paramsKept (c : LinkChange) : ParamsKept s (State.handOn p s c) := by
  have hevent : ParamsKept s (s.linkEvent p c) := .of_automixer (State.linkEvent_automixer p c s)
  have hfault : ParamsKept (s.linkEvent p c) ((s.linkEvent p c).faultFollows p c) := by
    unfold State.faultFollows
    split
    · exact gainFault_paramsKept p _
    · split
      · exact loseFault_paramsKept p _
      · exact .refl _
  have hkeys (t : State) : ParamsKept t (if c.before.takes && !c.after.takes then t.revertKeys p else t) := by
    split
    · exact revertKeys_paramsKept p t
    · exact .refl t
  rw [State.handOn, State.keysFollow]
  split
  · exact ((hevent.trans hfault).trans (hkeys _)).trans (leaveTalkList_paramsKept p _ _)
  · exact (hevent.trans hfault).trans (hkeys _)

theorem moveLink_paramsKept (l : Link) (changes : List LinkChange) : ParamsKept s (s.moveLink p l changes) :=
  ParamsKept.trans (t := { s with links := Vec.put s.links p l }) ⟨rfl, rfl⟩
    (ParamsKept.foldl (fun t c => handOn_paramsKept p t c) changes _)

theorem chairMuteOn_paramsKept : ParamsKept s s.chairMuteOn := by
  refine (ParamsKept.of_automixer (by rfl)).trans (ParamsKept.foldl (fun t q => ?_) _ _)
  split
  · exact setChair_paramsKept q t true
  · exact .refl t

theorem chairMuteOff_paramsKept : ParamsKept s s.chairMuteOff := by
  refine ((ParamsKept.of_automixer (by rfl)).trans (ParamsKept.foldl (fun t q => ?_) _ _)).trans
    (.of_moves (clearTalkList_moves _) (by decide))
  split
  · exact setChair_paramsKept q t false
  · exact .refl t

theorem allEdge_paramsKept (pressed : Bool) : ParamsKept s (s.allEdge p pressed) := by
  unfold State.allEdge State.setChairMute
  split
  · split
    · exact .refl s
    · split
      · exact chairMuteOn_paramsKept s
      · exact chairMuteOff_paramsKept s
  · exact .refl s

theorem talkEdge_paramsKept (pressed : Bool) : ParamsKept s (s.talkEdge p pressed) := by
  have hkey : ParamsKept s (s.talkEdgeKey p pressed) := by
    unfold State.talkEdgeKey
    split
    · split
      · exact setReasons_paramsKept p _ s
      · exact .refl s
    all_goals exact keyFollows_paramsKept p s pressed
  unfold State.talkEdge
  split
  · exact hkey.trans (.of_moves (talkPress_moves _ p) (by decide))
  · exact hkey

theorem acceptEdge_paramsKept (isAll level : Bool) {effect : State → State} (h : ∀ t, ParamsKept t (effect t)) :
    ParamsKept s (s.acceptEdge p isAll level effect) :=
  (ParamsKept.of_moves (moves_post s _ _ _ (by decide)) (by decide)).trans (h _)

theorem takeAllLevel_paramsKept (k : KeyLevels) : ParamsKept s (s.takeAllLevel p k) := by
  unfold State.takeAllLevel
  split
  · exact .of_automixer rfl
  · split
    · exact (ParamsKept.of_automixer (by rfl)).trans
        (acceptEdge_paramsKept p (s.setAllKey p { pressed := k.all, guardAge := 0 }) true k.all
          fun t => allEdge_paramsKept p t k.all)
    · exact .refl s

theorem takeTalkLevel_paramsKept (k : KeyLevels) : ParamsKept s (s.takeTalkLevel p k) := by
  unfold State.takeTalkLevel
  split
  · exact (ParamsKept.of_automixer (by rfl)).trans
      (keyFollows_paramsKept p (s.setTalkKey p { pressed := k.talk, guardAge := 100 }) _)
  · split
    · exact (ParamsKept.of_automixer (by rfl)).trans
        (acceptEdge_paramsKept p (s.setTalkKey p { pressed := k.talk, guardAge := 0 }) false k.talk
          fun t => talkEdge_paramsKept p t k.talk)
    · exact .refl s

end

theorem takeKeys_paramsKept (keys : TakenKeys) (s : State) : ParamsKept s (s.takeKeys keys) := by
  have hpass {one : Pod → KeyLevels → State → State} (h : ∀ p k t, ParamsKept t (one p k t)) (t : State) :
      ParamsKept t (keyPass one keys t) := by
    refine ParamsKept.foldl (fun u p => ?_) _ t
    split
    · exact h p _ u
    · exact .refl u
  exact (hpass (fun p k t => takeAllLevel_paramsKept p t k) s).trans (hpass (fun p k t => takeTalkLevel_paramsKept p t k) _)

/-! ### The automixer's steps -/

section
variable (s : State)

theorem releaseGate_paramsKept (p : Pod) (c : GateCause) : ParamsKept s (s.releaseGate p c) := by
  rw [ParamsKept, releaseGate_automixer]
  exact ⟨rfl, rfl⟩

theorem openGate_paramsKept (p : Pod) : ParamsKept s (s.openGate p) := by
  rw [ParamsKept, State.openGate, State.gateEvent_automixer]
  exact ⟨rfl, rfl⟩

theorem enterWait_paramsKept (p : Pod) : ParamsKept s (s.enterWait p) := by
  rw [ParamsKept, State.enterWait, State.gateEvent_automixer]
  exact ⟨rfl, rfl⟩

theorem step1_paramsKept : ParamsKept s s.step1 := by
  have hjudged : ParamsKept s s.judgeGates := ⟨rfl, rfl⟩
  refine (hjudged.trans (ParamsKept.foldl (fun t p => releaseGate_paramsKept t p _) _ _)).trans
    (ParamsKept.foldl (fun t p => ?_) _ _)
  unfold State.expire
  split
  · exact .refl t
  · exact releaseGate_paramsKept t p _

theorem evict_paramsKept (n : Nat) : ParamsKept s (s.evict n) := by
  induction n generalizing s with
  | zero => exact .refl s
  | succ n ih =>
    unfold State.evict
    split
    · exact .refl s
    · split
      · exact .refl s
      · exact (releaseGate_paramsKept s _ _).trans (ih _)

theorem step2_paramsKept : ParamsKept s s.step2 := by
  have hlimit : ParamsKept s s.takeLimit := by
    unfold State.takeLimit
    split <;> exact ⟨rfl, rfl⟩
  exact hlimit.trans (evict_paramsKept _ 24)

theorem grant_paramsKept (n : Nat) : ParamsKept s (s.grant n).1 := by
  induction n generalizing s with
  | zero => exact .refl s
  | succ n ih =>
    unfold State.grant
    split
    · exact .refl s
    · split
      · exact .refl s
      · exact (openGate_paramsKept s _).trans (ih _)

theorem step3_paramsKept : ParamsKept s s.step3.1 := by
  rw [State.step3]
  exact grant_paramsKept s 24

theorem request_paramsKept (p : Pod) : ParamsKept s (s.request p).1 := by
  unfold State.request
  split
  · exact openGate_paramsKept s p
  · split
    · exact enterWait_paramsKept s p
    · split
      · exact (releaseGate_paramsKept s _ _).trans (openGate_paramsKept _ p)
      · exact enterWait_paramsKept s p

theorem requests_paramsKept (l : List Pod) : ParamsKept s (State.requests l s).1 := by
  induction l generalizing s with
  | nil => exact .refl s
  | cons p rest ih => exact (request_paramsKept s p).trans (ih _)

theorem step4_paramsKept : ParamsKept s s.step4.1 :=
  (ParamsKept.trans (t := { s with automixer := { s.automixer with collected := [] } }) ⟨rfl, rfl⟩ (requests_paramsKept _ _))

theorem retargetAfter_paramsKept (before : State) : ParamsKept s (s.retargetAfter before) := by
  refine ParamsKept.foldl (fun t p => ?_) _ s
  split
  · exact .of_automixer (State.retargetGate_automixer p t)
  · exact .refl t

end

/-! ### The parameters last taken -/

theorem ParamsKept.lastTaken {s t : State} (h : ParamsKept s t) : t.lastTakenParams = s.lastTakenParams := by
  rw [State.lastTakenParams, State.lastTakenParams, h.1, h.2]

/-- R64: the parameters last taken come in force, and stay the last taken. -/
theorem automixerWork_lastTaken (s : State) : s.automixerWork.lastTakenParams = s.lastTakenParams := by
  have htaken : s.takeAutomixParams.lastTakenParams = s.lastTakenParams := by
    unfold State.takeAutomixParams State.lastTakenParams
    cases h : s.automixer.pendingParams with
    | none => simp [h]
    | some q => rfl
  have hsteps : ParamsKept s.takeAutomixParams s.automix.1 := by
    rw [State.automix]
    exact ((((step1_paramsKept _).trans (step2_paramsKept _)).trans (step3_paramsKept _)).trans (step4_paramsKept _)).trans
      (retargetAfter_paramsKept _ s)
  have hgrants : ParamsKept s.automix.1 s.automixerWork := .of_moves (grantsToPlayers_moves _ _) (by decide)
  exact (hsteps.trans hgrants).lastTaken.trans htaken

section
variable (before : State) (a : Arrivals)

theorem work_lastTaken (g : Progress) (w : Work) : (g.work before a w).state.lastTakenParams = g.state.lastTakenParams := by
  cases w with
  | take p =>
    have hmoved : ParamsKept g.state (g.state.linkBoundary p) := moveLink_paramsKept p g.state _ _
    have hplaced : ParamsKept (g.state.linkBoundary p) (g.take p).state := .of_moves (moves_podInputs _ _) (by decide)
    rw [work_take]
    exact (hmoved.trans hplaced).lastTaken
  | keys =>
    rw [work_keys]
    exact ((ParamsKept.of_moves (ageKeys_moves g.state) (by decide)).trans (takeKeys_paramsKept _ _)).lastTaken
  | automixer =>
    rw [work_automixer]
    exact automixerWork_lastTaken g.state
  | player n =>
    exact (ParamsKept.of_moves (work_moves before a g (.player n)) (by simp [partsOf, playerParts])).lastTaken
  | levelControl => exact (ParamsKept.of_moves (work_moves before a g .levelControl) (by decide)).lastTaken
  | session => exact (ParamsKept.of_moves (work_moves before a g .session) (by decide)).lastTaken

theorem works_lastTaken (l : List Work) (g : Progress) :
    (l.foldl (Progress.work before a) g).state.lastTakenParams = g.state.lastTakenParams := by
  induction l generalizing g with
  | nil => rfl
  | cons w rest ih => exact (ih _).trans (work_lastTaken before a g w)

end

theorem worked_lastTaken (order : List Work) (s : State) : (s.worked order).lastTakenParams = s.lastTakenParams := by
  have hbegun : ParamsKept s s.begun := .of_moves (begun_moves s) (by decide)
  exact (works_lastTaken s _ _ { state := s.begun, keys := _ }).trans hbegun.lastTaken

end Sys2Proof.Machine
end

section
/-! What the boundary makes of each pod's link, keys, LED code and duck (R31 to R34, R92, R95, R107, R134, R135): O23. -/

namespace Sys2Proof.Machine

/-! ### Ducks (R134, R135) -/

/-- R135: the duck ramp of a feed whose flag was `was` and is `now`. -/
def Ramp.duckMove (depth : Int) (q : AutomixParams) (was now : Bool) (r : Ramp) : Ramp :=
  if now = was then r else if now then r.setTarget (lin15 depth) q.attack else r.setTarget 32768 q.release

theorem setDuckActive_eq (j : Pod) (b : Bool) (s : State) :
    s.setDuckActive j b = { s with
      router := { s.router with duckActive := Vec.put s.router.duckActive j b }
      ramps := { s.ramps with
        duck := Vec.put s.ramps.duck j
          ((s.ramps.duck[j]).duckMove s.router.duckDepth s.lastTakenParams s.router.duckActive[j] b) } } := by
  unfold State.setDuckActive Ramp.duckMove
  by_cases h : s.router.duckActive[j] = b
  · rw [if_pos h, if_pos h.symm, ← h, Vec.put_same, Vec.put_same]
  · have hmoved : ¬ b = s.router.duckActive[j] := fun e => h e.symm
    rw [if_neg h]
    simp only [if_neg hmoved]
    cases b <;> rfl

/-- The state when the feeds before the `k`-th have been judged. -/
def State.ducksJudged (s before : State) (k : Nat) : State :=
  { s with
    router := { s.router with
      duckActive := Vec.tab fun j => if j.1 < k then duckJudged before s j else s.router.duckActive[j] }
    ramps := { s.ramps with
      duck := Vec.tab fun j => if j.1 < k then
          (s.ramps.duck[j]).duckMove s.router.duckDepth s.lastTakenParams s.router.duckActive[j] (duckJudged before s j)
        else s.ramps.duck[j] } }

/-- R134: the ducks judged one after the other. -/
theorem judgeDucks_eq (before s : State) : s.judgeDucks before = s.ducksJudged before 24 := by
  have hzero : s.ducksJudged before 0 = s := by simp [State.ducksJudged, -Fin.getElem_fin]
  have hstep (j : Pod) : (s.ducksJudged before j.1).setDuckActive j (duckJudged before s j) = s.ducksJudged before (j.1 + 1) := by
    have hactive : (s.ducksJudged before j.1).router.duckActive[j] = s.router.duckActive[j] := by simp [State.ducksJudged]
    have hramp : (s.ducksJudged before j.1).ramps.duck[j] = s.ramps.duck[j] := by simp [State.ducksJudged]
    have hlast : (s.ducksJudged before j.1).lastTakenParams = s.lastTakenParams := rfl
    rw [setDuckActive_eq, hactive, hramp, hlast]
    simp only [State.ducksJudged]
    rw [Vec.put_tab_lt (duckJudged before s)]
    rw [← Vec.put_tab_lt fun j => (s.ramps.duck[j]).duckMove s.router.duckDepth s.lastTakenParams s.router.duckActive[j]
      (duckJudged before s j)]
  have h := foldl_finRange (fun t j => t.setDuckActive j (duckJudged before s j)) (s.ducksJudged before) hstep
  rwa [hzero] at h

theorem judgeDucks_at (before s : State) (p : Pod) :
    (s.judgeDucks before).router.duckActive[p] = duckJudged before s p ∧
      (s.judgeDucks before).ramps.duck[p] = (s.ramps.duck[p]).duckMove s.router.duckDepth s.lastTakenParams
        s.router.duckActive[p] (duckJudged before s p) := by
  rw [judgeDucks_eq]
  simp [State.ducksJudged]

/-- R134: a duck is active while a microphone of its exclusion set is open. -/
theorem duckJudged_iff (before s : State) (j : Pod) :
    duckJudged before s j = true ↔ s.session.roster.pods[j] = true ∧ ∃ i : Pod,
      (i = j ∨ (s.session.roster.pods[i] = true ∧ s.router.feeds.zone[j] ≠ 0 ∧
        s.router.feeds.zone[i] = s.router.feeds.zone[j])) ∧
      ((before.gate i).state = .opened ∨ (before.gate i).state = .hold) := by
  simp only [duckJudged, excluded, Bool.and_eq_true, Bool.or_eq_true, decide_eq_true_eq, List.any_eq_true, mem_allPods, true_and,
    State.gate]
  refine and_congr_right fun hj => exists_congr fun i => and_congr_left fun _ => ?_
  simp [hj, and_assoc]

section
variable (order : List Work) (trunks : Vector Frame 4) (s : State) (p : Pod)

/-- What the router's work finds as the boundary began. -/
theorem worked_ducks : (s.worked order).router = s.router ∧ (s.worked order).session.roster = s.session.roster ∧
    (s.worked order).ramps.duck = s.begun.ramps.duck := by
  have hworked := worked_moves order s
  have hrouter : (s.worked order).router = s.begun.router := hworked.router_eq (by decide)
  have hroster : (s.worked order).session.roster = s.begun.session.roster := hworked.frame .roster (by decide)
  have hduck : (s.worked order).ramps.duck = s.begun.ramps.duck := hworked.frame .duckRamps (by decide)
  exact ⟨hrouter.trans (by rw [begun_eq]), hroster.trans (by rw [begun_eq]), hduck⟩

theorem duckJudged_worked : duckJudged s (s.worked order) p = duckJudged s s p := by
  obtain ⟨hrouter, hroster, -⟩ := worked_ducks order s
  rw [duckJudged, duckJudged, hrouter, hroster]

/-- R134, R135: the duck of a feed after a boundary. -/
theorem boundary_duck :
    (s.boundary order trunks).router.duckActive[p] = duckJudged s s p ∧
      (s.boundary order trunks).ramps.duck[p] =
        (((s.ramps.duck[p]).passed s.inForce.isSome).duckMove s.router.duckDepth s.lastTakenParams s.router.duckActive[p]
          (duckJudged s s p)).comeInForce := by
  obtain ⟨hactive, hramp⟩ := judgeDucks_at s (s.worked order) p
  obtain ⟨hrouter, -, hduck⟩ := worked_ducks order s
  have hpassed : (s.worked order).ramps.duck[p] = (s.ramps.duck[p]).passed s.inForce.isSome := by
    rw [hduck, begun_ramps]
    simp [Ramps.map]
  rw [duckJudged_worked] at hactive hramp
  rw [hrouter, worked_lastTaken, hpassed] at hramp
  have hfinish (u : State) : (((u.placeTrunks trunks).measureAll.giveLeds s).sendFeeds.openPeriod).router = u.router ∧
      (((u.placeTrunks trunks).measureAll.giveLeds s).sendFeeds.openPeriod).ramps = u.ramps.map Ramp.comeInForce := ⟨rfl, rfl⟩
  obtain ⟨hfinal, hmapped⟩ := hfinish ((s.worked order).judgeDucks s)
  rw [boundary_eq, State.ready, hfinal, hmapped]
  refine ⟨hactive, ?_⟩
  simp only [Ramps.map, Fin.getElem_fin, Vec.getElem_tab]
  exact congrArg Ramp.comeInForce hramp

end

/-! ### Reports that the boundary posts -/

/-- A report has been queued, or reports are lost and the queue stays full (R196). -/
def Control.Told (ty : Byte) (l : List Byte) (c : Control) : Prop :=
  c.Full ∨ ∃ flags : Byte, { isReport := true, type := ty, tag := 0, payload := flags :: l } ∈ c.queue

theorem told_enqueueReport (ty : Byte) (l : List Byte) (c : Control) : (c.enqueueReport ty l).Told ty l := by
  rcases enqueueReport_cases ty l c with ⟨flags, hq⟩ | ⟨-, hfull⟩
  · exact .inr ⟨flags, by rw [hq]; simp⟩
  · exact .inl hfull

theorem Control.Told.of_posts {ty : Byte} {l : List Byte} {c d : Control} (h : c.Told ty l)
    (hp : Posts (fun _ => True) c d) : d.Told ty l := by
  rcases h with h | ⟨flags, h⟩
  · exact .inl (hp.full h)
  · obtain ⟨x, hx, -⟩ := hp.queue_eq
    exact .inr ⟨flags, by rw [hx]; exact List.mem_append_left _ h⟩

/-- R43: the first change of a move is reported. -/
theorem moveLink_told (p : Pod) (l : Link) (c : LinkChange) (rest : List LinkChange) (s : State)
    (hmask : s.control.mask.getLsbD 0 = true) :
    (s.moveLink p l (c :: rest)).control.Told 0xE2 [podByte p, c.before.code, c.after.code, c.cause.code] := by
  let u : State := { s with links := Vec.put s.links p l }
  have hevent : (u.linkEvent p c).control.Told 0xE2 [podByte p, c.before.code, c.after.code, c.cause.code] := by
    rw [State.linkEvent, post_control, if_pos (by exact hmask)]
    exact told_enqueueReport _ _ _
  have hhanded : Posts (fun _ => True) (u.linkEvent p c).control (State.handOn p u c).control :=
    ((faultFollows_moves p _ c).trans (keysFollow_moves p _ c)).frame .control (by decide)
  have hrest : Posts (fun _ => True) (State.handOn p u c).control (s.moveLink p l (c :: rest)).control :=
    (Moves.foldl (fun t c => handOn_moves p t c) rest _).frame .control (by decide)
  exact (hevent.of_posts hhanded).of_posts hrest

section
variable (order : List Work) (trunks : Vector Frame 4) (s : State) (p : Pod)

/-- The work of a boundary about one pod's take: what the take finds, and that only reports are posted before and after. -/
theorem worked_take : ∃ g : Progress, g.state.links[p] = s.links[p] ∧ g.state.linkParams = s.linkParams ∧
    Posts (fun _ => True) s.control g.state.control ∧ Posts (fun _ => True) (g.take p).state.control (s.worked order).control := by
  obtain ⟨l₁, l₂, hsched, h₁, -⟩ := schedule_split (.take p) order
  let a := s.closePeriod.ramps.arrivals
  let start : Progress := { state := s.begun, keys := Vec.tab fun _ => none }
  let g := l₁.foldl (Progress.work s a) start
  have hworked : s.worked order = (l₂.foldl (Progress.work s a) (g.take p)).state := by
    show ((schedule order).foldl (Progress.work s a) start).state = _
    rw [hsched, List.foldl_append, List.foldl_cons, work_take]
  have hmoves := works_moves s a start l₁
  have hparams : g.state.linkParams = s.begun.linkParams := hmoves.frame .linkParams (by decide)
  have hposts : Posts (fun _ => True) s.begun.control g.state.control := hmoves.frame .control (by decide)
  rw [begun_eq] at hparams hposts
  refine ⟨g, (works_podKept s a start l₁ h₁).1.trans (by rw [show start.state = s.begun from rfl, begun_eq]), hparams, hposts, ?_⟩
  rw [hworked]
  exact (works_moves s a (g.take p) l₂).frame .control (by decide)

/-- R43: the change that a take makes of a link is reported. -/
theorem boundary_told {c : LinkChange} (hc : ((s.links[p]).boundary s.linkParams).2.2 = [c])
    (hmask : s.control.mask.getLsbD 0 = true) :
    (s.boundary order trunks).control.Told 0xE2 [podByte p, c.before.code, c.after.code, c.cause.code] := by
  obtain ⟨g, hlink, hparams, hbefore, hafter⟩ := worked_take order s p
  have htake : (g.take p).state.control.Told 0xE2 [podByte p, c.before.code, c.after.code, c.cause.code] := by
    have hmoved := moveLink_told p ((g.state.links[p]).boundary g.state.linkParams).1 c [] g.state
      (by rw [hbefore.mask_eq]; exact hmask)
    have hplaced : (g.take p).state.control = (g.state.linkBoundary p).control := rfl
    rw [hplaced, State.linkBoundary, hlink, hparams, hc]
    rw [hlink, hparams] at hmoved
    exact hmoved
  have hready : Posts (fun _ => True) (s.worked order).control (s.ready order trunks).control :=
    (ready_moves order trunks s).frame .control (by decide)
  have hopened : Posts (fun _ => True) (s.ready order trunks).control (s.boundary order trunks).control :=
    (openPeriod_moves _).frame .control (by decide)
  exact ((htake.of_posts hafter).of_posts hready).of_posts hopened

/-! ### The link and the LED code -/

/-- R31 to R34, R44: the link of a pod after a boundary. -/
theorem boundary_links :
    (s.boundary order trunks).links[p] =
      if (s.links[p]).state = .off then s.links[p]
      else { ((s.links[p]).boundary s.linkParams).1 with feedSequence := (s.links[p]).feedSequence + 1 } := by
  obtain ⟨-, -, -, -, hlinks, -⟩ := boundary_fields order trunks s
  have hkept : (s.beforeFeeds order trunks).links = _ := (beforeFeeds_moves order trunks s).frame .links (by decide)
  have hmove := boundary_linkMove (q := s.linkParams) (l := s.links[p])
  rw [hlinks, sendFeeds_links, hkept, (worked_pod order s p).1, Link.boundary_feedSequence]
  by_cases h : (s.links[p]).state = .off
  · rw [if_pos h, if_pos (hmove.off.2 h), Link.boundary, h]
  · rw [if_neg h, if_neg (mt hmove.off.1 h)]

/-- R107: the LED code, from the links and the mutes that the boundary leaves. -/
theorem boundary_led :
    (s.boundary order trunks).mutes.led[p] = (s.boundary order trunks).ledCode (s.gate p).state p := by
  obtain ⟨-, -, -, hmutes, hlinks, -⟩ := boundary_fields order trunks s
  have hstate : ((s.boundary order trunks).links[p]).state = ((s.beforeFeeds order trunks).links[p]).state := by
    rw [hlinks]
    exact (sendFeeds_faultsKept _).link p
  have hled (u : State) : (u.giveLeds s).mutes.led[p] = (u.giveLeds s).ledCode (s.gate p).state p := by
    simp [State.giveLeds, State.ledCode]
  unfold State.ledCode
  rw [hstate, hmutes]
  exact hled _

end

end Sys2Proof.Machine
end

section
/-! The settling of O23, from what the boundary makes of a link, and what it makes of everything that follows the link. -/

namespace Sys2Proof.Machine

/-! ### What a boundary makes of a link, state by state (R31 to R33) -/

section
variable {l : Link} {q : LinkParams}

theorem boundary_of_absent (h : l.state = .absent) : l.boundary q = (l, .nothing, []) := by rw [Link.boundary, h]

theorem boundary_of_acquiring (h : l.state = .acquiring) (hq : (if l.arrivalSeen then 0 else l.silenceRun + 1) < q.unlockCount) :
    l.boundary q =
      ({ l with silenceRun := if l.arrivalSeen then 0 else l.silenceRun + 1, arrivalSeen := false }, .nothing, []) := by
  have hrule : l.acquiringBoundary q = ({ l with silenceRun := l.nextSilenceRun, arrivalSeen := false }, []) :=
    if_neg (Nat.not_le.2 hq)
  have hb : l.boundary q = ((l.acquiringBoundary q).1, .nothing, (l.acquiringBoundary q).2) := by rw [Link.boundary, h]
  rw [hb, hrule]
  rfl

theorem boundary_of_underrun (h : l.state = .settling) (hf : l.fifo = []) :
    l.boundary q = ({ l with state := .acquiring, goodCount := 0, silenceRun := 0, arrivalSeen := false }, .nothing,
      [⟨.settling, .acquiring, .underrun⟩]) := by
  have hb : l.boundary q = (l.underrun, .nothing, [⟨.settling, .acquiring, .underrun⟩]) := by
    rw [Link.boundary, h]
    simp only [hf]
  exact hb

theorem boundary_of_coast (h : l.state.trusted = true) (hf : l.fifo = []) (hq : l.nextCoastRun < q.unlockCount) :
    l.boundary q = ({ l with state := .coasting, coastRun := l.nextCoastRun },
      .coast (coastFrame l.lastTaken.samples l.nextCoastRun), []) := by
  rw [Link.boundary_empty q h hf, Link.emptyTake, if_neg (Nat.not_le.2 hq)]

variable {f : MicFrame} {rest : List MicFrame}

theorem boundary_of_settling (h : l.state = .settling) (hf : l.fifo = f :: rest) (hq : l.settleCounter + 1 < q.settleFrames) :
    l.boundary q = ({ l with fifo := rest, lastTaken := f, firstTake := false, settleCounter := l.settleCounter + 1 },
      .frame f l.firstTake, []) := by
  have hb : l.boundary q = l.settlingTake q f rest := by
    rw [Link.boundary, h]
    simp only [hf]
  exact hb.trans (if_neg (Nat.not_le.2 hq))

theorem boundary_of_locked (h : l.state = .locked) (hf : l.fifo = f :: rest) :
    l.boundary q = ({ l with fifo := rest, lastTaken := f, firstTake := false }, .frame f l.firstTake, []) := by
  have hb : l.boundary q = (l.takeOldest f rest, .frame f l.firstTake, []) := by
    rw [Link.boundary, h]
    simp only [hf]
  exact hb

theorem boundary_of_return (h : l.state = .coasting) (hf : l.fifo = f :: rest) :
    l.boundary q = ({ l with state := .locked, fifo := rest, lastTaken := f, firstTake := false, coastRun := 0 },
      .frame f l.firstTake, []) := by
  rw [Link.boundary, h]
  simp only [hf]
  rfl

/-- R39, R92: a frame taken hands over its key levels, and the keys are not released. -/
theorem boundary_takes_keys (h : l.state.takes = true) (hf : l.fifo = f :: rest) :
    (l.boundary q).2.1.keys = some { talk := f.talk, all := f.all, first := l.firstTake } ∧
      ∀ v : KeyView, v.handedOn (l.boundary q).2.2 = v := by
  cases hs : l.state with
  | off | absent | acquiring => rw [hs] at h; cases h
  | settling =>
    by_cases hq : q.settleFrames ≤ l.settleCounter + 1
    · rw [boundary_of_settled hs hf hq]
      exact ⟨rfl, fun _ => rfl⟩
    · rw [boundary_of_settling hs hf (by omega)]
      exact ⟨rfl, fun _ => rfl⟩
  | locked =>
    rw [boundary_of_locked hs hf]
    exact ⟨rfl, fun _ => rfl⟩
  | coasting =>
    rw [boundary_of_return hs hf]
    exact ⟨rfl, fun _ => rfl⟩

end

/-! ### What follows the link -/

section
variable (order : List Work) (trunks : Vector Frame 4) {s : State} {p : Pod} {l : Link} {y : Yield} {changes : List LinkChange}
  (h : (s.links[p]).boundary s.linkParams = (l, y, changes))
include h

theorem boundary_links_of (hoff : (s.links[p]).state ≠ .off) :
    (s.boundary order trunks).links[p] = { l with feedSequence := (s.links[p]).feedSequence + 1 } := by
  rw [boundary_links, if_neg hoff, h]

theorem boundary_keyView_of (hy : y.keys = none) :
    (s.boundary order trunks).keyView p = ((s.keyView p).handedOn changes).older := by
  have hworked := (worked_keyView order s p).1
  rw [h] at hworked
  exact (boundary_keyView order trunks s p).trans (hworked hy)

/-- R43: the report of the one change of a boundary, in the words of the rule. -/
theorem boundary_reports {c : LinkChange} (hc : changes = [c]) (hmask : s.control.mask.getLsbD 0 = true) :
    (s.boundary order trunks).control.lost = true ∨
      ∃ flags : Byte, { isReport := true, type := 0xE2, tag := 0,
                        payload := [flags, podByte p, c.before.code, c.after.code, c.cause.code] } ∈
        (s.boundary order trunks).control.queue := by
  rcases boundary_told order trunks s p (c := c) (by rw [h, hc]) hmask with hfull | hqueued
  · exact .inl hfull.1
  · exact .inr hqueued

end

theorem boundary_keyView_of_first (order : List Work) (trunks : Vector Frame 4) {s : State} {p : Pod} {f : MicFrame}
    {rest : List MicFrame} (h : (s.links[p]).state.takes = true) (hf : (s.links[p]).fifo = f :: rest)
    (hfirst : (s.links[p]).firstTake = true) :
    (s.boundary order trunks).keyView p =
      (s.keyView p).older.first { talk := f.talk, all := f.all, first := (s.links[p]).firstTake } := by
  obtain ⟨hkeys, hkept⟩ := boundary_takes_keys (q := s.linkParams) h hf
  have hworked := (worked_keyView order s p).2 _ hkeys hfirst
  rw [hkept] at hworked
  exact (boundary_keyView order trunks s p).trans hworked

theorem handedOn_of_lost {c : LinkChange} (hb : c.before.takes = true) (ha : c.after.takes = false) (v : KeyView) :
    v.handedOn [c] = v.released := by
  rw [KeyView.handedOn, List.foldl_cons, hb, ha]
  rfl

/-- R95: the keys of a lost link, in the words of the rule. -/
theorem reverted_of_keyView {p : Pod} {s t : State} (h : t.keyView p = (s.keyView p).released.older) :
    t.mutes.talkKey[p] = { pressed := false, guardAge := min 100 ((s.mutes.talkKey[p]).guardAge + 1) } ∧
      t.mutes.allKey[p] = { pressed := false, guardAge := min 100 ((s.mutes.allKey[p]).guardAge + 1) } ∧
      (t.mutes.reasons[p]).key = (s.mutes.keyMode[p]).keyAfter (s.mutes.reasons[p]).key false :=
  ⟨congrArg KeyView.talkKey h, congrArg KeyView.allKey h, congrArg KeyView.key h⟩

/-- R92: the keys of a first take, in the words of the rule. -/
theorem adopted_of_keyView {p : Pod} {s t : State} {k : KeyLevels} (h : t.keyView p = (s.keyView p).older.first k) :
    t.mutes.talkKey[p] = { pressed := k.talk, guardAge := 100 } ∧ t.mutes.allKey[p] = { pressed := k.all, guardAge := 100 } ∧
      (t.mutes.reasons[p]).key = (s.mutes.keyMode[p]).keyAfter (s.mutes.reasons[p]).key k.talk :=
  ⟨congrArg KeyView.talkKey h, congrArg KeyView.allKey h, congrArg KeyView.key h⟩

/-- Settles O23: the link by its state, its keys as its take leaves them, and the LED code and the duck as the boundary ends. -/
theorem linksIndicatorsAndDucksAtABoundary : Obligations.LinksIndicatorsAndDucksAtABoundary := by
  intro order trunks s hs
  refine ⟨s.boundary order trunks, exec_boundary hs order trunks, fun p => ?_⟩
  intro l silence run next taken reported q ramp released keyIs reverted
  have hmove {l' : Link} {y : Yield} {changes : List LinkChange} (h : l.boundary s.linkParams = (l', y, changes))
      {a : LinkState} (hl : l.state = a) (ha : a ≠ .off) :
      (s.boundary order trunks).links[p] = { l' with feedSequence := l.feedSequence + 1 } :=
    boundary_links_of order trunks h fun e => ha (hl.symm.trans e)
  have htrusted (h : l.state.trusted = true) : l.state ≠ .off ∧ l.state.takes = true := by
    rcases trusted_iff.1 h with e | e <;> rw [e] <;> decide
  refine ⟨fun h => ?_, fun h => ?_, fun h hq => ?_, fun h hq => ⟨?_, ?_⟩, fun h hf => ⟨?_, ?_, ?_⟩,
    fun f rest hf => ⟨fun h hq => ?_, fun h hq => ⟨?_, ?_⟩, fun h => ?_, fun h => ?_, fun h hfirst => ?_⟩,
    fun h hf hq => ?_, fun h hf hq => ⟨?_, ?_, ?_⟩, ?_, ?_, ?_⟩
  · exact (boundary_links order trunks s p).trans (if_pos h)
  · exact hmove (boundary_of_absent h) h (by decide)
  · exact hmove (boundary_of_acquiring h hq) h (by decide)
  · exact boundary_reports order trunks (boundary_of_silence h hq) rfl
  · exact hmove (boundary_of_silence h hq) h (by decide)
  · exact boundary_reports order trunks (boundary_of_underrun h hf) rfl
  · exact hmove (boundary_of_underrun h hf) h (by decide)
  · exact reverted_of_keyView (boundary_keyView_of order trunks (boundary_of_underrun h hf) rfl)
  · exact hmove (boundary_of_settling h hf hq) h (by decide)
  · exact boundary_reports order trunks (boundary_of_settled h hf hq) rfl
  · exact hmove (boundary_of_settled h hf hq) h (by decide)
  · exact hmove (boundary_of_locked h hf) h (by decide)
  · exact hmove (boundary_of_return h hf) h (by decide)
  · have hview := boundary_keyView_of_first order trunks h hf hfirst
    exact adopted_of_keyView hview
  · exact hmove (boundary_of_coast h hf hq) (a := l.state) rfl (htrusted h).1
  · exact boundary_reports order trunks (boundary_of_unlock h hf hq) rfl
  · refine (hmove (boundary_of_unlock h hf hq) (a := l.state) rfl (htrusted h).1).trans ?_
    simp only [Link.unlocked, next, hf]
  · refine reverted_of_keyView ((boundary_keyView_of order trunks (boundary_of_unlock h hf hq) rfl).trans ?_)
    rw [handedOn_of_lost (htrusted h).2 rfl]
  · rw [boundary_led, State.ledCode.eq_def]
    cases ((s.boundary order trunks).links[p]).state.trusted with
    | false => rfl
    | true => cases (s.gate p).state <;> rfl
  · rw [(boundary_duck order trunks s p).1]
    exact duckJudged_iff s s p
  · obtain ⟨hactive, hramp⟩ := boundary_duck order trunks s p
    rw [hactive, hramp]
    rfl

end Sys2Proof.Machine
end

section
/-! SUPPORT. What a command can do, said once for every command: an event touches the parts of its own command, a request
is served, or a reset takes effect. An invariant of a step is shown of these. -/

namespace Sys2Proof.Machine

/-- The parts that the receiver, the posting of reports and a refused request touch. -/
def frameParts : List Part := [.control, .mixerReports]

/-- The parts that a mix period boundary may touch. -/
def boundaryParts : List Part :=
  (.outputs :: .outputMeters :: rampParts) ++ (workParts ++ finishParts ++ .inForce :: rampParts)

/-- The parts that a command may touch which is neither a request nor a reset. -/
def eventParts : Instr → List Part
  | .mixPeriodBoundary .. => boundaryParts
  | .micFrameArrival .. | .lockCount .. | .restart .. | .settleDone .. | .silence .. | .unlock .. => linkParts
  | .openCountReached .. | .holdExpiry .. | .waitTimeout .. => gateParts
  | .noiseFloorRise .. => [.detectors]
  | .intervalEnd => [.alc]
  | .segmentEnd .. => playerParts
  | .masterRampArrival => [.masterRamp, .mixer, .mixerReports]
  | .playerRampArrival .. => visitParts
  | .resetEnd => [.resets]
  | _ => frameParts

/-- `Does A s t`: a command brings `s` to `t` as an event that touches no part but those of `A`, as a request that is served
(R193), or as a reset (R185, R186). -/
inductive Does (A : List Part) (s : State) : State → Prop where
  | event {t : State} (h : Moves A s t) : Does A s t
  | request (i : Instr) {u : State} (h : Moves frameParts s u) : Does A s (serve i u)
  | hardReset (latch : Bool) : Does A s (s.hardReset latch)
  | softReset : Does A s s.takeSoftReset

theorem Does.nothing (A : List Part) (s : State) : Does A s s := .event (.refl A s)

/-! ### Conditions on a command (R186, log entries 8 and 17) -/

theorem unlessInReset_cases (f : State → State) (s : State) : unlessInReset f s = f s ∨ unlessInReset f s = s := by
  unfold unlessInReset
  split <;> simp

theorem whileListening_cases (f : State → State) (s : State) : whileListening f s = f s ∨ whileListening f s = s :=
  ite_eq_or_eq _ _ _

section
variable {A : List Part} {s : State}

theorem unlessInReset_does {f : State → State} (h : Does A s (f s)) : Does A s (unlessInReset f s) := by
  rcases unlessInReset_cases f s with e | e <;> rw [e]
  · exact h
  · exact .nothing A s

theorem whileListening_does {f : State → State} (h : Does A s (f s)) : Does A s (whileListening f s) := by
  rcases whileListening_cases f s with e | e <;> rw [e]
  · exact h
  · exact .nothing A s

theorem ite_does {c : Prop} [Decidable c] {t : State} (h : Does A s t) : Does A s (if c then t else s) := by
  split
  · exact h
  · exact .nothing A s

end

/-! ### Frames (R190 to R193) -/

section
variable (s : State)

theorem judgeBadLength_touches (ty : Byte) (payload : List Byte) (u : State) : (judgeBadLength ty payload u).Touches [] := by
  unfold judgeBadLength
  split
  · split
    · exact .refl _
    · exact .refl _
  · exact .refl _

/-- A correct frame is a request that is served, or is refused. -/
theorem takeFrame_cases (ty tag : Byte) (payload : List Byte) :
    Moves frameParts s (s.takeFrame ty tag payload) ∨ ∃ i, s.takeFrame ty tag payload = serve i s := by
  unfold State.takeFrame
  split
  · exact .inl (takeRequest_moves ty tag _ s fun _ => .refl _)
  · exact .inl (takeRequest_moves ty tag _ s (judgeBadLength_touches ty payload))
  · rename_i i _
    exact .inr ⟨i, rfl⟩

theorem hunt_controlError_moves (cause : ControlCause) (n : Nat) (ty tag : Byte) :
    Moves frameParts s (s.hunt.controlError cause n ty tag) :=
  (hunt_moves s).trans ((controlError_moves cause n ty tag _).wide (by simp))

theorem judgeFrame_does (body : List Byte) (sum : Byte) : Does frameParts s (s.judgeFrame body sum) := by
  unfold State.judgeFrame
  split
  · rcases takeFrame_cases s.hunt (bodyType body) (bodyTag body) (body.drop 2) with h | ⟨i, h⟩
    · exact .event ((hunt_moves s).trans h)
    · rw [h]
      exact .request i (hunt_moves s)
  · exact .event (hunt_controlError_moves s _ _ _ _)

theorem receiveByte_does (b : Byte) : Does frameParts s (s.receiveByte b) := by
  unfold State.receiveByte
  simp only
  split
  · exact ite_does (.event (setReceiver_moves _ s))
  · split
    · exact .event (setReceiver_moves _ s)
    · exact .event (hunt_moves s)
  · exact .event (setReceiver_moves _ s)
  · exact judgeFrame_does s _ _

theorem framingError_moves (b : Byte) : Moves frameParts s (s.framingError b) := by
  unfold State.framingError
  simp only
  split
  · exact .refl _ s
  all_goals exact hunt_controlError_moves s _ _ _ _

/-! ### Links, ramps and resets -/

theorem settleDone_moves (p : Pod) (keys : TakenKeys) : Moves linkParts s ((s.linkBoundary p).takeKeys keys) :=
  (linkBoundary_moves s p).trans ((takeKeys_moves _ keys).wide (by decide))

theorem masterArrival_received_moves :
    Moves [.masterRamp, .mixer, .mixerReports] s (s.onMasterRamp Ramp.clearArrival).masterArrival :=
  ((onMasterRamp_moves (fun _ h => Ramp.clearArrival_bounded h) s).wide (by decide)).trans
    ((masterArrival_moves _).wide (by decide))

theorem playerArrival_received_moves (n : Player) :
    Moves visitParts s ((s.onPlayerRamp n Ramp.clearArrival).playerArrival n) :=
  ((onPlayerRamp_moves (fun _ h => Ramp.clearArrival_bounded h) s n).wide (by decide)).trans
    ((playerArrival_moves _ n).wide (by decide))

theorem endReset_moves (r : StartReason) : Moves [.resets] s (s.endReset r) :=
  (moves_resets s _ (by rfl) (by rfl)).trans ((moves_postAlways _ _ _ (by decide)).wide (by simp))

theorem boundary_moves (order : List Work) (trunks : Vector Frame 4) : Moves boundaryParts s (s.boundary order trunks) :=
  ⟨fun q hq => Part.kept_trans ((begun_moves s).frame q fun h => hq (List.mem_append_left _ h))
    (boundary_kept order trunks s fun h => hq (List.mem_append_right _ h)), boundary_inRange⟩

end

/-! ### Every command -/

theorem exec_does (c : Instr) (s : State) : ∃ t : State, exec c s = .next t ∧ Does (eventParts c) s t := by
  cases hc : c with
  | mixPeriodBoundary order trunks => exact ⟨_, rfl, unlessInReset_does (.event (boundary_moves s order trunks))⟩
  | micFrameArrival p l ok => exact ⟨_, rfl, unlessInReset_does (.event (candidateArrives_moves s p l ok))⟩
  | lockCount p f => exact ⟨_, rfl, unlessInReset_does (ite_does (.event (frameArrives_moves s p f)))⟩
  | restart p f => exact ⟨_, rfl, unlessInReset_does (ite_does (.event (frameArrives_moves s p f)))⟩
  | settleDone p => exact ⟨_, rfl, unlessInReset_does (ite_does (.event (settleDone_moves s p _)))⟩
  | silence p => exact ⟨_, rfl, unlessInReset_does (.event (linkEventOf_moves s p _))⟩
  | unlock p => exact ⟨_, rfl, unlessInReset_does (.event (linkEventOf_moves s p _))⟩
  | openCountReached p =>
    exact ⟨_, rfl, unlessInReset_does (.event (judgedWith_moves s .request (fun t => collect_moves t [p]) p))⟩
  | holdExpiry p => exact ⟨_, rfl, unlessInReset_does (.event (judgedWith_moves s .expired (expire_moves · p) p))⟩
  | waitTimeout p => exact ⟨_, rfl, unlessInReset_does (.event (judgedWith_moves s .timeout (timeOut_moves · p) p))⟩
  | noiseFloorRise ch => exact ⟨_, rfl, unlessInReset_does (ite_does (.event (moves_detectors s _)))⟩
  | intervalEnd => exact ⟨_, rfl, unlessInReset_does (ite_does (.event (endInterval_moves s)))⟩
  | segmentEnd n i => exact ⟨_, rfl, unlessInReset_does (ite_does (.event (playPosition_moves s n i)))⟩
  | masterRampArrival => exact ⟨_, rfl, unlessInReset_does (ite_does (.event (masterArrival_received_moves s)))⟩
  | playerRampArrival n => exact ⟨_, rfl, unlessInReset_does (ite_does (.event (playerArrival_received_moves s n)))⟩
  | badCheckFrame body check => exact ⟨_, rfl, whileListening_does (ite_does (judgeFrame_does s body _))⟩
  | framingError b => exact ⟨_, rfl, whileListening_does (.event (framingError_moves s b))⟩
  | badFrameLength b => exact ⟨_, rfl, whileListening_does (ite_does (.event (hunt_moves s)))⟩
  | gapTimerExpiry =>
    refine ⟨_, rfl, whileListening_does ?_⟩
    simp only
    split
    · exact .nothing _ s
    all_goals exact .event (hunt_controlError_moves s _ _ _ _)
  | messageSent =>
    refine ⟨_, rfl, unlessInReset_does ?_⟩
    split
    · exact .softReset
    · exact .event (dropSent_moves s)
  | unknownRequest ty tag l =>
    refine ⟨_, rfl, ?_⟩
    split
    · exact .nothing _ s
    · exact .event (takeRequest_moves ty tag _ s fun _ => .refl _)
  | powerOn held => exact ⟨_, rfl, .hardReset held⟩
  | resetPin => exact ⟨_, rfl, .hardReset true⟩
  | softReset => exact ⟨_, rfl, ite_does .softReset⟩
  | resetEnd =>
    refine ⟨_, rfl, ?_⟩
    split
    · exact .event (endReset_moves s _)
    · exact .event (endReset_moves s _)
    · exact .nothing _ s
    · exact .nothing _ s
  | controlByteReceived b => exact ⟨_, rfl, whileListening_does (receiveByte_does s b)⟩
  | _ => exact ⟨serve c s, by rw [hc]; rfl, .request c (.refl _ s)⟩

end Sys2Proof.Machine
end

section
/-! The frame level of an energy (R50): O32. -/

namespace Sys2Proof.Machine

/-- R50: the energy of a frame, as a sum over the positions. -/
theorem frameEnergy_eq_sum (f : Frame) : frameEnergy f = ∑ i : Fin 16, (f[i]).toInt.natAbs ^ 2 := by
  have hlist : f.toList = List.ofFn fun i : Fin 16 => f[i] := by
    rw [← Vector.toList_ofFn]
    exact congrArg Vector.toList (Vector.ext fun i hi => by simp)
  rw [frameEnergy, hlist, List.map_ofFn, List.sum_ofFn]
  rfl

/-- What the search of the level finds: the least j whose step -j the energy reaches, or none of the 121. -/
theorem levelOf_cases (energy : Nat) :
    (∃ j : Nat, j ≤ 120 ∧ levelOf energy = -(j : Int) ∧ reaches energy j = true ∧ ∀ i < j, reaches energy i = false) ∨
      (levelOf energy = -120 ∧ ∀ j : Nat, j ≤ 120 → reaches energy j = false) := by
  unfold levelOf
  split
  · rename_i j hj
    obtain ⟨hreach, hmem, hleast⟩ := List.find?_range_eq_some.1 hj
    rw [List.mem_range] at hmem
    exact .inl ⟨j, by omega, rfl, hreach, fun i hi => by rw [← Bool.not_eq_true', hleast i hi]⟩
  · rename_i hnone
    exact .inr ⟨rfl, fun j hj =>
      Bool.eq_false_iff.2 (List.find?_eq_none.1 hnone j (List.mem_range.2 (Nat.lt_succ_of_le hj)))⟩

theorem levelOf_mem (energy : Nat) : -120 ≤ levelOf energy ∧ levelOf energy ≤ 0 := by
  obtain ⟨j, hj, hlevel, -⟩ | ⟨hlevel, -⟩ := levelOf_cases energy <;> omega

theorem le_levelOf_of_reaches {energy j : Nat} (hj : j ≤ 120) (h : reaches energy j = true) :
    -(j : Int) ≤ levelOf energy := by
  obtain ⟨k, -, hlevel, -, hleast⟩ | ⟨-, hnone⟩ := levelOf_cases energy
  · have hk : k ≤ j := by
      by_contra hlt
      rw [hleast j (by omega)] at h
      cases h
    omega
  · rw [hnone j hj] at h
    cases h

theorem reaches_levelOf {energy : Nat} (h : -120 < levelOf energy) : reaches energy (-levelOf energy).toNat = true := by
  obtain ⟨j, -, hlevel, hreach, -⟩ | ⟨hlevel, -⟩ := levelOf_cases energy
  · rwa [hlevel, neg_neg, Int.toNat_natCast]
  · omega

theorem reaches_iff (energy j : Nat) : reaches energy j = true ↔ 2 ^ 680 ≤ energy ^ 20 * 10 ^ j := decide_eq_true_iff

/-- Settles O32: the search goes through the steps from 0 down, and stops at the first that the energy reaches. -/
theorem frameLevelIsTheGreatestStepReached : Obligations.FrameLevelIsTheGreatestStepReached :=
  ⟨fun f => by rw [levelOfFrame, frameEnergy_eq_sum], fun energy =>
    ⟨levelOf_mem energy, fun j hj h => le_levelOf_of_reaches hj ((reaches_iff energy j).2 h),
      fun h => (reaches_iff energy _).1 (reaches_levelOf h)⟩⟩

end Sys2Proof.Machine
end

section
/-! Every step keeps the smoothed levels and the noise floors in -120..0: O53. -/

namespace Sys2Proof.Machine

/-! ### One channel (R50 to R53) -/

/-- R51: the smoothed level moves to a value between the old one and the frame level. -/
theorem smooth_between {level smoothed lo hi : Int} (hl : lo ≤ level ∧ level ≤ hi) (hs : lo ≤ smoothed ∧ smoothed ≤ hi) :
    lo ≤ smooth level smoothed ∧ smooth level smoothed ≤ hi := by
  rw [smooth_eq]
  split <;> omega

theorem Detector.updateFloor_bounded {d : Detector} (h : d.Bounded) : d.updateFloor.Bounded := by
  obtain ⟨hsmoothed, hfloor, hlevel, hrise⟩ := h
  by_cases hlt : d.smoothed < d.noiseFloor
  · rw [updateFloor_of_lt d hlt]
    exact ⟨hsmoothed, hsmoothed, hlevel, Nat.zero_le _⟩
  · rw [Int.not_lt] at hlt
    by_cases hcount : d.riseCounter + 1 < 64
    · rw [updateFloor_of_counting d hlt hcount]
      exact ⟨hsmoothed, hfloor, hlevel, Nat.le_of_lt_succ hcount⟩
    · rw [updateFloor_of_rise d hlt (Nat.not_lt.1 hcount)]
      exact ⟨hsmoothed, by dsimp only; omega, hlevel, Nat.zero_le _⟩

theorem Detector.measure_bounded {d : Detector} (f : Frame) (h : d.Bounded) : (d.measure f).Bounded := by
  obtain ⟨hsmoothed, hfloor, -, hrise⟩ := h
  have hlevel : -120 ≤ levelOfFrame f ∧ levelOfFrame f ≤ 0 := levelOf_mem (frameEnergy f)
  unfold Detector.measure
  generalize levelOfFrame f = level at hlevel ⊢
  exact updateFloor_bounded ⟨smooth_between hlevel hsmoothed, hfloor, hlevel, hrise⟩

theorem Detector.reset_bounded : Detector.reset.Bounded := by decide

/-! ### What keeps the levels -/

/-- What is done keeps every channel's levels in their range. -/
def KeepsLevels (s t : State) : Prop := LevelsBounded s → LevelsBounded t

theorem KeepsLevels.trans {s t u : State} (h : KeepsLevels s t) (k : KeepsLevels t u) : KeepsLevels s u := fun hs => k (h hs)

theorem KeepsLevels.of_moves {A : List Part} {s t : State} (h : Moves A s t) (hA : .detectors ∉ A) : KeepsLevels s t :=
  fun hs c => by
    rw [show t.detectors = s.detectors from h.frame .detectors hA]
    exact hs c

/-- R49: the boundary measures each channel once, and nothing else at a boundary touches the detectors. -/
theorem boundary_keepsLevels (order : List Work) (trunks : Vector Frame 4) (s : State) :
    KeepsLevels s (s.boundary order trunks) := fun hs c => by
  obtain ⟨-, hdetectors, -⟩ := boundary_fields order trunks s
  rw [hdetectors, beforeFeeds_detectors]
  exact Detector.measure_bounded _ (hs c)

/-- R52: the rise of one channel's noise floor. -/
theorem raiseFloor_keepsLevels (c : Channel) (s : State) :
    KeepsLevels s { s with detectors := Vec.put s.detectors c (s.detectors[c]).updateFloor } :=
  fun hs => Vec.forall_put hs (Detector.updateFloor_bounded (hs c))

/-- R58: the peaks are no levels. -/
theorem clearPeaks_keepsLevels (listed : List Channel) (s : State) : KeepsLevels s (s.clearPeaks listed) :=
  fun hs => Vec.forall_tab fun c => by
    split
    · exact hs c
    · exact hs c

theorem serveGetLevels_keepsLevels (tag first count : Byte) (s : State) :
    KeepsLevels s (serveGetLevels tag first count s) := by
  have hhunt : KeepsLevels s s.hunt := .of_moves (hunt_moves s) (by decide)
  unfold serveGetLevels
  rcases takeRequest_cases 0x14 tag 2 (judgeGetLevels first count) s with ⟨-, h⟩ | ⟨-, h⟩ | ⟨-, h⟩ <;> rw [h]
  · exact id
  · exact hhunt.trans (.of_moves (controlError_moves _ _ _ _ _) (by decide))
  · refine hhunt.trans ?_
    unfold judgeGetLevels
    split
    · exact clearPeaks_keepsLevels _ _
    · exact id

theorem serve_keepsLevels (i : Instr) (s : State) : KeepsLevels s (serve i s) := by
  cases i with
  | getLevels tag first count => exact serveGetLevels_keepsLevels tag first count s
  | _ => exact .of_moves (serve_moves _ s) (by simp only [requestParts, effectParts]; decide)

/-- R61: S is -120 and N is 0 after any reset. -/
theorem blocksReset_levelsBounded (store : ClipStore) (r : StartReason) (ph : Phase) (latch : Bool) (l : List Instr) :
    LevelsBounded (State.blocksReset store r ph latch l) := Vec.forall_tab fun _ => Detector.reset_bounded

theorem reset_levelsBounded : LevelsBounded State.reset := Vec.forall_tab fun _ => Detector.reset_bounded

theorem Does.keepsLevels {A : List Part} {s t : State} (h : Does A s t) (hA : .detectors ∉ A) : KeepsLevels s t := by
  cases h with
  | event h => exact .of_moves h hA
  | request i h => exact (KeepsLevels.of_moves h (by decide)).trans (serve_keepsLevels i _)
  | hardReset latch => exact fun _ => blocksReset_levelsBounded _ _ _ _ _
  | softReset => exact fun _ => blocksReset_levelsBounded _ _ _ _ _

theorem unlessInReset_keepsLevels {f : State → State} {s : State} (h : KeepsLevels s (f s)) :
    KeepsLevels s (unlessInReset f s) := by
  rcases unlessInReset_cases f s with e | e <;> rw [e]
  · exact h
  · exact id

/-- The boundary and NOISE_FLOOR_RISE are the events that touch the detectors. -/
theorem detectors_mem_eventParts {c : Instr} (h : .detectors ∈ eventParts c) :
    (∃ order trunks, c = .mixPeriodBoundary order trunks) ∨ ∃ ch, c = .noiseFloorRise ch := by
  cases c with
  | mixPeriodBoundary order trunks => exact .inl ⟨order, trunks, rfl⟩
  | noiseFloorRise ch => exact .inr ⟨ch, rfl⟩
  | micFrameArrival | lockCount | restart | settleDone | silence | unlock =>
    exact absurd h (show Part.detectors ∉ linkParts by decide)
  | openCountReached | holdExpiry | waitTimeout => exact absurd h (show Part.detectors ∉ gateParts by decide)
  | intervalEnd => exact absurd h (show Part.detectors ∉ [.alc] by decide)
  | segmentEnd => exact absurd h (show Part.detectors ∉ playerParts by decide)
  | masterRampArrival =>
    exact absurd h (show Part.detectors ∉ [.masterRamp, .mixer, .mixerReports] by decide)
  | playerRampArrival => exact absurd h (show Part.detectors ∉ visitParts by decide)
  | resetEnd => exact absurd h (show Part.detectors ∉ [.resets] by decide)
  | _ => exact absurd h (show Part.detectors ∉ frameParts by decide)

theorem exec_keepsLevels (c : Instr) (s : State) : ∃ t : State, exec c s = .next t ∧ KeepsLevels s t := by
  by_cases hc : .detectors ∈ eventParts c
  · obtain ⟨order, trunks, rfl⟩ | ⟨ch, rfl⟩ := detectors_mem_eventParts hc
    · exact ⟨_, rfl, unlessInReset_keepsLevels (boundary_keepsLevels order trunks s)⟩
    · refine ⟨_, rfl, unlessInReset_keepsLevels ?_⟩
      dsimp only
      split
      · exact raiseFloor_keepsLevels ch s
      · exact id
  · obtain ⟨t, ht, hdoes⟩ := exec_does c s
    exact ⟨t, ht, hdoes.keepsLevels hc⟩

/-- Settles O53: reset gives the values of R61, and the command at the front of the queue keeps the levels. -/
theorem stepKeepsTheLevels : Obligations.StepKeepsTheLevels := by
  refine ⟨reset_levelsBounded, fun s t hs h => ?_⟩
  unfold step at h
  split at h
  · cases h
    exact hs
  · rename_i c rest _
    obtain ⟨u, hu, hkeeps⟩ := exec_keepsLevels c { s with pending := rest }
    rw [hu] at h
    cases h
    exact hkeeps hs

end Sys2Proof.Machine
end

section
/-! NOISE_FLOOR_RISE, GET_LEVELS and GET_OUTPUT_LEVELS (R52, R58, R60): O33. -/

namespace Sys2Proof.Machine

/-! ### What a request for levels lists (R195) -/

/-- R195: the status of a count taken as `n`. -/
theorem okOr_code (n count : Nat) : (okOr (decide (n ≠ count))).code = if n = count then 0 else 1 := by
  by_cases h : n = count <;> simp [h, okOr, Status.code]

section
variable {tag first count : Byte} {s : State} {v : Verdict}

theorem exec_getLevels (h : s.takes) (hv : judgeGetLevels first count s.hunt = v) :
    exec (.getLevels tag first count) s = .next (v.effect (s.answered 0x94 tag (v.status.code :: v.fields))) :=
  congrArg Host.Outcome.next (takeRequest_verdict h hv)

theorem exec_getOutputLevels (h : s.takes) (hv : judgeGetOutputLevels first count s.hunt = v) :
    exec (.getOutputLevels tag first count) s = .next (v.effect (s.answered 0x95 tag (v.status.code :: v.fields))) :=
  congrArg Host.Outcome.next (takeRequest_verdict h hv)

theorem judgeGetLevels_of_bad (h : first.toNat = 0 ∨ 30 < first.toNat) :
    judgeGetLevels first count s = .refuse .badValue := if_neg (by omega)

theorem judgeGetOutputLevels_of_bad (h : first.toNat = 0 ∨ 30 < first.toNat) :
    judgeGetOutputLevels first count s = .refuse .badValue := if_neg (by omega)

end

/-- R58: the peaks of the channels asked for. -/
theorem clearPeaks_of_listed {listed : List Channel} {asked : Channel → Bool} (h : ∀ c, c ∈ listed ↔ asked c = true)
    (s : State) : s.clearPeaks listed =
      { s with detectors := Vec.tab fun c => if asked c then { s.detectors[c] with peak := 0 } else s.detectors[c] } := by
  simp only [State.clearPeaks, h]

/-- R60: the meters of the outputs asked for. -/
theorem clearOutputMeters_of_listed {listed : List Output} {asked : Output → Bool} (h : ∀ o, o ∈ listed ↔ asked o = true)
    (s : State) : s.clearOutputMeters listed =
      { s with outputMeters := Vec.tab fun o => if asked o then { peak := 0, clip := false } else s.outputMeters[o] } := by
  simp only [State.clearOutputMeters, h]

/-! ### NOISE_FLOOR_RISE (R52) -/

theorem exec_noiseFloorRise {c : Channel} {s : State} (hs : s.outOfReset)
    (hfloor : (s.detectors[c]).noiseFloor ≤ (s.detectors[c]).smoothed) (hrise : 64 ≤ (s.detectors[c]).riseCounter + 1) :
    exec (.noiseFloorRise c) s =
      .next { s with detectors := Vec.put s.detectors c (s.detectors[c]).updateFloor } :=
  congrArg Host.Outcome.next ((unlessInReset_of_outOfReset hs).trans (if_pos ⟨hfloor, hrise⟩))

/-- Settles O33: the rise by the equation of the floor's update, each query by its verdict. -/
theorem levelsRiseAndAreRead : Obligations.LevelsRiseAndAreRead := by
  refine ⟨fun c s hs hfloor hrise => ?_, fun tag first count s hs hbad => ?_, fun tag first count s hs hlow hhigh => ?_⟩
  · have h64 : 64 ≤ (s.detectors[c]).riseCounter + 1 := Nat.succ_le_succ hrise
    rw [exec_noiseFloorRise hs hfloor h64, Detector.updateFloor_of_rise _ hfloor h64]
  · exact ⟨exec_getLevels hs (judgeGetLevels_of_bad hbad), exec_getOutputLevels hs (judgeGetOutputLevels_of_bad hbad)⟩
  · intro n asked listed status
    have hmem (c : Fin 30) : c ∈ listed ↔ asked c = true := by simp [listed]
    have hstatus : (okOr (decide (n ≠ count.toNat))).code = status := okOr_code n count.toNat
    have hlevels : judgeGetLevels first count s.hunt =
        { status := okOr (decide (n ≠ count.toNat)),
          fields := u8 listed.length :: listed.flatMap fun c => (s.detectors[c]).entry,
          effect := State.clearPeaks listed } := if_pos ⟨hlow, hhigh⟩
    have hmeters : judgeGetOutputLevels first count s.hunt =
        { status := okOr (decide (n ≠ count.toNat)),
          fields := u8 listed.length :: listed.flatMap fun o => (s.outputMeters[o]).entry,
          effect := State.clearOutputMeters listed } := if_pos ⟨hlow, hhigh⟩
    rw [exec_getLevels hs hlevels, exec_getOutputLevels hs hmeters, hstatus]
    exact ⟨congrArg Host.Outcome.next (clearPeaks_of_listed hmem _),
      congrArg Host.Outcome.next (clearOutputMeters_of_listed hmem _)⟩

end Sys2Proof.Machine
end

section
/-! SUPPORT. What a change of one gate makes of the holders, the wait queue and the collected requests (R62, R69, R72, R73). -/

namespace Sys2Proof.Machine

/-! ### The holders (R62) -/

theorem mem_holders {s : State} {p : Pod} : p ∈ s.holders ↔ (s.gate p).state.holds = true := by
  simp [State.holders, mem_allPods]

theorem nodup_holders (s : State) : s.holders.Nodup := (List.nodup_finRange 24).filter _

theorem holders_congr {s t : State} (h : ∀ p : Pod, (t.gate p).state.holds = (s.gate p).state.holds) :
    t.holders = s.holders := by
  simp only [State.holders, h]

/-- A gate that closes, waits or goes to BYPASS takes its channel out of the holders. -/
theorem holders_of_shut {s t : State} {p : Pod} (hp : (t.gate p).state.holds = false)
    (hother : ∀ q : Pod, q ≠ p → t.gate q = s.gate q) : t.holders = s.holders.filter (· ≠ p) := by
  simp only [State.holders, List.filter_filter]
  refine List.filter_congr fun q _ => ?_
  by_cases hq : q = p
  · simp [hq, hp]
  · simp [hq, hother q hq]

/-- A gate that opens adds its channel to the holders. -/
theorem holders_of_opened {s t : State} {p : Pod} (hs : p ∉ s.holders) (hp : (t.gate p).state.holds = true)
    (hother : ∀ q : Pod, q ≠ p → t.gate q = s.gate q) : t.holders.Perm (p :: s.holders) := by
  refine (List.perm_ext_iff_of_nodup (nodup_holders t) (List.nodup_cons.2 ⟨hs, nodup_holders s⟩)).2 fun q => ?_
  rw [List.mem_cons, mem_holders, mem_holders]
  by_cases hq : q = p
  · simp [hq, hp]
  · simp [hq, hother q hq]

theorem length_filter_ne {l : List Pod} (h : l.Nodup) (p : Pod) :
    (l.filter (· ≠ p)).length = if p ∈ l then l.length - 1 else l.length := by
  rw [← filter_bne, ← h.erase_eq_filter, List.length_erase]

/-! ### One gate set (R70, R72, R73) -/

/-- The automixer with the gate of a channel in a state, and the channel out of the wait queue and the collection. -/
def State.gateTo (p : Pod) (st : GateState) (s : State) : State := (s.setGateState p st 0).dequeueGate p

section
variable (p : Pod) (st : GateState) (s : State)

theorem gateTo_gate (q : Pod) : (s.gateTo p st).gate q = if q = p then { s.gate p with state := st, count := 0 } else s.gate q := by
  split
  · rename_i h
    rw [h]
    exact setGateState_gate_self p st 0 s
  · rename_i h
    exact setGateState_gate_other h st 0 s

theorem gateTo_waitQueue : (s.gateTo p st).automixer.waitQueue = s.automixer.waitQueue.filter (· ≠ p) := filter_bne p _

theorem gateTo_collected : (s.gateTo p st).automixer.collected = s.automixer.collected.filter (· ≠ p) := filter_bne p _

end

/-! ### What keeps the gates sound -/

/-- What is done keeps the gates sound. -/
def KeepsGates (s t : State) : Prop := GatesSound s → GatesSound t

theorem KeepsGates.refl (s : State) : KeepsGates s s := id

theorem KeepsGates.trans {s t u : State} (h : KeepsGates s t) (k : KeepsGates t u) : KeepsGates s u := fun hs => k (h hs)

theorem KeepsGates.foldl {α : Type} {f : State → α → State} (h : ∀ t a, KeepsGates t (f t a)) (l : List α) (s : State) :
    KeepsGates s (l.foldl f s) := by
  induction l generalizing s with
  | nil => exact .refl s
  | cons a rest ih => exact (h s a).trans (ih _)

/-- Whether the gates are sound is a matter of the automixer and the reason sets alone. -/
theorem KeepsGates.of_same {s t : State} (ha : t.automixer = s.automixer) (hr : t.mutes.reasons = s.mutes.reasons) :
    KeepsGates s t := by
  intro hs
  simp only [GatesSound, State.holders, State.gate, ha, hr] at hs ⊢
  exact hs

theorem KeepsGates.of_moves {A : List Part} {s t : State} (h : Moves A s t) (hA : .automixer ∉ A ∧ .mutes ∉ A) :
    KeepsGates s t :=
  .of_same (h.frame .automixer hA.1) (congrArg Mutes.reasons (show t.mutes = s.mutes from h.frame .mutes hA.2))

/-- The mute controller's registers written, the reason sets as they are. -/
theorem KeepsGates.of_reasons {A : List Part} {s t : State} (h : Moves A s t) (hA : .automixer ∉ A)
    (hr : t.mutes.reasons = s.mutes.reasons) : KeepsGates s t := .of_same (h.frame .automixer hA) hr

/-- Gates that move neither to nor from WAITING, nor among the holders, and stay shut where they are muted. -/
theorem GatesSound.of_gates {s t : State} (hs : GatesSound s) (hr : t.mutes.reasons = s.mutes.reasons)
    (hqueue : t.automixer.waitQueue = s.automixer.waitQueue) (hcoll : t.automixer.collected.Nodup)
    (hlimit : t.automixer.limit = s.automixer.limit) (hpending : t.automixer.pendingLimit = s.automixer.pendingLimit)
    (hwaiting : ∀ p : Pod, (t.gate p).state = .waiting ↔ (s.gate p).state = .waiting)
    (hholds : ∀ p : Pod, (t.gate p).state.holds = (s.gate p).state.holds)
    (hshut : ∀ p : Pod, (s.mutes.reasons[p]).muted = true → (s.gate p).state.Shut → (t.gate p).state.Shut) :
    GatesSound t := by
  obtain ⟨hmuted, hnodup, hwait, -, hlen, hrange, hrange'⟩ := hs
  simp only [GatesSound, hr, hqueue, hlimit, hpending, hwaiting, holders_congr hholds]
  exact ⟨fun p hp => hshut p hp (hmuted p hp), hnodup, hwait, hcoll, hlen, hrange, hrange'⟩

/-- R62, R72, R73: the gates are sound but for the number of holders, as they are while a fallen limit evicts them (R69). -/
structure GatesInOrder (s : State) : Prop where
  muted : ∀ p : Pod, (s.mutes.reasons[p]).muted = true → (s.gate p).state.Shut
  queue : s.automixer.waitQueue.Nodup
  waiting : ∀ p : Pod, p ∈ s.automixer.waitQueue ↔ (s.gate p).state = .waiting
  collected : s.automixer.collected.Nodup
  limit : 1 ≤ s.automixer.limit ∧ s.automixer.limit ≤ 8
  pending : 1 ≤ s.automixer.pendingLimit.getD 1 ∧ s.automixer.pendingLimit.getD 1 ≤ 8

theorem gatesSound_iff (s : State) : GatesSound s ↔ GatesInOrder s ∧ s.holders.length ≤ s.automixer.limit :=
  ⟨fun ⟨hmuted, hqueue, hwait, hcoll, hlen, hlimit, hpending⟩ => ⟨⟨hmuted, hqueue, hwait, hcoll, hlimit, hpending⟩, hlen⟩,
    fun ⟨h, hlen⟩ => ⟨h.muted, h.queue, h.waiting, h.collected, hlen, h.limit, h.pending⟩⟩

/-- R72, R73: a gate may be set to a state other than WAITING where the mute allows it. -/
theorem GatesInOrder.gateTo {p : Pod} {st : GateState} {s : State} (hs : GatesInOrder s) (hst : st ≠ .waiting)
    (hmute : (s.mutes.reasons[p]).muted = true → st.Shut) : GatesInOrder (s.gateTo p st) where
  muted q hq := by
    rw [gateTo_gate]
    split
    · rename_i h
      exact hmute (h ▸ hq)
    · exact hs.muted q hq
  queue := by
    rw [gateTo_waitQueue]
    exact hs.queue.filter _
  waiting q := by
    rw [gateTo_waitQueue, List.mem_filter, decide_eq_true_eq, gateTo_gate, hs.waiting]
    split
    · rename_i h
      exact iff_of_false (fun hn => hn.2 h) hst
    · rename_i h
      exact and_iff_left h
  collected := by
    rw [gateTo_collected]
    exact hs.collected.filter _
  limit := hs.limit
  pending := hs.pending

theorem gateTo_holders_of_shut {st : GateState} (h : st.holds = false) (p : Pod) (s : State) :
    (s.gateTo p st).holders = s.holders.filter (· ≠ p) :=
  holders_of_shut (by rw [gateTo_gate, if_pos rfl, h]) fun q hq => by rw [gateTo_gate, if_neg hq]

theorem gateTo_holders_length_le (p : Pod) (st : GateState) (s : State) :
    (s.gateTo p st).holders.length ≤ s.holders.length + if st.holds then 1 else 0 := by
  cases h : st.holds with
  | false =>
    rw [gateTo_holders_of_shut h]
    exact List.length_filter_le _ _
  | true =>
    have hsub : (s.gateTo p st).holders ⊆ p :: s.holders := fun q hq => by
      rw [mem_holders, gateTo_gate] at hq
      split at hq
      · simp [*]
      · exact List.mem_cons_of_mem _ (mem_holders.2 hq)
    exact ((nodup_holders _).subperm hsub).length_le

/-- R69: a gate that opens needs a free slot. -/
theorem GatesSound.gateTo {p : Pod} {st : GateState} {s : State} (hs : GatesSound s) (hst : st ≠ .waiting)
    (hmute : (s.mutes.reasons[p]).muted = true → st.Shut) (hslot : st.holds = true → s.holders.length < s.automixer.limit) :
    GatesSound (s.gateTo p st) := by
  obtain ⟨horder, hlen⟩ := (gatesSound_iff s).1 hs
  refine (gatesSound_iff _).2 ⟨horder.gateTo hst hmute, (gateTo_holders_length_le p st s).trans ?_⟩
  split
  · rename_i h
    exact hslot h
  · exact hlen

/-- A report leaves the gates as they are. -/
theorem gateEvent_keepsGates (p : Pod) (a b : GateState) (c : GateCause) (s : State) : KeepsGates s (s.gateEvent p a b c) :=
  .of_same (State.gateEvent_automixer ..) (by rw [State.gateEvent_mutes])

/-- R73: any gate may be closed. -/
theorem releaseGate_keepsGates (p : Pod) (c : GateCause) (s : State) : KeepsGates s (s.releaseGate p c) := fun hs =>
  gateEvent_keepsGates _ _ _ _ _ (hs.gateTo (by decide) (fun _ => .inl rfl) fun h => by cases h)

/-- R70, R72: a channel that is not muted may open while a slot is free. -/
theorem GatesSound.openGate {p : Pod} {s : State} (hs : GatesSound s) (hp : ¬ (s.gate p).state.Shut)
    (hslot : s.holders.length < s.automixer.limit) : GatesSound (s.openGate p) :=
  gateEvent_keepsGates _ _ _ _ _ (hs.gateTo (by decide) (fun h => absurd (hs.1 p h) hp) fun _ => hslot)

theorem retargetGate_keepsGates (p : Pod) (s : State) : KeepsGates s (s.retargetGate p) :=
  .of_moves (retargetGate_moves p s) (by decide)

/-! ### Mutes (R73, R87) -/

/-- R73: a mute closes the gate of a channel that becomes muted, unless it is shut, and leaves the automixer alone otherwise. -/
theorem setReasons_automixer (p : Pod) (r : Reasons) (s : State) :
    (s.setReasons p r).automixer =
      if (s.mutes.reasons[p]).muted = false ∧ r.muted = true ∧ ¬ (s.gate p).state.Shut then (s.gateTo p .closed).automixer
      else s.automixer := by
  rw [setReasons_eq]
  by_cases hm : (s.mutes.reasons[p]).muted = false ∧ r.muted = true
  · rw [if_pos hm]
    by_cases h : (s.gate p).state.Shut
    · rw [if_neg fun hn => hn.2.2 h, closeForMute_of_shut (s := s.withReasons p r) h]
      rfl
    · rw [if_pos ⟨hm.1, hm.2, h⟩, closeForMute_of_active (s := s.withReasons p r) h, State.retargetGate_automixer,
        releaseGate_automixer]
      rfl
  · rw [if_neg hm, if_neg fun hn => hm ⟨hn.1, hn.2.1⟩]
    rfl

/-- Other reason sets, where every muted channel is shut. -/
theorem GatesSound.of_shut {s t : State} (hs : GatesSound s) (ha : t.automixer = s.automixer)
    (hshut : ∀ p : Pod, (t.mutes.reasons[p]).muted = true → (t.gate p).state.Shut) : GatesSound t := by
  obtain ⟨-, hrest⟩ := hs
  refine ⟨hshut, ?_⟩
  simp only [State.holders, State.gate, ha] at hrest ⊢
  exact hrest

theorem setReasons_gate_other {p q : Pod} (h : q ≠ p) (r : Reasons) (s : State) : (s.setReasons p r).gate q = s.gate q := by
  rw [State.gate, setReasons_automixer]
  split
  · exact (gateTo_gate p .closed s q).trans (if_neg h)
  · rfl

/-- R73: whatever the reasons of a channel become. -/
theorem setReasons_keepsGates (p : Pod) (r : Reasons) (s : State) : KeepsGates s (s.setReasons p r) := by
  intro hs
  have hshut (q : Pod) (hq : ((s.setReasons p r).mutes.reasons[q]).muted = true) : ((s.setReasons p r).gate q).state.Shut := by
    rw [State.setReasons_reasons, Fin.getElem_fin, Vec.getElem_put] at hq
    by_cases h : q = p
    · subst h
      rw [if_pos rfl] at hq
      exact (gateShut_setReasons hs hq).shut
    · rw [if_neg fun e => h (Fin.ext e).symm] at hq
      rw [setReasons_gate_other h]
      exact hs.1 q hq
  by_cases h : (s.mutes.reasons[p]).muted = false ∧ r.muted = true ∧ ¬ (s.gate p).state.Shut
  · have hclosed : GatesSound (s.gateTo p .closed) := hs.gateTo (by decide) (fun _ => .inl rfl) fun h => by cases h
    exact hclosed.of_shut (by rw [setReasons_automixer, if_pos h]) hshut
  · exact hs.of_shut (by rw [setReasons_automixer, if_neg h]) hshut

end Sys2Proof.Machine
end

section
/-! SUPPORT. The mute controller, the links and the roster keep the gates sound (R73, R74, R75). -/

namespace Sys2Proof.Machine

section
variable (p : Pod) (s : State)

theorem setKey_keepsGates (b : Bool) : KeepsGates s (s.setKey p b) := setReasons_keepsGates p _ s

theorem setHost_keepsGates (b : Bool) : KeepsGates s (s.setHost p b) := setReasons_keepsGates p _ s

theorem setChair_keepsGates (b : Bool) : KeepsGates s (s.setChair p b) := setReasons_keepsGates p _ s

theorem gainFault_keepsGates : KeepsGates s (s.gainFault p) :=
  (setReasons_keepsGates p _ s).trans (.of_moves (onGateRamp_moves Ramp.keeping_jump_zero _ p) (by decide))

theorem loseFault_keepsGates : KeepsGates s (s.loseFault p) :=
  (setReasons_keepsGates p _ s).trans (retargetGate_keepsGates p _)

theorem keyFollows_keepsGates (b : Bool) : KeepsGates s (s.keyFollows p b) := by
  rw [keyFollows_eq]
  exact setReasons_keepsGates p _ s

/-- A write of the mute controller that leaves the reason sets alone. -/
theorem mutes_keepsGates (m : Mutes) (hm : m.reasons = s.mutes.reasons) : KeepsGates s { s with mutes := m } := .of_same rfl hm

theorem ageKeys_keepsGates : KeepsGates s s.ageKeys := mutes_keepsGates s _ (by rfl)

theorem giveLeds_keepsGates (before : State) : KeepsGates s (s.giveLeds before) := mutes_keepsGates s _ (by rfl)

theorem setTrunkHost_keepsGates (k : Trunk) (on : Bool) : KeepsGates s (s.setTrunkHost k on) := by
  refine .of_reasons (setTrunkHost_moves s k on) (by decide) ?_
  unfold State.setTrunkHost
  split <;> rfl

theorem setPrivacy_keepsGates (on : Bool) : KeepsGates s (s.setPrivacy on) := by
  refine .of_reasons (setPrivacy_moves s on) (by decide) ?_
  unfold State.setPrivacy
  split <;> rfl

theorem revertKeys_keepsGates : KeepsGates s (s.revertKeys p) :=
  (mutes_keepsGates s _ (by rfl)).trans (keyFollows_keepsGates p _ false)

theorem talkReport_keepsGates (a : TalkAction) (b : Byte) : KeepsGates s (s.talkReport a b) :=
  .of_moves (talkReport_moves s a b) (by decide)

theorem leaveTalkList_keepsGates (a : TalkAction) : KeepsGates s (s.leaveTalkList p a) :=
  .of_same (State.leaveTalkList_automixer p a s) (by rw [leaveTalkList_mutes])

/-! ### Keys, requests to speak and the all-mute (R91 to R101) -/

theorem clearTalkList_keepsGates : KeepsGates s s.clearTalkList := by
  unfold State.clearTalkList
  split
  · exact .refl s
  · exact (mutes_keepsGates s _ (by rfl)).trans (talkReport_keepsGates _ _ _)

theorem setChairMute_keepsGates (on : Bool) : KeepsGates s (s.setChairMute on) := by
  have hchairs (b : Bool) (c : State → Pod → Prop) [∀ t p, Decidable (c t p)] (t : State) :
      KeepsGates t (allPods.foldl (fun t p => if c t p then t.setChair p b else t) t) :=
    KeepsGates.foldl (fun t p => by split; exacts [setChair_keepsGates p t b, .refl t]) _ t
  unfold State.setChairMute
  split
  · exact .refl s
  · split
    · exact (mutes_keepsGates s _ (by rfl)).trans (hchairs _ _ _)
    · exact ((mutes_keepsGates s _ (by rfl)).trans (hchairs _ _ _)).trans (clearTalkList_keepsGates _)

theorem acceptEdge_keepsGates (isAll level : Bool) {effect : State → State} (h : ∀ t, KeepsGates t (effect t)) :
    KeepsGates s (s.acceptEdge p isAll level effect) :=
  (KeepsGates.of_moves (moves_post s _ _ _ (by decide)) (by decide)).trans (h _)

theorem talkPress_keepsGates : KeepsGates s (s.talkPress p) := by
  unfold State.talkPress
  split
  · exact leaveTalkList_keepsGates p s _
  · split
    · exact (mutes_keepsGates s _ (by rfl)).trans (talkReport_keepsGates _ _ _)
    · exact talkReport_keepsGates s _ _

theorem talkEdge_keepsGates (pressed : Bool) : KeepsGates s (s.talkEdge p pressed) := by
  have hkey : KeepsGates s (s.talkEdgeKey p pressed) := by
    unfold State.talkEdgeKey
    split
    · split
      · exact setKey_keepsGates p s _
      · exact .refl s
    all_goals exact keyFollows_keepsGates p s pressed
  unfold State.talkEdge
  split
  · exact hkey.trans (talkPress_keepsGates p _)
  · exact hkey

theorem allEdge_keepsGates (pressed : Bool) : KeepsGates s (s.allEdge p pressed) := by
  unfold State.allEdge
  split
  · exact setChairMute_keepsGates s _
  · exact .refl s

theorem takeAllLevel_keepsGates (k : KeyLevels) : KeepsGates s (s.takeAllLevel p k) := by
  unfold State.takeAllLevel
  split
  · exact mutes_keepsGates s _ (by rfl)
  · split
    · exact (mutes_keepsGates s _ (by rfl)).trans (acceptEdge_keepsGates p _ true k.all fun t => allEdge_keepsGates p t k.all)
    · exact .refl s

theorem takeTalkLevel_keepsGates (k : KeyLevels) : KeepsGates s (s.takeTalkLevel p k) := by
  unfold State.takeTalkLevel
  split
  · exact (mutes_keepsGates s _ (by rfl)).trans (keyFollows_keepsGates p _ _)
  · split
    · exact (mutes_keepsGates s _ (by rfl)).trans (acceptEdge_keepsGates p _ false k.talk fun t => talkEdge_keepsGates p t k.talk)
    · exact .refl s

theorem takeKeys_keepsGates (keys : TakenKeys) : KeepsGates s (s.takeKeys keys) := by
  have hpass {one : Pod → KeyLevels → State → State} (h : ∀ p k t, KeepsGates t (one p k t)) (t : State) :
      KeepsGates t (keyPass one keys t) :=
    KeepsGates.foldl (fun t p => by split; exacts [h p _ t, .refl t]) _ t
  exact (hpass (fun p k t => takeAllLevel_keepsGates p t k) s).trans (hpass (fun p k t => takeTalkLevel_keepsGates p t k) _)

/-! ### Links (R42, R74) -/

theorem handOn_keepsGates (c : LinkChange) : KeepsGates s (State.handOn p s c) := by
  have hfault (t : State) : KeepsGates t (t.faultFollows p c) := by
    unfold State.faultFollows
    split
    · exact gainFault_keepsGates p t
    · split
      · exact loseFault_keepsGates p t
      · exact .refl t
  have hkeys (t : State) : KeepsGates t (t.keysFollow p c) := by
    have hrevert : KeepsGates t (if c.before.takes && !c.after.takes then t.revertKeys p else t) := by
      split
      · exact revertKeys_keepsGates p t
      · exact .refl t
    unfold State.keysFollow
    dsimp only
    split
    · exact hrevert.trans (leaveTalkList_keepsGates p _ _)
    · exact hrevert
  exact ((KeepsGates.of_moves (linkEvent_moves p s c) (by decide)).trans (hfault _)).trans (hkeys _)

theorem moveLink_keepsGates (l : Link) (changes : List LinkChange) : KeepsGates s (s.moveLink p l changes) :=
  (KeepsGates.of_same (t := { s with links := Vec.put s.links p l }) rfl rfl).trans
    (KeepsGates.foldl (fun t c => handOn_keepsGates p t c) changes _)

theorem candidateArrives_keepsGates (candidate : List Byte) (ok : Bool) :
    KeepsGates s (s.candidateArrives p candidate ok) := by
  unfold State.candidateArrives
  split
  · exact moveLink_keepsGates p s _ _
  · exact .of_same rfl rfl

theorem linkBoundary_keepsGates : KeepsGates s (s.linkBoundary p) := moveLink_keepsGates p s _ _

theorem linkEventOf_keepsGates (c : LinkCause) : KeepsGates s (s.linkEventOf p c) := by
  unfold State.linkEventOf
  split
  · exact moveLink_keepsGates p s _ _
  · exact .refl s

/-! ### The roster (R75, R99, R182) -/

/-- R82: a priority is no state of the gate. -/
theorem setPriority_keepsGates (n : Nat) : KeepsGates s (s.setPriority p n) := by
  intro hs
  have hstate (q : Pod) : ((s.setPriority p n).gate q).state = (s.gate q).state := by
    simp only [State.gate, State.setPriority, Fin.getElem_fin, Vec.getElem_put]
    split
    · rename_i h
      obtain rfl : p = q := Fin.ext h
      rfl
    · rfl
  exact hs.of_gates rfl rfl hs.2.2.2.1 rfl rfl (fun q => by rw [hstate]) (fun q => by rw [hstate]) fun q _ h => by
    rw [hstate]
    exact h

theorem gateTo_closed_keepsGates : KeepsGates s (s.gateTo p .closed) := fun hs =>
  hs.gateTo (by decide) (fun _ => .inl rfl) fun h => by cases h

theorem gateTo_bypass_keepsGates : KeepsGates s (s.gateTo p .bypass) := fun hs =>
  hs.gateTo (by decide) (fun _ => .inr rfl) fun h => by cases h

theorem podLeaves_keepsGates (wasChair : Bool) : KeepsGates s (s.podLeaves p wasChair) := by
  have hgate (t : State) : KeepsGates t (t.leaveGate p wasChair) := by
    have hclosed : KeepsGates t
        (if (t.gate p).state = .closed then (t.setGateState p .closed 0).dequeueGate p else t.releaseGate p .roster) := by
      split
      · exact gateTo_closed_keepsGates p t
      · exact releaseGate_keepsGates p _ t
    unfold State.leaveGate
    dsimp only
    split
    · exact hclosed.trans (setPriority_keepsGates p _ 0)
    · exact hclosed
  have hreasons (t : State) : KeepsGates t (t.leaveReasons p) := by
    unfold State.leaveReasons
    dsimp only
    split
    · exact setReasons_keepsGates p _ t
    · exact (setReasons_keepsGates p _ t).trans (.of_moves (onGateRamp_moves Ramp.keeping_jump_zero _ p) (by decide))
  have hmutes (link : LinkState) (t : State) : KeepsGates t (t.leaveMutes p link) := by
    unfold State.leaveMutes
    dsimp only
    split
    · exact ((hreasons t).trans (revertKeys_keepsGates p _)).trans (leaveTalkList_keepsGates p _ _)
    · exact (hreasons t).trans (leaveTalkList_keepsGates p _ _)
  exact ((KeepsGates.of_moves (leaveLink_moves p s) (by decide)).trans (hgate _)).trans (hmutes _ _)

theorem becomesChair_keepsGates : KeepsGates s (s.becomesChair p) :=
  ((setPriority_keepsGates p s 3).trans (setChair_keepsGates p _ false)).trans (leaveTalkList_keepsGates p _ _)

theorem becomesDelegate_keepsGates : KeepsGates s (s.becomesDelegate p) := by
  unfold State.becomesDelegate
  split
  · exact setChair_keepsGates p s true
  · exact .refl s

theorem podEnters_keepsGates (isChair : Bool) : KeepsGates s (s.podEnters p isChair) := by
  have hgate (t : State) : KeepsGates t (t.enterGate p) := by
    unfold State.enterGate
    split
    · exact (gateTo_bypass_keepsGates p t).trans (gateEvent_keepsGates _ _ _ _ _)
    · exact .refl t
  have hentered : KeepsGates s ((s.enterLink p).enterGate p) :=
    (KeepsGates.of_moves (enterLink_moves p s) (by decide)).trans (hgate _)
  unfold State.podEnters
  dsimp only
  split
  · exact hentered.trans (becomesChair_keepsGates p _)
  · exact hentered.trans (becomesDelegate_keepsGates p _)

end

theorem takeRoster_keepsGates (new : Roster) (s : State) : KeepsGates s (s.takeRoster new) := by
  have hchange (old : Roster) (t : State) (p : Pod) : KeepsGates t (t.podChange old new p) := by
    unfold State.podChange
    split
    · exact podLeaves_keepsGates p t _
    · exact podEnters_keepsGates p t _
    · split
      · exact becomesChair_keepsGates p t
      · exact (setPriority_keepsGates p t 0).trans (becomesDelegate_keepsGates p _)
      all_goals exact .refl t
    · exact .refl t
  exact (KeepsGates.of_same (t := { s with session := { s.session with roster := new } }) rfl rfl).trans
    (KeepsGates.foldl (hchange _) allPods _)

end Sys2Proof.Machine
end

section
/-! SUPPORT. The automixer's four steps keep the gates sound (R65 to R72). -/

namespace Sys2Proof.Machine

/-! ### The judgement of a gate (R65 to R68) -/

section
variable (q : AutomixParams) (above eligible : Bool) (g : Gate)

theorem judge_waiting_iff : (g.judge q above eligible).1.state = .waiting ↔ g.state = .waiting := by
  unfold Gate.judge
  cases hg : g.state
  case bypass => simp [hg]
  all_goals
    dsimp only
    split <;> simp [hg]

theorem judge_holds : (g.judge q above eligible).1.state.holds = g.state.holds := by
  unfold Gate.judge
  cases hg : g.state
  case bypass => rw [hg]
  all_goals
    dsimp only
    split <;> simp [hg, GateState.holds]

/-- A channel that is not eligible stays shut. -/
theorem judge_of_shut (h : g.state.Shut) : g.judge q above false = (g, .none) := by
  unfold Gate.judge
  rcases h with h | h <;> simp [h]

end

section
variable (s : State) (p : Pod)

theorem judgeGate_waiting_iff : (s.judgeGate p).1.state = .waiting ↔ (s.gate p).state = .waiting := by
  unfold State.judgeGate
  split
  · exact judge_waiting_iff _ _ _ _
  · exact .rfl

theorem judgeGate_holds : (s.judgeGate p).1.state.holds = (s.gate p).state.holds := by
  unfold State.judgeGate
  split
  · exact judge_holds _ _ _ _
  · rfl

theorem judgeGate_of_muted (hm : (s.mutes.reasons[p]).muted = true) (h : (s.gate p).state.Shut) :
    (s.judgeGate p).1 = s.gate p := by
  unfold State.judgeGate
  split
  · rw [State.eligible, hm, Bool.not_true, judge_of_shut _ _ _ h]
  · rfl

/-- The gates judged, all of them or some. -/
theorem GatesSound.judged {t : State} (hs : GatesSound s) (ha : t.automixer = { s.automixer with gates := t.automixer.gates })
    (hr : t.mutes.reasons = s.mutes.reasons) (hg : ∀ p : Pod, t.gate p = (s.judgeGate p).1 ∨ t.gate p = s.gate p) :
    GatesSound t := by
  refine hs.of_gates hr (by rw [ha]) (by rw [ha]; exact hs.2.2.2.1) (by rw [ha]) (by rw [ha]) (fun p => ?_) (fun p => ?_)
    fun p hm h => ?_
  · rcases hg p with e | e <;> rw [e]
    exact judgeGate_waiting_iff s p
  · rcases hg p with e | e <;> rw [e]
    exact judgeGate_holds s p
  · rcases hg p with e | e <;> rw [e]
    · rw [judgeGate_of_muted s p hm h]
      exact h
    · exact h

/-- A request is collected once (R65). -/
theorem collect_keepsGates {l : List Pod} (hl : l.Nodup) : KeepsGates s (s.collect l) := by
  intro hs
  refine hs.of_gates rfl rfl ?_ rfl rfl (fun _ => .rfl) (fun _ => rfl) fun _ _ h => h
  refine hs.2.2.2.1.append (hl.filter _) fun p hp hnew => ?_
  simp [List.mem_filter, hp] at hnew

theorem expire_keepsGates : KeepsGates s (s.expire p) := by
  unfold State.expire
  split
  · exact .refl s
  · exact releaseGate_keepsGates p _ s

end

/-! ### The four steps -/

theorem step1_keepsGates (s : State) : KeepsGates s s.step1 := by
  have hjudged : KeepsGates s s.judgeGates := fun hs =>
    collect_keepsGates _ ((List.nodup_finRange 24).filter _) (hs.judged s rfl rfl fun p => .inl (Vec.getElem_tab _ _ p.2))
  exact (hjudged.trans (KeepsGates.foldl (fun t p => releaseGate_keepsGates p .timeout t) _ _)).trans
    (KeepsGates.foldl expire_keepsGates _ _)

theorem victim_mem {s : State} {v : Pod} (h : s.victim = some v) : v ∈ s.holders :=
  (List.perm_insertionSort _ _).mem_iff.1 (List.mem_of_head? h)

theorem holders_eq_nil_of_victim {s : State} (h : s.victim = none) : s.holders = [] := by
  have hperm : (sortPods s.victimBefore s.holders).Perm s.holders := List.perm_insertionSort _ _
  rw [List.head?_eq_none_iff.1 h] at hperm
  exact hperm.nil_eq.symm

theorem releaseGate_gate (p q : Pod) (c : GateCause) (s : State) :
    (s.releaseGate p c).gate q = if q = p then { s.gate p with state := .closed, count := 0 } else s.gate q := by
  rw [State.gate, releaseGate_automixer]
  exact gateTo_gate p .closed s q

theorem releaseGate_holders (p : Pod) (c : GateCause) (s : State) :
    (s.releaseGate p c).holders = s.holders.filter (· ≠ p) :=
  holders_of_shut (by rw [releaseGate_gate, if_pos rfl]; rfl) fun q hq => by rw [releaseGate_gate, if_neg hq]

/-- A holder's slot is free once its gate has closed. -/
theorem releaseGate_holders_length {p : Pod} {s : State} (h : p ∈ s.holders) (c : GateCause) :
    (s.releaseGate p c).holders.length = s.holders.length - 1 := by
  rw [releaseGate_holders, length_filter_ne (nodup_holders s), if_pos h]

theorem releaseGate_limit (p : Pod) (c : GateCause) (s : State) :
    (s.releaseGate p c).automixer.limit = s.automixer.limit := by
  rw [releaseGate_automixer]
  rfl

theorem GatesInOrder.of_same {s t : State} (hs : GatesInOrder s) (ha : t.automixer = s.automixer)
    (hr : t.mutes.reasons = s.mutes.reasons) : GatesInOrder t := by
  obtain ⟨hmuted, hqueue, hwait, hcoll, hlimit, hpending⟩ := hs
  constructor <;> simp only [State.gate, ha, hr] <;> assumption

theorem GatesInOrder.releaseGate {s : State} (hs : GatesInOrder s) (p : Pod) (c : GateCause) :
    GatesInOrder (s.releaseGate p c) :=
  (hs.gateTo (by decide) fun _ => .inl rfl).of_same (releaseGate_automixer p c s) (by rw [State.releaseGate_mutes]; rfl)

/-- R69: the holders are brought within the limit, where there is fuel enough. -/
theorem evict_sound {fuel : Nat} {s : State} (hs : GatesInOrder s) (hlen : s.holders.length ≤ s.automixer.limit + fuel) :
    GatesSound (State.evict fuel s) := by
  induction fuel generalizing s with
  | zero => exact (gatesSound_iff s).2 ⟨hs, hlen⟩
  | succ fuel ih =>
    unfold State.evict
    split
    · rename_i h
      exact (gatesSound_iff s).2 ⟨hs, h⟩
    · rename_i hover
      cases hv : s.victim with
      | none => exact absurd (by rw [holders_eq_nil_of_victim hv]; exact Nat.zero_le _) hover
      | some v =>
        refine ih (hs.releaseGate v _) ?_
        rw [releaseGate_holders_length (victim_mem hv), releaseGate_limit]
        omega

theorem holders_length_le (s : State) : s.holders.length ≤ 24 := (nodup_holders s).length_le_card

theorem takeLimit_inOrder {s : State} (hs : GatesInOrder s) : GatesInOrder s.takeLimit := by
  unfold State.takeLimit
  split
  · exact hs
  · rename_i l hl
    exact { hs with limit := by simpa [hl] using hs.pending, pending := by simp }

theorem step2_keepsGates (s : State) : KeepsGates s s.step2 := fun hs =>
  evict_sound (takeLimit_inOrder ((gatesSound_iff s).1 hs).1) ((holders_length_le _).trans (Nat.le_add_left _ _))

theorem grantee_mem {s : State} {p : Pod} (h : s.grantee = some p) : p ∈ s.automixer.waitQueue := List.mem_of_find?_eq_some h

/-- R72: a channel that waits is not shut, so it is not muted. -/
theorem GatesSound.not_shut_of_waits {s : State} (hs : GatesSound s) {p : Pod} (h : p ∈ s.automixer.waitQueue) :
    ¬ (s.gate p).state.Shut := by
  rw [(hs.2.2.1 p).1 h]
  rintro (h | h) <;> cases h

theorem grant_keepsGates (fuel : Nat) (s : State) : KeepsGates s (State.grant fuel s).1 := by
  induction fuel generalizing s with
  | zero => exact .refl s
  | succ fuel ih =>
    unfold State.grant
    split
    · exact .refl s
    · rename_i hfree
      split
      · exact .refl s
      · rename_i p hp
        exact fun hs => ih _ (hs.openGate (hs.not_shut_of_waits (grantee_mem hp)) (Nat.lt_of_not_le hfree))

theorem enterWait_automixer (p : Pod) (s : State) :
    (s.enterWait p).automixer = { s.automixer with
      gates := Vec.put s.automixer.gates p { s.gate p with state := .waiting, count := 0 }
      waitQueue := s.automixer.waitQueue ++ [p] } := State.gateEvent_automixer ..

theorem enterWait_gate (p q : Pod) (s : State) :
    (s.enterWait p).gate q = if q = p then { s.gate p with state := .waiting, count := 0 } else s.gate q := by
  simp only [State.gate, enterWait_automixer, Fin.getElem_fin, Vec.getElem_put, Fin.ext_iff, eq_comm]

/-- R70: a PENDING channel goes to the end of the wait queue. -/
theorem GatesSound.enterWait {s : State} (hs : GatesSound s) {p : Pod} (hp : (s.gate p).state = .pending) :
    GatesSound (s.enterWait p) := by
  obtain ⟨hmuted, hqueue, hwait, hcoll, hlen, hrange, hrange'⟩ := hs
  have hnot : p ∉ s.automixer.waitQueue := fun h => by simp [(hwait p).1 h] at hp
  have hholders : (s.enterWait p).holders = s.holders := holders_congr fun q => by
    rw [enterWait_gate]
    split
    · rename_i h
      rw [h, hp]
      rfl
    · rfl
  have hreasons : (s.enterWait p).mutes.reasons = s.mutes.reasons := by rw [State.enterWait, State.gateEvent_mutes]; rfl
  refine ⟨fun q hq => ?_, ?_, fun q => ?_, ?_, ?_, ?_, ?_⟩
  · rw [hreasons] at hq
    have hshut := hmuted q hq
    rw [enterWait_gate, if_neg fun h => by rw [h, hp] at hshut; rcases hshut with h | h <;> cases h]
    exact hshut
  · rw [enterWait_automixer]
    exact List.nodup_append.2 ⟨hqueue, List.nodup_singleton p, fun a ha b hb h => hnot (by simp_all)⟩
  · rw [enterWait_automixer, enterWait_gate]
    by_cases h : q = p
    · simp [h]
    · simp [h, hwait]
  all_goals rw [enterWait_automixer]
  · exact hcoll
  · rw [hholders]
    exact hlen
  · exact hrange
  · exact hrange'

theorem openGate_gate (p q : Pod) (s : State) :
    (s.openGate p).gate q = if q = p then { s.gate p with state := .opened, count := 0 } else s.gate q := by
  rw [State.gate, State.openGate, State.gateEvent_automixer]
  exact gateTo_gate p .opened s q

/-- R70: a request moves the gate of its own channel and, where it preempts, that of a holder. -/
theorem request_gate_other {p q : Pod} {s : State} (h : q ≠ p) (hq : q ∉ s.holders) : (s.request p).1.gate q = s.gate q := by
  unfold State.request
  split
  · rw [openGate_gate, if_neg h]
  · split
    · rw [enterWait_gate, if_neg h]
    · rename_i v hv
      split
      · rw [openGate_gate, if_neg h, releaseGate_gate, if_neg fun e => hq (by rw [e]; exact victim_mem hv)]
      · rw [enterWait_gate, if_neg h]

/-- R70: one request of a PENDING channel. -/
theorem GatesSound.request {s : State} (hs : GatesSound s) {p : Pod} (hp : (s.gate p).state = .pending) :
    GatesSound (s.request p).1 := by
  have hshut : ¬ (s.gate p).state.Shut := by rw [hp]; rintro (h | h) <;> cases h
  unfold State.request
  split
  · rename_i hfree
    exact hs.openGate hshut hfree
  · split
    · exact hs.enterWait hp
    · rename_i v hv
      have hholder := victim_mem hv
      split
      · have hne : p ≠ v := fun h => by
          rw [← h, mem_holders, hp] at hholder
          cases hholder
        have hpos : 0 < s.holders.length := List.length_pos_of_mem hholder
        refine (releaseGate_keepsGates v _ s hs).openGate (by rwa [releaseGate_gate, if_neg hne]) ?_
        rw [releaseGate_holders_length hholder, releaseGate_limit]
        have hlen := hs.2.2.2.2.1
        omega
      · exact hs.enterWait hp

/-- R70: the requests of channels that are PENDING. -/
theorem requests_sound {l : List Pod} {s : State} (hs : GatesSound s) (hl : l.Nodup)
    (hp : ∀ p ∈ l, (s.gate p).state = .pending) : GatesSound (State.requests l s).1 := by
  induction l generalizing s with
  | nil => exact hs
  | cons p rest ih =>
    obtain ⟨hnot, hrest⟩ := List.nodup_cons.1 hl
    refine ih (hs.request (hp p (by simp))) hrest fun q hq => ?_
    have hpending := hp q (List.mem_cons_of_mem p hq)
    rw [request_gate_other (fun h => hnot (by rw [← h]; exact hq)) (by rw [mem_holders, hpending]; decide)]
    exact hpending

theorem step4_keepsGates (s : State) : KeepsGates s s.step4.1 := by
  intro hs
  have hperm := List.perm_insertionSort (fun a b => s.requestBefore a b = true)
    (s.automixer.collected.filter fun p => decide ((s.gate p).state = .pending))
  refine requests_sound (s := { s with automixer := { s.automixer with collected := [] } }) ?_ ?_ fun p hp => ?_
  · exact hs.of_gates rfl rfl List.nodup_nil rfl rfl (fun _ => .rfl) (fun _ => rfl) fun _ _ h => h
  · exact hperm.nodup_iff.2 (hs.2.2.2.1.filter _)
  · exact of_decide_eq_true (List.mem_filter.1 (hperm.mem_iff.1 hp)).2

theorem takeAutomixParams_keepsGates (s : State) : KeepsGates s s.takeAutomixParams := by
  unfold State.takeAutomixParams
  split
  · exact .refl s
  · exact fun hs => hs.of_gates rfl rfl hs.2.2.2.1 rfl rfl (fun _ => .rfl) (fun _ => rfl) fun _ _ h => h

theorem automixerWork_keepsGates (s : State) : KeepsGates s s.automixerWork := by
  have hsteps : KeepsGates s s.takeAutomixParams.step1.step2.step3.1.step4.1 :=
    ((((takeAutomixParams_keepsGates s).trans (step1_keepsGates _)).trans (step2_keepsGates _)).trans
      (grant_keepsGates 24 _)).trans (step4_keepsGates _)
  exact (hsteps.trans (.of_moves (retargetAfter_moves _ s) (by decide))).trans
    (.of_moves (grantsToPlayers_moves _ _) (by decide))

/-! ### The events of a judgement as commands (log entry 8) -/

theorem judgedWith_keepsGates (m : GateMark) {after : State → State} (h : ∀ t, KeepsGates t (after t)) (p : Pod) (s : State) :
    KeepsGates s (s.judgedWith m after p) := by
  unfold State.judgedWith
  split
  · have hjudged : KeepsGates s { s with automixer :=
        { s.automixer with gates := Vec.put s.automixer.gates p (s.judgeGate p).1 } } := fun hs =>
      hs.judged s rfl rfl fun q => by
        simp only [State.gate, Fin.getElem_fin, Vec.getElem_put]
        split
        · rename_i e
          exact .inl (by rw [Fin.ext e])
        · exact .inr rfl
    exact (hjudged.trans (h _)).trans (.of_moves (retargetChanged_moves _ p s) (by decide))
  · exact .refl s

/-! ### SET_AUTOMIX and SET_GATE (R76, R81) -/

/-- R81: the limit taken lies in 1..8. -/
theorem judgeSetAutomix_keepsGates (a b c d : Byte) (e : BitVec 16) (f g h i : Byte) (v u : State) :
    KeepsGates u ((judgeSetAutomix a b c d e f g h i v).effect u) := by
  unfold judgeSetAutomix
  split
  · exact .refl u
  · intro hs
    obtain ⟨horder, hlen⟩ := (gatesSound_iff u).1 hs
    exact (gatesSound_iff _).2 ⟨{ horder with pending := clampNat_mem 1 8 _ (by omega) }, hlen⟩

theorem applyGateMode_keepsGates (p : Pod) (mode : GateMode) (s : State) : KeepsGates s (s.applyGateMode p mode) := by
  have hmode (m : GateMode) : KeepsGates s (s.setGateMode p m) := fun hs => by
    have hstate (q : Pod) : ((s.setGateMode p m).gate q).state = (s.gate q).state := by
      simp only [State.gate, State.setGateMode, Fin.getElem_fin, Vec.getElem_put]
      split
      · rename_i h
        obtain rfl : p = q := Fin.ext h
        rfl
      · rfl
    exact hs.of_gates rfl rfl hs.2.2.2.1 rfl rfl (fun q => by rw [hstate]) (fun q => by rw [hstate]) fun q _ h => by
      rw [hstate]
      exact h
  have hstate (t : State) {st : GateState} (h : st.Shut) : KeepsGates t (t.gateModeState p st) := by
    unfold State.gateModeState
    split
    · exact .refl t
    · rcases h with rfl | rfl
      · exact (gateTo_closed_keepsGates p t).trans (gateEvent_keepsGates _ _ _ _ _)
      · exact (gateTo_bypass_keepsGates p t).trans (gateEvent_keepsGates _ _ _ _ _)
  unfold State.applyGateMode
  split
  · exact .refl s
  · split
    · split
      · exact ((hmode _).trans (hstate _ (.inr rfl))).trans (retargetGate_keepsGates p _)
      · exact (hmode _).trans (retargetGate_keepsGates p _)
    · exact ((hmode _).trans (hstate _ (.inl rfl))).trans (retargetGate_keepsGates p _)

theorem judgeSetGate_keepsGates (a b c : Byte) (v u : State) : KeepsGates u ((judgeSetGate a b c v).effect u) := by
  unfold judgeSetGate
  split
  · split
    · exact (setPriority_keepsGates _ u _).trans (applyGateMode_keepsGates _ _ _)
    · exact .refl u
  · exact .refl u

end Sys2Proof.Machine
end

section
/-! Every step keeps the gates sound: muted channels shut, the wait queue exact, the holders within the limit: O56. -/

namespace Sys2Proof.Machine

/-! ### The mix period boundary -/

theorem work_keepsGates (before : State) (a : Arrivals) (g : Progress) (w : Work) :
    KeepsGates g.state (g.work before a w).state := by
  cases w with
  | take p => exact (linkBoundary_keepsGates p g.state).trans (.of_moves (moves_podInputs _ _) (by decide))
  | keys =>
    rw [work_keys]
    exact (ageKeys_keepsGates g.state).trans (takeKeys_keepsGates _ _)
  | automixer =>
    rw [work_automixer]
    exact automixerWork_keepsGates g.state
  | player n => exact .of_moves (work_moves before a g (.player n)) (by simp [partsOf, playerParts])
  | levelControl => exact .of_moves (work_moves before a g .levelControl) (by decide)
  | session => exact .of_moves (work_moves before a g .session) (by decide)

theorem works_keepGates (before : State) (a : Arrivals) (l : List Work) (g : Progress) :
    KeepsGates g.state (l.foldl (Progress.work before a) g).state := by
  induction l generalizing g with
  | nil => exact .refl _
  | cons w rest ih => exact (work_keepsGates before a g w).trans (ih _)

theorem boundary_keepsGates (order : List Work) (trunks : Vector Frame 4) (s : State) :
    KeepsGates s (s.boundary order trunks) := by
  have hbegun : KeepsGates s s.begun := .of_moves (begun_moves s) (by decide)
  have hworked : KeepsGates s.begun (s.worked order) := works_keepGates s _ _ s.workStart
  have hducked : KeepsGates (s.worked order) ((s.worked order).judgeDucks s) := .of_moves (judgeDucks_moves _ s) (by decide)
  have hplaced : KeepsGates _ (((s.worked order).judgeDucks s).placeTrunks trunks) :=
    hducked.trans (.of_moves (moves_trunkInputs _ _) (by decide))
  have hmeasured : KeepsGates _ (((s.worked order).judgeDucks s).placeTrunks trunks).measureAll :=
    hplaced.trans (.of_moves (moves_detectors _ _) (by decide))
  have hready : KeepsGates (s.worked order) (s.ready order trunks) :=
    (hmeasured.trans (giveLeds_keepsGates _ s)).trans (.of_moves (sendFeeds_moves _) (by decide))
  rw [boundary_eq]
  exact ((hbegun.trans hworked).trans hready).trans (.of_moves (openPeriod_moves _) (by decide))

/-! ### Requests (R193) -/

theorem takeRequest_keepsGates (ty tag : Byte) (n : Nat) {judge : State → Verdict} (s : State)
    (h : ∀ v u, KeepsGates u ((judge v).effect u)) : KeepsGates s (takeRequest ty tag n judge s) := by
  rcases takeRequest_cases ty tag n judge s with ⟨_, e⟩ | ⟨_, e⟩ | ⟨_, e⟩ <;> rw [e]
  · exact .refl s
  · exact .of_same (t := s.hunt.controlError _ _ _ _) rfl rfl
  · exact (KeepsGates.of_same (t := s.hunt.queueAnswer ty tag _ _) rfl rfl).trans (h _ _)

section
variable (v u : State)

theorem judgeSetRoster_keepsGates (pods chairs trunks : List Byte) :
    KeepsGates u ((judgeSetRoster pods chairs trunks v).effect u) := by
  unfold judgeSetRoster
  split
  · exact .refl u
  · split
    · exact takeRoster_keepsGates _ u
    · exact .refl u

theorem judgeSetMute_keepsGates (channel host : Byte) : KeepsGates u ((judgeSetMute channel host v).effect u) := by
  unfold judgeSetMute
  split
  · exact .refl u
  · split
    · exact setHost_keepsGates _ u _
    · exact setTrunkHost_keepsGates u _ _
    · exact .refl u

theorem judgeClearReasons_keepsGates (channel reasons : Byte) :
    KeepsGates u ((judgeClearReasons channel reasons v).effect u) := by
  have hcleared (p : Pod) : KeepsGates u (u.clearReasons p reasons) := by
    unfold State.clearReasons
    dsimp only
    split
    · exact (setReasons_keepsGates p _ u).trans (leaveTalkList_keepsGates p _ _)
    · exact setReasons_keepsGates p _ u
  unfold judgeClearReasons
  split
  · exact .refl u
  · split
    · exact .refl u
    · split
      · exact .refl u
      · exact hcleared _

theorem judgeSetPrivacy_keepsGates (value : Byte) : KeepsGates u ((judgeSetPrivacy value v).effect u) := by
  unfold judgeSetPrivacy
  split
  · exact .refl u
  · exact setPrivacy_keepsGates u _

theorem judgeSetChairMute_keepsGates (value : Byte) : KeepsGates u ((judgeSetChairMute value v).effect u) := by
  unfold judgeSetChairMute
  split
  · exact .refl u
  · exact setChairMute_keepsGates u _

theorem judgeSetKeyMode_keepsGates (channel mode : Byte) : KeepsGates u ((judgeSetKeyMode channel mode v).effect u) := by
  unfold judgeSetKeyMode
  split
  · dsimp only
    unfold State.setKeyMode
    split
    · exact .refl u
    · exact (mutes_keepsGates u _ (by rfl)).trans (keyFollows_keepsGates _ _ _)
  · exact .refl u

end

theorem serve_keepsGates (i : Instr) (s : State) : KeepsGates s (serve i s) := by
  cases i with
  | setRoster => exact takeRequest_keepsGates _ _ _ s fun v u => judgeSetRoster_keepsGates v u _ _ _
  | setAutomix => exact takeRequest_keepsGates _ _ _ s fun v u => judgeSetAutomix_keepsGates _ _ _ _ _ _ _ _ _ v u
  | setGate => exact takeRequest_keepsGates _ _ _ s fun v u => judgeSetGate_keepsGates _ _ _ v u
  | setMute => exact takeRequest_keepsGates _ _ _ s fun v u => judgeSetMute_keepsGates v u _ _
  | clearReasons => exact takeRequest_keepsGates _ _ _ s fun v u => judgeClearReasons_keepsGates v u _ _
  | setPrivacy => exact takeRequest_keepsGates _ _ _ s fun v u => judgeSetPrivacy_keepsGates v u _
  | setChairMute => exact takeRequest_keepsGates _ _ _ s fun v u => judgeSetChairMute_keepsGates v u _
  | setKeyMode => exact takeRequest_keepsGates _ _ _ s fun v u => judgeSetKeyMode_keepsGates v u _ _
  | setKeyGuard => exact takeRequest_keepsGates _ _ _ s fun _ _ => .of_same rfl rfl
  | setMuteRamp => exact takeRequest_keepsGates _ _ _ s fun _ _ => .of_same rfl rfl
  | _ => exact .of_moves (serve_moves _ s) (by simp [requestParts, effectParts, visitParts])

/-! ### Every command -/

/-- R85: at reset every gate is CLOSED, nothing waits, and the limit is 4. -/
theorem blocksReset_gatesSound (store : ClipStore) (r : StartReason) (ph : Phase) (latch : Bool) (l : List Instr) :
    GatesSound (State.blocksReset store r ph latch l) := by
  have hgate (p : Pod) : ((State.blocksReset store r ph latch l).gate p).state = .closed := by
    simp [State.gate, State.blocksReset, Automixer.reset]
  have hholders : (State.blocksReset store r ph latch l).holders = [] :=
    List.filter_eq_nil_iff.2 fun p _ => by rw [hgate]; decide
  refine ⟨fun p _ => .inl (hgate p), List.nodup_nil, fun p => ?_, List.nodup_nil, ?_,
    ⟨by simp [State.blocksReset, Automixer.reset], by simp [State.blocksReset, Automixer.reset]⟩,
    ⟨le_rfl, by simp [State.blocksReset, Automixer.reset]⟩⟩
  · rw [hgate]
    exact iff_of_false List.not_mem_nil (by decide)
  · rw [hholders]
    exact Nat.zero_le _

theorem Does.keepsGates {A : List Part} {s t : State} (h : Does A s t) (hA : .automixer ∉ A ∧ .mutes ∉ A) : KeepsGates s t := by
  cases h with
  | event h => exact .of_moves h hA
  | request i h => exact (KeepsGates.of_moves h (by decide)).trans (serve_keepsGates i _)
  | hardReset latch => exact fun _ => blocksReset_gatesSound _ _ _ _ _
  | softReset => exact fun _ => blocksReset_gatesSound _ _ _ _ _

theorem unlessInReset_keepsGates {f : State → State} (s : State) (h : ∀ u, KeepsGates u (f u)) :
    KeepsGates s (unlessInReset f s) := by
  rcases unlessInReset_cases f s with e | e <;> rw [e]
  · exact h s
  · exact .refl s

theorem ite_keepsGates {c : Prop} [Decidable c] {s t : State} (h : KeepsGates s t) : KeepsGates s (if c then t else s) := by
  split
  · exact h
  · exact .refl s

theorem exec_keepsGates (c : Instr) (s : State) : ∃ t : State, exec c s = .next t ∧ KeepsGates s t := by
  cases c with
  | mixPeriodBoundary order trunks => exact ⟨_, rfl, unlessInReset_keepsGates s (boundary_keepsGates order trunks)⟩
  | micFrameArrival p l ok => exact ⟨_, rfl, unlessInReset_keepsGates s fun u => candidateArrives_keepsGates p u l ok⟩
  | lockCount p f => exact ⟨_, rfl, unlessInReset_keepsGates s fun u => ite_keepsGates (moveLink_keepsGates p u _ _)⟩
  | restart p f => exact ⟨_, rfl, unlessInReset_keepsGates s fun u => ite_keepsGates (moveLink_keepsGates p u _ _)⟩
  | settleDone p =>
    exact ⟨_, rfl, unlessInReset_keepsGates s fun u =>
      ite_keepsGates ((moveLink_keepsGates p u _ _).trans (takeKeys_keepsGates _ _))⟩
  | silence p => exact ⟨_, rfl, unlessInReset_keepsGates s fun u => linkEventOf_keepsGates p u _⟩
  | unlock p => exact ⟨_, rfl, unlessInReset_keepsGates s fun u => linkEventOf_keepsGates p u _⟩
  | openCountReached p =>
    exact ⟨_, rfl, unlessInReset_keepsGates s
      (judgedWith_keepsGates .request (fun t => collect_keepsGates t (List.nodup_singleton p)) p)⟩
  | holdExpiry p =>
    exact ⟨_, rfl, unlessInReset_keepsGates s (judgedWith_keepsGates .expired (fun t => expire_keepsGates t p) p)⟩
  | waitTimeout p =>
    exact ⟨_, rfl, unlessInReset_keepsGates s (judgedWith_keepsGates .timeout (releaseGate_keepsGates p _) p)⟩
  | _ =>
    obtain ⟨t, ht, hdoes⟩ := exec_does _ s
    exact ⟨t, ht, hdoes.keepsGates (by simp only [eventParts]; decide)⟩

/-- Settles O56: the command at the front of the queue keeps the gates sound. -/
theorem stepKeepsTheGates : Obligations.StepKeepsTheGates := by
  intro s t hs h
  unfold step at h
  split at h
  · cases h
    exact hs
  · rename_i c rest _
    obtain ⟨u, hu, hkeeps⟩ := exec_keepsGates c { s with pending := rest }
    rw [hu] at h
    cases h
    exact hkeeps hs

end Sys2Proof.Machine
end

section
/-! OPEN_COUNT_REACHED, HOLD_EXPIRY and WAIT_TIMEOUT (R65 to R68): O34. -/

namespace Sys2Proof.Machine

section
variable (p : Pod) (s : State)

/-- R63. -/
theorem above_iff : s.above p = true ↔
    (s.detectors[podChannel p]).noiseFloor + s.automixer.params.margin ≤ (s.detectors[podChannel p]).smoothed ∧
      s.automixer.params.gateFloor ≤ (s.detectors[podChannel p]).smoothed := by
  simp [State.above]

/-- R64. -/
theorem judgeGate_of_auto (h : (s.gate p).mode = .auto) :
    s.judgeGate p = (s.gate p).judge s.automixer.params (s.above p) (s.eligible p) := by
  rw [State.judgeGate, h]

/-- The state with one gate replaced, as a judgement replaces it. -/
def State.withGate (g : Gate) : State :=
  { s with automixer := { s.automixer with gates := Vec.put s.automixer.gates p g } }

@[simp] theorem withGate_gate (g : Gate) : (s.withGate p g).gate p = g := Vec.getElem_put_self _ _ _

theorem withGate_gate_other {r : Pod} (h : r ≠ p) (g : Gate) : (s.withGate p g).gate r = s.gate r :=
  Vec.getElem_put_ne _ _ _ _ r.2 fun e => h (Fin.ext e).symm

theorem judgedWith_of_judgeGate {m : GateMark} {g : Gate} (h : s.judgeGate p = (g, m)) (after : State → State) :
    s.judgedWith m after p = (after (s.withGate p g)).retargetChanged p s := by
  rw [State.judgedWith, h, if_pos rfl]
  rfl

/-- A gate closed and reported: the channel leaves the wait queue, and a request collected from it is dropped. -/
def State.shutGate (cause : GateCause) : State :=
  ({ s with automixer := { s.automixer with
      gates := Vec.put s.automixer.gates p { s.gate p with state := .closed, count := 0 }
      waitQueue := s.automixer.waitQueue.filter (· ≠ p)
      collected := s.automixer.collected.filter (· ≠ p) } }).post .gate 0xE5
    [podByte p, (s.gate p).state.code, 0, cause.code]

theorem releaseGate_eq_shutGate (cause : GateCause) : s.releaseGate p cause = s.shutGate p cause := by
  rw [State.releaseGate, RosterChange.setGateState_dequeueGate]
  rfl

theorem releaseGate_withGate (cause : GateCause) (n : Nat) :
    (s.withGate p { s.gate p with count := n }).releaseGate p cause = s.shutGate p cause := by
  rw [releaseGate_eq_shutGate, State.shutGate, withGate_gate]
  simp only [State.withGate, Vec.put_put]
  rfl

/-- R78: the ramp of a channel that has closed. -/
theorem shutGate_retargetChanged (cause : GateCause) (h : (s.gate p).state ≠ .closed) :
    (s.shutGate p cause).retargetChanged p s =
      if (s.mutes.reasons[p]).fault then s.shutGate p cause
      else { s.shutGate p cause with ramps := { (s.shutGate p cause).ramps with
        gate := Vec.put s.ramps.gate p
          ((s.ramps.gate[p]).setTarget (lin15 s.automixer.params.offAttenuation) s.automixer.params.release) } } := by
  have hauto := releaseGate_automixer p cause s
  have hgate : ((s.shutGate p cause).gate p).state = .closed := by
    rw [← releaseGate_eq_shutGate, releaseGate_gate, if_pos rfl]
  have hparams : (s.shutGate p cause).automixer.params = s.automixer.params := by
    rw [← releaseGate_eq_shutGate, hauto]
    rfl
  have hmutes : (s.shutGate p cause).mutes = s.mutes := by
    rw [← releaseGate_eq_shutGate, State.releaseGate_mutes]
  have hramps : (s.shutGate p cause).ramps = s.ramps := by
    rw [← releaseGate_eq_shutGate, State.releaseGate_ramps]
  have hcalled : Ramp.calledFor s.automixer.params ((s.shutGate p cause).automixer.gates[p]).state =
      fun r => r.setTarget (lin15 s.automixer.params.offAttenuation) s.automixer.params.release := by
    rw [show ((s.shutGate p cause).automixer.gates[p]).state = _ from hgate]
    rfl
  rw [State.retargetChanged, hgate, if_pos h, State.retargetGate_eq, hmutes, hparams, hcalled, State.onGateRamp, hramps]

/-- A judgement that ends with the gate closed. -/
theorem judgedWith_closing {m : GateMark} {n : Nat} (after : State → State) (cause : GateCause)
    (hj : s.judgeGate p = ({ s.gate p with count := n }, m)) (hstate : (s.gate p).state ≠ .closed)
    (hafter : after (s.withGate p { s.gate p with count := n }) =
      (s.withGate p { s.gate p with count := n }).releaseGate p cause) :
    s.judgedWith m after p =
      if (s.mutes.reasons[p]).fault then s.shutGate p cause
      else { s.shutGate p cause with ramps := { (s.shutGate p cause).ramps with
        gate := Vec.put s.ramps.gate p
          ((s.ramps.gate[p]).setTarget (lin15 s.automixer.params.offAttenuation) s.automixer.params.release) } } := by
  rw [judgedWith_of_judgeGate p s hj, hafter, releaseGate_withGate, shutGate_retargetChanged _ _ _ hstate]

/-- A judgement of a gate that keeps its state sets no target. -/
theorem retargetChanged_of_state {t : State} (h : (t.gate p).state = (s.gate p).state) : t.retargetChanged p s = t :=
  if_neg fun hne => hne h.symm

theorem collect_gate (l : List Pod) (r : Pod) : (s.collect l).gate r = s.gate r := rfl

theorem collect_singleton_of_not_mem (h : p ∉ s.automixer.collected) :
    s.collect [p] = { s with automixer := { s.automixer with collected := s.automixer.collected ++ [p] } } := by
  simp [State.collect, h]

theorem withGate_holders {g : Gate} (h : g.state.holds = (s.gate p).state.holds) : (s.withGate p g).holders = s.holders :=
  holders_congr fun q => by
    by_cases hq : q = p
    · rw [hq, withGate_gate, h]
    · rw [withGate_gate_other p s hq]

theorem withGate_lastMicKeeps {g : Gate} (h : g.state.holds = (s.gate p).state.holds) :
    (s.withGate p g).lastMicKeeps p = s.lastMicKeeps p := by
  rw [State.lastMicKeeps, withGate_holders p s h]
  rfl

/-- R67: an expiry that the last-mic hold does not keep. -/
theorem expire_of_not_kept (h : s.lastMicKeeps p = false) : s.expire p = s.releaseGate p .released := by
  rw [State.expire, h]
  rfl

theorem expire_of_kept (h : s.lastMicKeeps p = true) : s.expire p = s :=
  if_pos h

end

/-! ### The judgements by state -/

section
variable (q : AutomixParams) (eligible : Bool) {g : Gate}

theorem judge_pending_request (hg : g.state = .pending) (hcount : q.openCount ≤ g.count + 1) :
    g.judge q true eligible = ({ g with count := g.count + 1 }, .request) := by
  simp [Gate.judge, hg, hcount]

theorem judge_closed_request (hg : g.state = .closed) (hcount : q.openCount ≤ 1) :
    g.judge q true true = ({ g with state := .pending, count := 1 }, .request) := by
  simp [Gate.judge, hg, hcount]

theorem judge_waiting_timeout (hg : g.state = .waiting) (hcount : q.holdFrames ≤ g.count + 1) :
    g.judge q false eligible = ({ g with count := g.count + 1 }, .timeout) := by
  simp [Gate.judge, hg, hcount]

theorem judge_hold_expired (hg : g.state = .hold) (hcount : q.holdFrames ≤ g.count + 1) :
    g.judge q false eligible = ({ g with count := nextHoldCount q.holdFrames g.count }, .expired) := by
  have hnext : q.holdFrames ≤ nextHoldCount q.holdFrames g.count := by
    unfold nextHoldCount
    split <;> omega
  simp [Gate.judge, hg, hnext]

end

/-! ### As commands of their own -/

section
variable {p : Pod} {s : State} (hout : s.outOfReset)
include hout

theorem exec_openCountReached :
    exec (.openCountReached p) s = .next (s.judgedWith .request (fun t => t.collect [p]) p) :=
  congrArg Host.Outcome.next (unlessInReset_of_outOfReset hout)

theorem exec_holdExpiry : exec (.holdExpiry p) s = .next (s.judgedWith .expired (fun t => t.expire p) p) :=
  congrArg Host.Outcome.next (unlessInReset_of_outOfReset hout)

theorem exec_waitTimeout : exec (.waitTimeout p) s = .next (s.judgedWith .timeout (fun t => t.timeOut p) p) :=
  congrArg Host.Outcome.next (unlessInReset_of_outOfReset hout)

end

/-- Settles O34. -/
theorem gateEventsOfAJudgement : Obligations.GateEventsOfAJudgement := by
  intro p s hout hmode
  have hjudge := judgeGate_of_auto p s hmode
  refine ⟨fun hg habove hcount hnew => ?_, fun hg habove hmuted hcount hnew => ?_,
    fun hg hbelow hcount hloose => ?_, fun hg hbelow hcount hone hkeep hwait => ?_, fun hg hbelow hcount => ?_⟩
  · rw [(above_iff p s).2 habove, judge_pending_request _ _ hg hcount] at hjudge
    rw [exec_openCountReached hout, judgedWith_of_judgeGate p s hjudge,
      retargetChanged_of_state p s (by rw [collect_gate, withGate_gate]), collect_singleton_of_not_mem p (s.withGate p _) hnew]
    rfl
  · have hopen : s.eligible p = true := by rw [State.eligible, hmuted]; rfl
    rw [(above_iff p s).2 habove, hopen, judge_closed_request _ hg hcount] at hjudge
    let u := (s.withGate p { s.gate p with state := .pending, count := 1 }).collect [p]
    have hu : exec (.openCountReached p) s = .next (u.retargetGate p) := by
      rw [exec_openCountReached hout, judgedWith_of_judgeGate p s hjudge, State.retargetChanged, if_pos]
      rw [hg]
      exact fun e => by simpa using e.trans (congrArg Gate.state (withGate_gate p s _))
    have hauto : (u.retargetGate p).automixer = u.automixer := State.retargetGate_automixer p u
    refine ⟨_, hu, ?_, ?_, fun r hr => ?_, State.retargetGate_mutes p u, State.retargetGate_links p u⟩
    · rw [State.gate, hauto]
      exact withGate_gate p s _
    · rw [hauto, show u.automixer.collected = _ from
        congrArg (fun t : State => t.automixer.collected) (collect_singleton_of_not_mem p _ hnew)]
      simp
    · rw [State.gate, hauto]
      exact withGate_gate_other p s hr _
  · rw [(Bool.not_eq_true _).mp (mt (above_iff p s).1 hbelow), judge_hold_expired _ _ hg hcount] at hjudge
    rw [exec_holdExpiry hout, judgedWith_closing p s _ .released hjudge (by rw [hg]; decide)]
    · rfl
    · refine expire_of_not_kept p _ ?_
      rw [withGate_lastMicKeeps p s (by rfl)]
      rcases hloose with h | h | h <;> simp [State.lastMicKeeps, h]
  · rw [(Bool.not_eq_true _).mp (mt (above_iff p s).1 hbelow), judge_hold_expired _ _ hg hcount] at hjudge
    rw [exec_holdExpiry hout, judgedWith_of_judgeGate p s hjudge, expire_of_kept,
      retargetChanged_of_state p s (by rw [withGate_gate])]
    · rfl
    · rw [withGate_lastMicKeeps p s (by rfl)]
      simp [State.lastMicKeeps, hone, hkeep, hwait]
  · rw [(Bool.not_eq_true _).mp (mt (above_iff p s).1 hbelow), judge_waiting_timeout _ _ hg hcount] at hjudge
    rw [exec_waitTimeout hout, judgedWith_closing p s _ .timeout hjudge (by rw [hg]; decide)]
    · rfl
    · rfl

end Sys2Proof.Machine
end

section
/-! SET_AUTOMIX and SET_GATE (R76, R81): O35. -/

namespace Sys2Proof.Machine

/-! ### SET_AUTOMIX (R81) -/

theorem exec_setAutomix {tag limit margin gateFloor openCount attack release offAtt last : Byte} {holdFrames : BitVec 16}
    {s : State} {v : Verdict} (h : s.takes)
    (hv : judgeSetAutomix limit margin gateFloor openCount holdFrames attack release offAtt last s.hunt = v) :
    exec (.setAutomix tag limit margin gateFloor openCount holdFrames attack release offAtt last) s =
      .next (v.effect (s.answered 0x98 tag (v.status.code :: v.fields))) :=
  congrArg Host.Outcome.next (takeRequest_verdict h hv)

/-- R81, R195: the values taken are those asked where each is in its range. -/
theorem automixAsked_clamp_eq_iff (limit margin gateFloor openCount : Byte) (holdFrames : BitVec 16)
    (attack release offAtt : Byte) (last : Bool) :
    let asked := automixAsked limit margin gateFloor openCount holdFrames attack release offAtt last
    let q := asked.clamp.params
    asked.clamp = asked ↔
      asked.clamp.limit = limit.toNat ∧ q.margin = margin.toNat ∧ q.gateFloor = gateFloor.toInt ∧
        q.openCount = openCount.toNat ∧ q.holdFrames = holdFrames.toNat ∧ q.attack = attack.toNat ∧
        q.release = release.toNat ∧ q.offAttenuation = offAtt.toInt := by
  simp [AutomixValues.clamp, automixAsked]

/-! ### SET_GATE (R76) -/

section
variable {tag channel mode priority : Byte} {s : State}

theorem exec_setGate {v : Verdict} (h : s.takes) (hv : judgeSetGate channel mode priority s.hunt = v) :
    exec (.setGate tag channel mode priority) s = .next (v.effect (s.answered 0x99 tag (v.status.code :: v.fields))) :=
  congrArg Host.Outcome.next (takeRequest_verdict h hv)

theorem gateModeOf_eq_none {b : Byte} (h : 1 < b.toNat) : gateModeOf b = none := by
  rw [gateModeOf, if_neg (by rintro rfl; simp at h), if_neg (by rintro rfl; simp at h)]

@[simp] theorem gateModeOf_code (m : GateMode) : gateModeOf m.code = some m := by cases m <;> rfl

theorem judgeSetGate_of_bad (h : channel.toNat = 0 ∨ 24 < channel.toNat ∨ 1 < mode.toNat ∨ 3 < priority.toNat) :
    judgeSetGate channel mode priority s = .refuse .badValue := by
  unfold judgeSetGate
  rcases h with h | h | h | h
  · rw [podOf_eq_none (.inl h)]
  · rw [podOf_eq_none (.inr h)]
  · rw [gateModeOf_eq_none h]
    cases podOf channel <;> rfl
  · simp only [if_neg (Nat.not_le.2 h)]
    cases podOf channel <;> cases gateModeOf mode <;> rfl

theorem judgeSetGate_of_good (p : Pod) (m : GateMode) (h : priority.toNat ≤ 3) :
    judgeSetGate (podByte p) m.code priority s =
      { status := .ok, fields := [m.code, priority],
        effect := fun s => (s.setPriority p priority.toNat).applyGateMode p m } := by
  simp [judgeSetGate, h]

end

section
variable (p : Pod) (s : State)

theorem withGate_withGate (g g' : Gate) : (s.withGate p g).withGate p g' = s.withGate p g' := by
  simp only [State.withGate, Vec.put_put]

theorem setGateMode_eq (m : GateMode) : s.setGateMode p m = s.withGate p { s.gate p with mode := m } := rfl

theorem setGateMode_withGate (g : Gate) (m : GateMode) :
    (s.withGate p g).setGateMode p m = s.withGate p { g with mode := m } := by
  rw [setGateMode_eq, withGate_gate, withGate_withGate]

/-- R76, R84: a gate that SET_GATE moves to another state. -/
theorem gateModeState_withGate {g : Gate} {st : GateState} (h : g.state ≠ st) :
    (s.withGate p g).gateModeState p st =
      ({ s with automixer := { s.automixer with
          gates := Vec.put s.automixer.gates p { g with state := st, count := 0 }
          waitQueue := s.automixer.waitQueue.filter (· ≠ p)
          collected := s.automixer.collected.filter (· ≠ p) } }).post .gate 0xE5
        [podByte p, g.state.code, st.code, 7] := by
  rw [State.gateModeState, withGate_gate, if_neg h, RosterChange.setGateState_dequeueGate, RosterChange.gateSet, withGate_gate]
  simp only [State.withGate, Vec.put_put]
  rfl

theorem gateModeState_of_state {st : GateState} (h : (s.gate p).state = st) : s.gateModeState p st = s := if_pos h

/-- R78: the target set, in a state with the mutes, the ramps and the parameters of `s`. -/
theorem retargetGate_like {t : State} {f : Ramp → Ramp} (hmutes : t.mutes = s.mutes) (hramps : t.ramps = s.ramps)
    (hf : Ramp.calledFor t.automixer.params (t.gate p).state = f) :
    t.retargetGate p = if (s.mutes.reasons[p]).fault then t
      else { t with ramps := { t.ramps with gate := Vec.put s.ramps.gate p (f s.ramps.gate[p]) } } := by
  rw [State.retargetGate_eq, State.onGateRamp, show Ramp.calledFor t.automixer.params t.automixer.gates[p].state = f from hf,
    ← hmutes, ← hramps]

/-- A gate moved by SET_GATE, whose ramp follows. -/
theorem retargetGate_gateModeState {g : Gate} {st : GateState} (h : g.state ≠ st) :
    ((s.withGate p g).gateModeState p st).retargetGate p =
      let t := ({ s with automixer := { s.automixer with
          gates := Vec.put s.automixer.gates p { g with state := st, count := 0 }
          waitQueue := s.automixer.waitQueue.filter (· ≠ p)
          collected := s.automixer.collected.filter (· ≠ p) } }).post .gate 0xE5
        [podByte p, g.state.code, st.code, 7]
      if (s.mutes.reasons[p]).fault then t
      else { t with ramps := { t.ramps with
        gate := Vec.put s.ramps.gate p ((s.ramps.gate[p]).calledFor s.automixer.params st) } } := by
  rw [gateModeState_withGate p s h]
  refine retargetGate_like p s (f := Ramp.calledFor s.automixer.params st) (State.post_mutes ..) (State.post_ramps ..) ?_
  rw [State.gate, State.post_automixer]
  dsimp only
  rw [Fin.getElem_fin, Vec.getElem_put_self]

theorem retargetGate_withGate (g : Gate) :
    (s.withGate p g).retargetGate p = if (s.mutes.reasons[p]).fault then s.withGate p g
      else { s.withGate p g with ramps := { s.ramps with
        gate := Vec.put s.ramps.gate p ((s.ramps.gate[p]).calledFor s.automixer.params g.state) } } :=
  retargetGate_like p s (f := Ramp.calledFor s.automixer.params g.state) rfl rfl (by rw [withGate_gate]; rfl)

theorem applyGateMode_of_same {m : GateMode} (h : (s.gate p).mode = m) : s.applyGateMode p m = s := if_pos h

theorem applyGateMode_bypass_in_roster {g : Gate} (h : g.mode = .auto) (hin : s.session.roster.pods[p] = true) :
    (s.withGate p g).applyGateMode p .bypass =
      ((s.withGate p { g with mode := .bypass }).gateModeState p .bypass).retargetGate p := by
  rw [State.applyGateMode, withGate_gate, h, if_neg (by decide)]
  simp only [setGateMode_withGate]
  exact if_pos hin

theorem applyGateMode_bypass_out_of_roster {g : Gate} (h : g.mode = .auto) (hout : s.session.roster.pods[p] = false) :
    (s.withGate p g).applyGateMode p .bypass = (s.withGate p { g with mode := .bypass }).retargetGate p := by
  rw [State.applyGateMode, withGate_gate, h, if_neg (by decide)]
  simp only [setGateMode_withGate]
  exact if_neg (fun hin => by rw [show s.session.roster.pods[p] = true from hin] at hout; cases hout)

theorem applyGateMode_auto {g : Gate} (h : g.mode = .bypass) :
    (s.withGate p g).applyGateMode p .auto =
      ((s.withGate p { g with mode := .auto }).gateModeState p .closed).retargetGate p := by
  rw [State.applyGateMode, withGate_gate, h, if_neg (by decide)]
  simp only [setGateMode_withGate]

end

/-- Settles O35: each request by its verdict, and a change of mode by the gate that it moves. -/
theorem automixerSettings : Obligations.AutomixerSettings := by
  refine ⟨⟨fun tag limit margin gateFloor openCount holdFrames attack release offAtt last s hs => ?_,
    fun tag limit margin gateFloor openCount holdFrames attack release offAtt last s hs hbad => ?_⟩,
    fun tag channel mode priority s hs hbad => ?_, fun tag priority p mode s hs hpriority => ?_⟩
  · intro l q status
    let asked := automixAsked limit margin gateFloor openCount holdFrames attack release offAtt last
    have hstatus : (okOr (decide (asked.clamp ≠ asked))).code = status := by
      have hiff := automixAsked_clamp_eq_iff limit margin gateFloor openCount holdFrames attack release offAtt last
      by_cases h : asked.clamp = asked
      · rw [show status = 0 from if_pos (hiff.1 h), h]
        simp [okOr, Status.code]
      · rw [show status = 1 from if_neg fun h' => h (hiff.2 h'), decide_eq_true h]
        rfl
    have hverdict : judgeSetAutomix limit margin gateFloor openCount holdFrames attack release offAtt (bit8 last) s.hunt =
        { status := okOr (decide (asked.clamp ≠ asked)), fields := asked.clamp.bytes,
          effect := State.takeAutomixValues asked.clamp } := by
      rw [judgeSetAutomix, onOff_bit8]
    rw [exec_setAutomix hs hverdict, hstatus]
    rfl
  · refine exec_setAutomix hs (v := .refuse .badValue) ?_
    rw [judgeSetAutomix, onOff_eq_none hbad]
  · exact exec_setGate hs (judgeSetGate_of_bad hbad)
  · intro g u gates moved onRamp opens closes
    have hexec : exec (.setGate tag (podByte p) mode.code priority) s =
        .next ((u.withGate p { g with priority := priority.toNat }).applyGateMode p mode) :=
      exec_setGate hs (judgeSetGate_of_good p mode hpriority)
    rw [hexec]
    refine ⟨fun hmode => ?_, fun hmode hnew hin hstate => ?_, fun hmode hnew hout hstate => ?_,
      fun hmode hnew hstate => ?_, fun hmode hnew hstate => ?_⟩
    · subst hmode
      rw [applyGateMode_of_same p _ (by rw [withGate_gate])]
      rfl
    · subst hnew
      rw [applyGateMode_bypass_in_roster p u (g := { g with priority := priority.toNat }) hmode hin,
        retargetGate_gateModeState p u (by exact hstate)]
      rfl
    · subst hnew
      rw [applyGateMode_bypass_out_of_roster p u (g := { g with priority := priority.toNat }) hmode hout, retargetGate_withGate, hstate]
      rfl
    · subst hnew
      rw [applyGateMode_auto p u (g := { g with priority := priority.toNat }) hmode,
        gateModeState_of_state p _ (by rw [withGate_gate]; exact hstate), retargetGate_withGate,
        hstate]
      rfl
    · subst hnew
      rw [applyGateMode_auto p u (g := { g with priority := priority.toNat }) hmode,
        retargetGate_gateModeState p u (by rw [hstate]; decide)]
      rfl

end Sys2Proof.Machine
end

section
/-! SET_MUTE, CLEAR_REASONS and the change of a reason set (R73, R87, R102, R103): O36. -/

namespace Sys2Proof.Machine

/-! ### A reason set that mutes a channel with an active gate (R73) -/

section
variable {p : Pod} {r : Reasons} {s : State}

theorem setReasons_closing (hb : (s.mutes.reasons[p]).muted = false) (hr : r.muted = true)
    (hg : ¬ (s.gate p).state.Shut) :
    s.setReasons p r = if r.fault then (s.withReasons p r).shutGate p .muted
      else { (s.withReasons p r).shutGate p .muted with
        ramps := { ((s.withReasons p r).shutGate p .muted).ramps with
          gate := Vec.put s.ramps.gate p
            ((s.ramps.gate[p]).setTarget (lin15 s.automixer.params.offAttenuation) s.automixer.params.release) } } := by
  have hclosed : Ramp.calledFor ((s.withReasons p r).shutGate p .muted).automixer.params
      (((s.withReasons p r).shutGate p .muted).gate p).state =
      fun x => x.setTarget (lin15 s.automixer.params.offAttenuation) s.automixer.params.release := by
    rw [← releaseGate_eq_shutGate, releaseGate_gate, if_pos rfl, releaseGate_automixer]
    rfl
  have hmutes : ((s.withReasons p r).shutGate p .muted).mutes = (s.withReasons p r).mutes := State.post_mutes ..
  have hramps : ((s.withReasons p r).shutGate p .muted).ramps = (s.withReasons p r).ramps := State.post_ramps ..
  rw [setReasons_eq, if_pos ⟨hb, hr⟩, closeForMute_of_active (s := s.withReasons p r) hg, releaseGate_eq_shutGate,
    retargetGate_like p (s.withReasons p r) hmutes hramps hclosed, withReasons_reasons_self]
  rfl

/-- R87: the ramp of a channel that becomes muted, or ceases to be. -/
theorem withReasons_of_change (h : (s.mutes.reasons[p]).muted = !r.muted) :
    s.withReasons p r = { s with
      mutes := { s.mutes with reasons := Vec.put s.mutes.reasons p r }
      ramps := { s.ramps with
        localMute := Vec.put s.ramps.localMute p
          ((s.ramps.localMute[p]).setTarget (if r.muted then 0 else 32768) s.mutes.rampLength) } } := by
  rw [State.withReasons, Ramp.muteChange, if_neg (by rw [h]; cases r.muted <;> decide)]

end

/-! ### SET_MUTE (R102) -/

section
variable {tag channel value : Byte} {s : State} {v : Verdict}

theorem exec_setMute (h : s.takes) (hv : judgeSetMute channel value s.hunt = v) :
    exec (.setMute tag channel value) s = .next (v.effect (s.answered 0xA0 tag (v.status.code :: v.fields))) :=
  congrArg Host.Outcome.next (takeRequest_verdict h hv)

theorem exec_clearReasons (h : s.takes) (hv : judgeClearReasons channel value s.hunt = v) :
    exec (.clearReasons tag channel value) s = .next (v.effect (s.answered 0xA1 tag (v.status.code :: v.fields))) :=
  congrArg Host.Outcome.next (takeRequest_verdict h hv)

end

theorem judgeSetMute_pod (p : Pod) (on : Bool) (s : State) :
    judgeSetMute (podByte p) (bit8 on) s =
      { status := .ok, fields := [(Reasons.byte { s.mutes.reasons[p] with host := on })], effect := State.setHost p on } := by
  rw [judgeSetMute, onOff_bit8, podOf_podByte]

theorem judgeSetMute_trunk (k : Trunk) (on : Bool) (s : State) :
    judgeSetMute (trunkByte k) (bit8 on) s =
      { status := .ok, fields := [if on then 2 else 0], effect := State.setTrunkHost k on } := by
  rw [judgeSetMute, onOff_bit8, podOf_trunkByte, trunkOf_trunkByte]
  cases on <;> rfl

theorem judgeSetMute_of_bad {channel value : Byte} (s : State)
    (h : channel.toNat = 0 ∨ 28 < channel.toNat ∨ 1 < value.toNat) : judgeSetMute channel value s = .refuse .badValue := by
  have hchannel (h : channel.toNat = 0 ∨ 28 < channel.toNat) : judgeSetMute channel value s = .refuse .badValue := by
    rw [judgeSetMute, podOf_eq_none (by omega), trunkOf_eq_none (by omega)]
    cases onOff value <;> rfl
  rcases h with h | h | h
  · exact hchannel (.inl h)
  · exact hchannel (.inr h)
  · rw [judgeSetMute, onOff_eq_none h]

/-! ### CLEAR_REASONS (R103) -/

/-- The byte that names KEY, CHAIR or both. -/
def clearedByte (key chair : Bool) : Byte := (if key then 1 else 0) + if chair then 4 else 0

theorem clearedByte_key (key chair : Bool) : (clearedByte key chair).getLsbD 0 = key := by revert key chair; decide

theorem clearedByte_chair (key chair : Bool) : (clearedByte key chair).getLsbD 2 = chair := by revert key chair; decide

theorem clearable_clearedByte {key chair : Bool} (h : key = true ∨ chair = true) :
    clearable (clearedByte key chair) = true := by
  revert key chair
  decide

theorem clearable_of_bad {b : Byte} (h : b ≠ 1 ∧ b ≠ 4 ∧ b ≠ 5) : clearable b = false := by
  rw [clearable, decide_eq_false_iff_not, not_or, not_or]
  exact h

section
variable {b : Byte} {p : Pod} {s : State}

theorem judgeClearReasons_of_bad {channel : Byte}
    (h : channel.toNat = 0 ∨ 24 < channel.toNat ∨ (b ≠ 1 ∧ b ≠ 4 ∧ b ≠ 5)) :
    judgeClearReasons channel b s = .refuse .badValue := by
  unfold judgeClearReasons
  rcases h with h | h | h
  · rw [podOf_eq_none (.inl h)]
  · rw [podOf_eq_none (.inr h)]
  · rw [clearable_of_bad h]
    cases podOf channel <;> rfl

theorem judgeClearReasons_of_mode (hb : b = 1 ∨ b = 5) (hmode : s.mutes.keyMode[p] ≠ .toggle) :
    judgeClearReasons (podByte p) b s = .refuse .wrongState := by
  have hclear : clearable b = true := by
    rcases hb with rfl | rfl
    · exact clearable_clearedByte (key := true) (chair := false) (.inl rfl)
    · exact clearable_clearedByte (key := true) (chair := true) (.inl rfl)
  have hkey : b.getLsbD 0 = true := by rcases hb with rfl | rfl <;> decide
  simp only [judgeClearReasons, podOf_podByte, hclear, hkey, decide_eq_true hmode]
  rfl

theorem judgeClearReasons_of_good {key chair : Bool} (hsome : key = true ∨ chair = true)
    (hmode : key = false ∨ s.mutes.keyMode[p] = .toggle) :
    judgeClearReasons (podByte p) (clearedByte key chair) s =
      { status := .ok, fields := [((s.mutes.reasons[p]).without (clearedByte key chair)).byte],
        effect := State.clearReasons p (clearedByte key chair) } := by
  have hfree : ((clearedByte key chair).getLsbD 0 && decide (s.mutes.keyMode[p] ≠ .toggle)) = false := by
    rw [clearedByte_key]
    rcases hmode with h | h <;> simp only [h, Bool.false_and, ne_eq, not_true_eq_false, decide_false, Bool.and_false]
  simp only [judgeClearReasons, podOf_podByte, clearable_clearedByte hsome, hfree]
  rfl

theorem without_clearedByte (key chair : Bool) (r : Reasons) :
    r.without (clearedByte key chair) = { r with key := r.key && !key, chair := r.chair && !chair } := by
  rw [Reasons.without, clearedByte_key, clearedByte_chair]

/-- R101: a channel of the talk-request list that is admitted. -/
theorem leaveTalkList_admitted : s.leaveTalkList p .admitted =
    if p ∈ s.mutes.talkList then
      { s with mutes := { s.mutes with talkList := s.mutes.talkList.filter (· ≠ p) } }.post .key 0xE4
        [3, podByte p, u8 (s.mutes.talkList.filter (· ≠ p)).length]
    else s := by
  rw [State.leaveTalkList]
  split
  · rw [filter_bne]
    rfl
  · rfl

theorem clearReasons_eq (key chair : Bool) :
    s.clearReasons p (clearedByte key chair) =
      let u := s.setReasons p
        { s.mutes.reasons[p] with key := (s.mutes.reasons[p]).key && !key, chair := (s.mutes.reasons[p]).chair && !chair }
      let left := s.mutes.talkList.filter (· ≠ p)
      if chair = true ∧ p ∈ s.mutes.talkList then
        { u with mutes := { u.mutes with talkList := left } }.post .key 0xE4 [3, podByte p, u8 left.length]
      else u := by
  rw [State.clearReasons, without_clearedByte, clearedByte_chair, leaveTalkList_admitted]
  simp only [setReasons_mutes]
  cases chair
  · simp
  · simp only [if_true, true_and]

end

/-- Settles O36: each request by its verdict, and a changed reason set by the case of the channel's gate. -/
theorem setMuteAndClearReasons : Obligations.SetMuteAndClearReasons := by
  refine ⟨⟨fun tag p host s hs => ?_, fun tag k host s hs => ?_, fun tag channel host s hs hbad => ?_, fun p r s => ?_⟩,
    fun tag channel reasons s hs hbad => ?_, fun tag reasons p s hs hkey hmode => ?_,
    fun tag p key chair s hs hsome hmode => ?_⟩
  · exact exec_setMute hs (judgeSetMute_pod p host s.hunt)
  · exact (exec_setMute hs (judgeSetMute_trunk k host s.hunt))
  · exact exec_setMute hs (judgeSetMute_of_bad s.hunt hbad)
  · intro before u onMuteRamp
    refine ⟨fun hsame => setReasons_of_same hsame, fun hwas hnow => setReasons_of_cleared hwas hnow,
      fun hwas hnow hshut => ?_, fun hwas hnow hclosed hbypass => ?_⟩
    · rw [setReasons_of_shut fun _ _ => hshut, withReasons_of_change (hwas.trans (by rw [hnow]; rfl)), hnow]
      rfl
    · intro closed faded
      rw [setReasons_closing hwas hnow (fun h => h.elim hclosed hbypass),
        withReasons_of_change (hwas.trans (by rw [hnow]; rfl)), hnow]
      rfl
  · exact exec_clearReasons hs (judgeClearReasons_of_bad hbad)
  · exact exec_clearReasons hs (judgeClearReasons_of_mode hkey hmode)
  · intro old r u left
    refine (exec_clearReasons (tag := tag) hs (judgeClearReasons_of_good (s := s.hunt) hsome hmode)).trans ?_
    rw [without_clearedByte]
    exact congrArg Host.Outcome.next (clearReasons_eq key chair)

end Sys2Proof.Machine
end

section
/-! SUPPORT. The reason sets of all pods written in one pass, in ascending order (R73, R87, R97, R98). -/

namespace Sys2Proof.Machine

namespace ReasonPass

/-- R73: whether a reason set closes the gate of its pod. -/
def closes (s : State) (p : Pod) (r : Reasons) : Bool :=
  !(s.mutes.reasons[p]).muted && r.muted && decide ((s.gate p).state ≠ .closed ∧ (s.gate p).state ≠ .bypass)

/-- The gate that a reason set leaves. -/
def gate (s : State) (p : Pod) (r : Reasons) : Gate :=
  if closes s p r then { s.gate p with state := .closed, count := 0 } else s.gate p

/-- The gate ramp that a reason set leaves. -/
def gateRamp (s : State) (p : Pod) (r : Reasons) : Ramp :=
  if closes s p r then (s.ramps.gate[p]).setTarget (lin15 s.automixer.params.offAttenuation) s.automixer.params.release
  else s.ramps.gate[p]

/-- R84: the report of a gate closed by a mute. -/
def report (s : State) (p : Pod) : Report := (.gate, 0xE5, [podByte p, (s.gate p).state.code, 0, 6])

theorem closes_iff (s : State) (p : Pod) (r : Reasons) :
    closes s p r = true ↔ (s.mutes.reasons[p]).muted = false ∧ r.muted = true ∧ ¬ (s.gate p).state.Shut := by
  simp [closes, and_assoc]

/-- A change of a reason set, the gate that it closes being given its ramp. -/
theorem setReasons_eq_gate {p : Pod} {r : Reasons} {s : State} (hfault : closes s p r = true → r.fault = false) :
    s.setReasons p r = { s with
      mutes := { s.mutes with reasons := Vec.put s.mutes.reasons p r }
      automixer := { s.automixer with
        gates := Vec.put s.automixer.gates p (gate s p r)
        waitQueue := if !closes s p r then s.automixer.waitQueue else s.automixer.waitQueue.filter (· ≠ p)
        collected := if !closes s p r then s.automixer.collected else s.automixer.collected.filter (· ≠ p) }
      ramps := { s.ramps with
        localMute := Vec.put s.ramps.localMute p ((s.ramps.localMute[p]).muteChange s.mutes.rampLength s.mutes.reasons[p] r)
        gate := Vec.put s.ramps.gate p (gateRamp s p r) }
      control := if closes s p r then s.control.report (report s p) else s.control } := by
  cases hc : closes s p r with
  | true =>
    obtain ⟨hb, hr, hg⟩ := (closes_iff s p r).1 hc
    rw [setReasons_closing hb hr hg, if_neg (by rw [hfault hc]; decide), ← releaseGate_eq_shutGate,
      RosterChange.releaseGate_eq]
    simp only [gate, gateRamp, hc]
    rfl
  | false =>
    have hshut : (s.mutes.reasons[p]).muted = false → r.muted = true → (s.gate p).state.Shut := fun hb hr =>
      Decidable.of_not_not fun hg => by rw [(closes_iff s p r).2 ⟨hb, hr, hg⟩] at hc; cases hc
    rw [setReasons_of_shut hshut]
    simp only [gate, gateRamp, hc, State.withReasons, Bool.false_eq_true, if_false, Bool.not_false, if_true, Vec.put_same]
    rw [State.gate, Vec.put_same]

section
variable (new : Pod → Reasons) (s : State)

/-- The state when the first `k` pods have had their turn. -/
def after (k : Nat) : State :=
  { s with
    mutes := { s.mutes with reasons := Vec.tab fun p => if p.1 < k then new p else s.mutes.reasons[p] }
    automixer := { s.automixer with
      gates := Vec.tab fun p => if p.1 < k then gate s p (new p) else s.gate p
      waitQueue := s.automixer.waitQueue.filter fun p => !closes s p (new p) || decide (k ≤ p.1)
      collected := s.automixer.collected.filter fun p => !closes s p (new p) || decide (k ≤ p.1) }
    ramps := { s.ramps with
      localMute := Vec.tab fun p => if p.1 < k then
          (s.ramps.localMute[p]).muteChange s.mutes.rampLength s.mutes.reasons[p] (new p)
        else s.ramps.localMute[p]
      gate := Vec.tab fun p => if p.1 < k then gateRamp s p (new p) else s.ramps.gate[p] }
    control := ((((List.finRange 24).take k).filter fun p => closes s p (new p)).map (report s)).foldl
      Control.report s.control }

theorem after_zero : after new s 0 = s := by
  simp [after, State.gate, -Fin.getElem_fin]

theorem after_reasons (p : Pod) : (after new s p.1).mutes.reasons[p] = s.mutes.reasons[p] := by simp [after]

theorem after_gate (p : Pod) : (after new s p.1).gate p = s.gate p := by simp [after, State.gate]

theorem after_localMute (p : Pod) : (after new s p.1).ramps.localMute[p] = s.ramps.localMute[p] := by simp [after]

theorem after_gateRamp (p : Pod) : (after new s p.1).ramps.gate[p] = s.ramps.gate[p] := by simp [after]

/-- The turn of a pod depends on that pod alone. -/
theorem closes_after (p : Pod) (r : Reasons) : closes (after new s p.1) p r = closes s p r := by
  rw [closes, after_reasons, after_gate, closes]

theorem after_succ_control (p : Pod) :
    (after new s (p.1 + 1)).control =
      if closes s p (new p) then (after new s p.1).control.report (report s p) else (after new s p.1).control := by
  simp only [after]
  rw [List.take_succ_eq_append_getElem (by rw [List.length_finRange]; exact p.2), List.filter_append, List.map_append,
    List.foldl_append]
  cases h : closes s p (new p) <;> simp [h]

theorem setReasons_after (hfault : ∀ p : Pod, closes s p (new p) = true → (new p).fault = false) (p : Pod) :
    (after new s p.1).setReasons p (new p) = after new s (p.1 + 1) := by
  rw [setReasons_eq_gate (by rw [closes_after]; exact hfault p), closes_after, report, after_gate]
  simp only [gate, gateRamp, closes_after, after_gate, after_reasons, after_localMute, after_gateRamp]
  have hcontrol := after_succ_control new s p
  rw [report] at hcontrol
  rw [← hcontrol]
  simp only [after, Vec.put_tab_lt, gate, gateRamp, filter_next fun p => !closes s p (new p)]

/-- A pass whose turns each write the pod's reason set. -/
theorem foldl_eq_after {f : State → Pod → State}
    (hf : ∀ p : Pod, f (after new s p.1) p = (after new s p.1).setReasons p (new p))
    (hfault : ∀ p : Pod, closes s p (new p) = true → (new p).fault = false) :
    allPods.foldl f s = after new s 24 := by
  have h := foldl_finRange f (after new s) fun p => (hf p).trans (setReasons_after new s hfault p)
  rw [after_zero] at h
  exact h

theorem after_all :
    after new s 24 = { s with
      mutes := { s.mutes with reasons := Vec.tab new }
      automixer := { s.automixer with
        gates := Vec.tab fun p => gate s p (new p)
        waitQueue := s.automixer.waitQueue.filter fun p => !closes s p (new p)
        collected := s.automixer.collected.filter fun p => !closes s p (new p) }
      ramps := { s.ramps with
        localMute := Vec.tab fun p => (s.ramps.localMute[p]).muteChange s.mutes.rampLength s.mutes.reasons[p] (new p)
        gate := Vec.tab fun p => gateRamp s p (new p) }
      control := (((List.finRange 24).filter fun p => closes s p (new p)).map (report s)).foldl
        Control.report s.control } := by
  have hlate (p : Pod) : decide (24 ≤ p.1) = false := decide_eq_false (by omega)
  have hturn (p : Pod) : p.1 < 24 := p.2
  simp only [after, hturn, if_true, hlate, Bool.or_false]
  rfl

end

end ReasonPass

/-! ### The chair's all-mute (R96 to R98) -/

/-- R97, R98: the reason set that the flag gives a pod. -/
def State.chairReasons (s : State) (on : Bool) (p : Pod) : Reasons :=
  { s.mutes.reasons[p] with
    chair := on && ((s.mutes.reasons[p]).chair || (s.session.roster.pods[p] && !s.session.roster.chairs[p])) }

/-- R84, R101: the reports of a change of the flag. -/
def State.chairReports (s : State) (on : Bool) : List Report :=
  if on then ((List.finRange 24).filter fun p => ReasonPass.closes s p (s.chairReasons on p)).map (ReasonPass.report s)
  else if s.mutes.talkList = [] then [] else [(.key, 0xE4, [5, 0, 0])]

/-- What a change of the flag makes of the state. -/
def State.chairMuted (s : State) (on : Bool) : State :=
  { s with
    mutes := { s.mutes with
      chairMute := on, reasons := Vec.tab (s.chairReasons on), talkList := if on then s.mutes.talkList else [] }
    automixer := { s.automixer with
      gates := Vec.tab fun p => ReasonPass.gate s p (s.chairReasons on p)
      waitQueue := s.automixer.waitQueue.filter fun p => !ReasonPass.closes s p (s.chairReasons on p)
      collected := s.automixer.collected.filter fun p => !ReasonPass.closes s p (s.chairReasons on p) }
    ramps := { s.ramps with
      localMute := Vec.tab fun p =>
        (s.ramps.localMute[p]).muteChange s.mutes.rampLength s.mutes.reasons[p] (s.chairReasons on p)
      gate := Vec.tab fun p => ReasonPass.gateRamp s p (s.chairReasons on p) }
    control := (s.chairReports on).foldl Control.report s.control }

section
variable (s : State)

/-- A gate that CHAIR closes has not carried FAULT. -/
theorem chairReasons_fault_of_closes {on : Bool} {p : Pod} (h : ReasonPass.closes s p (s.chairReasons on p) = true) :
    (s.chairReasons on p).fault = false := by
  obtain ⟨hb, -, -⟩ := (ReasonPass.closes_iff _ _ _).1 h
  cases hf : (s.chairReasons on p).fault with
  | false => rfl
  | true => exact absurd (Reasons.muted_of_fault (r := s.mutes.reasons[p]) hf) (ne_true_of_eq_false hb)

/-- R98: no gate closes as CHAIR is taken away. -/
theorem not_closes_chairReasons_off (p : Pod) : ReasonPass.closes s p (s.chairReasons false p) = false := by
  simp only [ReasonPass.closes, State.chairReasons, Reasons.muted]
  cases (s.mutes.reasons[p]).key <;> cases (s.mutes.reasons[p]).host <;> cases (s.mutes.reasons[p]).fault <;> simp

/-- R97: a pod of the roster that is not a chair pod is given CHAIR. -/
theorem chairReasons_of_delegate {p : Pod} (h : s.session.roster.delegate p = true) :
    s.chairReasons true p = { s.mutes.reasons[p] with chair := true } := by
  rw [Roster.delegate] at h
  rw [State.chairReasons, h, Bool.or_true]
  rfl

theorem chairReasons_of_not_delegate {p : Pod} (h : s.session.roster.delegate p = false) :
    s.chairReasons true p = s.mutes.reasons[p] := by
  rw [Roster.delegate] at h
  rw [State.chairReasons, h, Bool.or_false]
  rfl

theorem chairMuteOn_eq : s.chairMuteOn = s.chairMuted true := by
  let u : State := { s with mutes := { s.mutes with chairMute := true } }
  have hturn (p : Pod) :
      (if (ReasonPass.after (s.chairReasons true) u p.1).session.roster.delegate p then
        (ReasonPass.after (s.chairReasons true) u p.1).setChair p true else ReasonPass.after (s.chairReasons true) u p.1) =
        (ReasonPass.after (s.chairReasons true) u p.1).setReasons p (s.chairReasons true p) := by
    have hold : (ReasonPass.after (s.chairReasons true) u p.1).mutes.reasons[p] = s.mutes.reasons[p] :=
      ReasonPass.after_reasons _ u p
    have hsession : (ReasonPass.after (s.chairReasons true) u p.1).session = s.session := rfl
    rw [hsession]
    cases hd : s.session.roster.delegate p with
    | true =>
      rw [if_pos rfl, State.setChair, hold, chairReasons_of_delegate s hd]
    | false =>
      rw [if_neg (by decide), chairReasons_of_not_delegate s hd, ← hold, setReasons_self]
  rw [State.chairMuteOn, ReasonPass.foldl_eq_after (s.chairReasons true) u hturn fun p => chairReasons_fault_of_closes s,
    ReasonPass.after_all]
  rfl

theorem clearTalkList_eq : s.clearTalkList = { s with
    mutes := { s.mutes with talkList := [] }
    control := if s.mutes.talkList = [] then s.control else s.control.report (.key, 0xE4, [5, 0, 0]) } := by
  rw [State.clearTalkList]
  split
  · rename_i h
    rw [← h]
  · exact post_eq_reported (.key, 0xE4, [5, 0, 0]) _

theorem chairMuteOff_eq : s.chairMuteOff = s.chairMuted false := by
  let u : State := { s with mutes := { s.mutes with chairMute := false } }
  have hturn (p : Pod) :
      (if ((ReasonPass.after (s.chairReasons false) u p.1).mutes.reasons[p]).chair then
        (ReasonPass.after (s.chairReasons false) u p.1).setChair p false else ReasonPass.after (s.chairReasons false) u p.1) =
        (ReasonPass.after (s.chairReasons false) u p.1).setReasons p (s.chairReasons false p) := by
    have hold : (ReasonPass.after (s.chairReasons false) u p.1).mutes.reasons[p] = s.mutes.reasons[p] :=
      ReasonPass.after_reasons _ u p
    cases hc : (s.mutes.reasons[p]).chair with
    | true =>
      rw [hold, if_pos hc, State.setChair, hold]
      simp [State.chairReasons]
    | false =>
      have hsame : s.chairReasons false p = s.mutes.reasons[p] := by rw [State.chairReasons, Bool.false_and, ← hc]
      rw [hold, if_neg (ne_true_of_eq_false hc), hsame, ← hold, setReasons_self]
  have hopen (p : Pod) : ReasonPass.closes u p (s.chairReasons false p) = false := not_closes_chairReasons_off s p
  have hnone : ((List.finRange 24).filter fun p => ReasonPass.closes u p (s.chairReasons false p)).map (ReasonPass.report u) =
      [] := by simp [hopen]
  rw [State.chairMuteOff, ReasonPass.foldl_eq_after (s.chairReasons false) u hturn fun p h => absurd h (ne_true_of_eq_false (hopen p)),
    ReasonPass.after_all, hnone, clearTalkList_eq, State.chairMuted, State.chairReports,
    if_neg (Bool.false_ne_true), if_neg (Bool.false_ne_true)]
  by_cases h : s.mutes.talkList = []
  · rw [if_pos (by exact h), if_pos h]
    rfl
  · rw [if_neg (by exact h), if_neg h]
    rfl

/-- R96: the flag set. -/
theorem setChairMute_eq (on : Bool) :
    s.setChairMute on = if s.mutes.chairMute = on then s else s.chairMuted on := by
  rw [State.setChairMute]
  cases on with
  | true => rw [if_pos rfl, chairMuteOn_eq]
  | false => rw [if_neg Bool.false_ne_true, chairMuteOff_eq]

end

end Sys2Proof.Machine
end

section
/-! SET_PRIVACY and SET_CHAIR_MUTE (R88, R96): O37. -/

namespace Sys2Proof.Machine

section
variable {tag value : Byte} {s : State} {v : Verdict}

theorem exec_setPrivacy (h : s.takes) (hv : judgeSetPrivacy value s.hunt = v) :
    exec (.setPrivacy tag value) s = .next (v.effect (s.answered 0xA2 tag (v.status.code :: v.fields))) :=
  congrArg Host.Outcome.next (takeRequest_verdict h hv)

theorem exec_setChairMute (h : s.takes) (hv : judgeSetChairMute value s.hunt = v) :
    exec (.setChairMute tag value) s = .next (v.effect (s.answered 0xA3 tag (v.status.code :: v.fields))) :=
  congrArg Host.Outcome.next (takeRequest_verdict h hv)

end

/-- Settles O37: each request by its verdict, the flag by the pass over the pods' reason sets. -/
theorem privacyAndChairMute : Obligations.PrivacyAndChairMute := by
  refine ⟨fun tag on s hs => ?_, fun tag value s hs hbad => ?_, fun tag on s hs => ?_⟩
  · refine exec_setPrivacy hs (v := { status := .ok, fields := [bit8 on], effect := State.setPrivacy on }) ?_
    rw [judgeSetPrivacy, onOff_bit8]
  · exact ⟨exec_setPrivacy hs (v := .refuse .badValue) (by rw [judgeSetPrivacy, onOff_eq_none hbad]),
      exec_setChairMute hs (v := .refuse .badValue) (by rw [judgeSetChairMute, onOff_eq_none hbad])⟩
  · intro u old new closes q reports
    have hverdict : judgeSetChairMute (bit8 on) s.hunt =
        { status := .ok, fields := [bit8 on], effect := State.setChairMute on } := by
      rw [judgeSetChairMute, onOff_bit8]
    have hcontrol : (u.chairMuted on).control = (reports.foldl (fun t e => t.post e.1 e.2.1 e.2.2) u).control := by
      rw [foldl_post_eq_reported]
      rfl
    refine (exec_setChairMute hs hverdict).trans (congrArg Host.Outcome.next ((setChairMute_eq u on).trans ?_))
    rw [← hcontrol]
    rfl

end Sys2Proof.Machine
end

section
/-! The queries and the encodings of their fields (R83, R110, R111, R131, R142, R155, R174, R183, R184, R201): O50. -/

namespace Sys2Proof.Machine

/-! ### Lists of members -/

theorem Vec.toList_eq_map {α : Type} {n : Nat} (v : Vector α n) : v.toList = (List.finRange n).map fun i => v[i] :=
  List.ext_getElem (by simp) fun i h h' => by simp

theorem counted_podBytes (v : Vector Bool 24) :
    counted (podBytes v) =
      u8 ((List.finRange 24).filter fun p => v[p]).length ::
        ((List.finRange 24).filter fun p => v[p]).map fun p => u8 (p.1 + 1) := by
  rw [counted, podBytes, List.length_map]
  rfl

theorem counted_trunkBytes (v : Vector Bool 4) :
    counted (trunkBytes v) =
      u8 ((List.finRange 4).filter fun k => v[k]).length ::
        ((List.finRange 4).filter fun k => v[k]).map fun k => u8 (k.1 + 25) := by
  rw [counted, trunkBytes, List.length_map]
  rfl

theorem trunkHost_bytes (v : Vector Bool 4) :
    v.toList.map trunkReasonsByte = (List.finRange 4).map fun k => if v[k] then 2 else 0 := by
  rw [Vec.toList_eq_map, List.map_map]
  refine List.map_congr_left fun k _ => ?_
  cases h : v[k] <;> simp [-Fin.getElem_fin, h, trunkReasonsByte, bit8]

theorem recordBytes (v : Vector RecordSetting 2) :
    (v.toList.flatMap fun r => [r.flagsByte, i8 r.gain]) =
      (List.finRange 2).flatMap fun b => [(v[b]).flagsByte, i8 (v[b]).gain] := by
  rw [Vec.toList_eq_map, List.flatMap_map]

theorem clipByte_toNat (c : ClipId) : (clipByte c).toNat = c.1 + 1 := by
  rw [clipByte, u8, BitVec.toNat_ofNat, Nat.mod_eq_of_lt (by omega)]

/-- R155: the clips listed, from the first on and cut at clip 32. -/
theorem cutRange_clipByte (c : ClipId) (n : Nat) :
    (cutRange (clipByte c).toNat n : List ClipId) =
      (List.finRange 32).filter fun d : ClipId => decide (c ≤ d ∧ d.1 < c.1 + n) := by
  rw [cutRange, clipByte_toNat]
  refine List.filter_congr fun d _ => decide_eq_decide.2 ?_
  rw [Fin.le_def]
  omega

theorem Clip.entry_eq (k : Clip) :
    k.entry = [k.state.code] ++ u24 k.declared ++ u24 k.loaded ++ u16 k.pages.length ++ [u8 k.references] ++
      match k.faultPage with
      | some g => u16 g
      | none => [0xFF, 0xFF] := by
  unfold Clip.entry optional16
  cases k.faultPage <;> simp

theorem Segment.bytes_eq (g : Segment) :
    g.bytes = [u8 (g.clip.1 + 1)] ++ u24 g.start ++ u24 g.playLength ++ [g.loopBlock.code, i8 g.gain, g.nextAction.code] :=
  rfl

/-- R174. -/
theorem PlayerRecord.bytes_eq (ramp : Nat) (r : PlayerRecord) :
    r.bytes ramp = [r.state.code, bit8 r.advancing, match r.abortReason with
        | some x => x.code
        | none => 0xFF] ++ [r.routing.byte, bit8 r.haltOnError + (if r.stopOnSpeech then 2 else 0), u8 r.current] ++
      u24 r.played ++ u24 r.nextOffset ++ u16 ramp ++ [u8 r.cue.length] ++
      r.cue.flatMap fun g => [u8 (g.clip.1 + 1)] ++ u24 g.start ++ u24 g.playLength ++
        [g.loopBlock.code, i8 g.gain, g.nextAction.code] := by
  have hoptions : optionsByte r.haltOnError r.stopOnSpeech = bit8 r.haltOnError + (if r.stopOnSpeech then 2 else 0) := by
    rw [optionsByte]
    cases r.stopOnSpeech <;> rfl
  have hreason : optional8 (r.abortReason.map DoneReason.code) = match r.abortReason with
      | some x => x.code
      | none => 0xFF := by
    cases r.abortReason <;> rfl
  have hcue : r.cue.flatMap Segment.bytes = r.cue.flatMap fun g => [u8 (g.clip.1 + 1)] ++ u24 g.start ++ u24 g.playLength ++
      [g.loopBlock.code, i8 g.gain, g.nextAction.code] := rfl
  rw [PlayerRecord.bytes, hoptions, hreason, hcue]
  simp

/-! ### Queries -/

/-- A query is answered and changes nothing. -/
theorem takeRequest_answer {ty tag : Byte} {n : Nat} {judge : State → Verdict} {s : State} {st : Status} {l : List Byte}
    (h : s.takes) (hv : judge s.hunt = .answer st l) :
    takeRequest ty tag n judge s = s.answered (answerType ty) tag (st.code :: l) :=
  takeRequest_verdict h hv

section
variable {tag : Byte} {s : State} (h : s.takes)
include h

theorem exec_getRoster :
    exec (.getRoster tag) s = .next (s.answered 0x85 tag (0 :: s.session.roster.bytes)) :=
  congrArg Host.Outcome.next (takeRequest_answer (judge := judgeGetRoster) h rfl)

theorem exec_getRequests :
    exec (.getRequests tag) s = .next (s.answered 0xA8 tag
      (0 :: bit8 s.mutes.chairMute :: counted (s.mutes.talkList.map podByte))) :=
  congrArg Host.Outcome.next (takeRequest_answer (judge := judgeGetRequests) h rfl)

theorem exec_getStatus :
    exec (.getStatus tag) s = .next (s.answered 0x86 tag
      (0 :: (s.session.mixer.code :: u16 s.ramps.master.ended ++ u8 (podBytes s.session.roster.pods).length ::
        counted (podBytes s.session.roster.chairs) ++
        [u8 (trunkBytes s.session.roster.trunks).length, bit8 s.mutes.chairMute, bit8 s.mutes.privacy,
          u8 s.automixer.limit, u8 s.holders.length, s.session.lastReason.code]))) :=
  congrArg Host.Outcome.next (takeRequest_answer (judge := judgeGetStatus) h rfl)

theorem exec_getGates :
    exec (.getGates tag) s = .next (s.answered 0x9A tag
      (0 :: ([u8 s.automixer.limit, optional8 (s.automixer.pendingLimit.map u8), u8 s.holders.length,
        u8 s.automixer.waitQueue.length] ++
        (allPods.flatMap fun p => (s.gate p).entry) ++ s.automixer.waitQueue.map podByte))) :=
  congrArg Host.Outcome.next (takeRequest_answer (judge := judgeGetGates) h rfl)

theorem exec_getMutes :
    exec (.getMutes tag) s = .next (s.answered 0xA7 tag
      (0 :: ([bit8 s.mutes.privacy, bit8 s.mutes.chairMute, u8 s.mutes.keyGuard, u8 s.mutes.rampLength] ++
        allPods.flatMap s.mutes.podEntry ++ s.mutes.trunkHost.toList.map trunkReasonsByte))) :=
  congrArg Host.Outcome.next (takeRequest_answer (judge := judgeGetMutes) h rfl)

theorem exec_getAlc :
    exec (.getAlc tag) s = .next (s.answered 0xB2 tag
      (0 :: (s.alc.params.bytes ++ u8 s.alc.position :: allPods.flatMap fun p => (s.alc.records[p]).entry))) :=
  congrArg Host.Outcome.next (takeRequest_answer (judge := judgeGetAlc) h rfl)

theorem exec_getFeeds :
    exec (.getFeeds tag) s = .next (s.answered 0xBE tag
      (0 :: (i8 s.router.duckDepth :: allPods.flatMap s.podFeedEntry ++ (List.finRange 4).flatMap s.trunkFeedEntry ++
        s.router.feeds.record.toList.flatMap fun r => [r.flagsByte, i8 r.gain]))) :=
  congrArg Host.Outcome.next (takeRequest_answer (judge := judgeGetFeeds) h rfl)

theorem exec_getClips {first count : Byte} {st : Status} {l : List Byte} (hv : judgeGetClips first count s.hunt = .answer st l) :
    exec (.getClips tag first count) s = .next (s.answered 0xC4 tag (st.code :: l)) :=
  congrArg Host.Outcome.next (takeRequest_answer h hv)

theorem exec_getPlayer {player : Byte} {st : Status} {l : List Byte} (hv : judgeGetPlayer player s.hunt = .answer st l) :
    exec (.getPlayer tag player) s = .next (s.answered 0xCD tag (st.code :: l)) :=
  congrArg Host.Outcome.next (takeRequest_answer h hv)

end

theorem judgeGetClips_of_bad {first count : Byte} {s : State} (h : first.toNat = 0 ∨ 32 < first.toNat) :
    judgeGetClips first count s = .answer .badValue [] := by
  rw [judgeGetClips, clipOf_eq_none h]
  rfl

theorem judgeGetPlayer_of_bad {player : Byte} {s : State} (h : player.toNat = 0 ∨ 2 < player.toNat) :
    judgeGetPlayer player s = .answer .badValue [] := by
  rw [judgeGetPlayer, playerOf_eq_none h]
  rfl

/-- R155: the clips from `c` on. -/
theorem judgeGetClips_clipByte (c : ClipId) (b : Byte) (s : State) :
    let n := clampNat 1 16 b.toNat
    let listed := (List.finRange 32).filter fun d : ClipId => decide (c ≤ d ∧ d.1 < c.1 + n)
    judgeGetClips (clipByte c) b s = .answer (okOr (decide (n ≠ b.toNat)))
      (u16 s.store.free.length ++ s.store.loadingByte :: u8 listed.length ::
        listed.flatMap fun d => (s.store.clips[d]).entry) := by
  intro n listed
  simp only [judgeGetClips, clipOf_clipByte, cutRange_clipByte]
  rfl

theorem judgeGetPlayer_playerByte (n : Player) (s : State) :
    judgeGetPlayer (playerByte n) s = .answer .ok ((s.player n).bytes (s.ramps.player[n]).ended) := by
  rw [judgeGetPlayer, playerOf_playerByte]

/-! ### Encodings (R201) -/

theorem u8_toNat {n : Nat} (h : n < 256) : (u8 n).toNat = n := by
  rw [u8, BitVec.toNat_ofNat, Nat.mod_eq_of_lt h]

theorem u16_eq {n : Nat} (h : n < 2 ^ 16) : u16 n = [u8 (n / 256), u8 (n % 256)] := by
  have hhigh : (BitVec.ofNat 16 n).extractLsb' 8 8 = u8 (n / 256) := by
    refine BitVec.eq_of_toNat_eq ?_
    rw [BitVec.extractLsb'_toNat, BitVec.toNat_ofNat, u8_toNat (by omega), Nat.shiftRight_eq_div_pow]
    omega
  have hlow : (BitVec.ofNat 16 n).extractLsb' 0 8 = u8 (n % 256) := by
    refine BitVec.eq_of_toNat_eq ?_
    rw [BitVec.extractLsb'_toNat, BitVec.toNat_ofNat, u8_toNat (by omega), Nat.shiftRight_zero]
    omega
  rw [u16, bytes16, hhigh, hlow]

theorem u24_eq {n : Nat} (h : n < 2 ^ 24) : u24 n = [u8 (n / 65536), u8 (n / 256 % 256), u8 (n % 256)] := by
  have hhigh : (BitVec.ofNat 24 n).extractLsb' 16 8 = u8 (n / 65536) := by
    refine BitVec.eq_of_toNat_eq ?_
    rw [BitVec.extractLsb'_toNat, BitVec.toNat_ofNat, u8_toNat (by omega), Nat.shiftRight_eq_div_pow]
    omega
  have hmiddle : (BitVec.ofNat 24 n).extractLsb' 8 8 = u8 (n / 256 % 256) := by
    refine BitVec.eq_of_toNat_eq ?_
    rw [BitVec.extractLsb'_toNat, BitVec.toNat_ofNat, u8_toNat (by omega), Nat.shiftRight_eq_div_pow]
    omega
  have hlow : (BitVec.ofNat 24 n).extractLsb' 0 8 = u8 (n % 256) := by
    refine BitVec.eq_of_toNat_eq ?_
    rw [BitVec.extractLsb'_toNat, BitVec.toNat_ofNat, u8_toNat (by omega), Nat.shiftRight_zero]
    omega
  rw [u24, bytes24, hhigh, hmiddle, hlow]

theorem i8_toInt {x : Int} (hlow : -128 ≤ x) (hhigh : x ≤ 127) : (i8 x).toInt = x :=
  BitVec.toInt_ofInt_eq_self (by decide) (by omega) (by omega)

theorem i16_eq {x : Int} (hlow : -(2 ^ 15) ≤ x) (hhigh : x < 2 ^ 15) :
    ∃ hi lo : Byte, i16 x = [hi, lo] ∧ (hi ++ lo).toInt = x :=
  ⟨_, _, rfl, (congrArg BitVec.toInt (word16_bytes16 (BitVec.ofInt 16 x))).trans
    (BitVec.toInt_ofInt_eq_self (by decide) hlow hhigh)⟩

/-- The bits of each set, and of the applied history. -/
theorem sets_encoded :
    let bit (b : Bool) (n : Nat) : Nat := if b then n else 0
    (∀ r : Reasons, r.byte = u8 (bit r.key 1 + bit r.host 2 + bit r.chair 4 + bit r.fault 8)) ∧
    (∀ r : RecordSetting, r.flagsByte = u8 (bit r.room 1 + bit r.far 2 + bit r.prompt 4)) ∧
    ∀ r : Routing, r.byte = u8 (bit r.pod 1 + bit r.trunk 2 + bit r.record 4) := by
  refine ⟨fun r => ?_, fun r => ?_, fun r => ?_⟩
  · obtain ⟨key, host, chair, fault⟩ := r
    revert key host chair fault
    decide
  · obtain ⟨room, far, prompt, gain⟩ := r
    cases room <;> cases far <;> cases prompt <;> rfl
  · obtain ⟨pod, trunk, record⟩ := r
    revert pod trunk record
    decide

/-- Settles O50: each query by its answer, each encoding by its cases or by arithmetic. -/
theorem queriesAnswerTheState : Obligations.QueriesAnswerTheState := by
  refine ⟨fun tag s hs => ⟨?_, ?_⟩, fun tag s hs => ?_, ?_⟩
  · rw [exec_getRoster hs, Roster.bytes, counted_podBytes, counted_podBytes, counted_trunkBytes]
    rfl
  · rw [exec_getRequests hs, counted, List.length_map]
    rfl
  · intro count pods
    refine ⟨?_, ?_, ?_, exec_getAlc hs, ?_, fun first n hbad => exec_getClips hs (judgeGetClips_of_bad hbad), fun c b => ?_,
      fun player hbad => exec_getPlayer hs (judgeGetPlayer_of_bad hbad), fun n => ?_⟩
    · rw [exec_getStatus hs, counted_podBytes, podBytes, List.length_map, trunkBytes, List.length_map]
      simp only [List.cons_append, List.nil_append, List.append_assoc]
      rfl
    · rw [exec_getGates hs]
      cases s.automixer.pendingLimit <;> rfl
    · rw [exec_getMutes hs, trunkHost_bytes]
      rfl
    · rw [exec_getFeeds hs, recordBytes]
      rfl
    · intro n listed
      have hn : clampNat 1 16 b.toNat = n := rfl
      rw [exec_getClips hs (judgeGetClips_clipByte c b s.hunt), hn, okOr_code]
      simp only [Clip.entry_eq]
      rfl
    · rw [exec_getPlayer hs (judgeGetPlayer_playerByte n s.hunt), PlayerRecord.bytes_eq]
      rfl
  · obtain ⟨hreasons, hrecord, hrouting⟩ := sets_encoded
    refine ⟨⟨hreasons, hrecord, hrouting, ⟨rfl, fun later => ?_, fun older later => ?_⟩, rfl, rfl, rfl, rfl, rfl, rfl, rfl,
      rfl, rfl, rfl, rfl, rfl, rfl, rfl⟩, rfl, rfl, fun n => u8_toNat, fun n => u16_eq, fun n => u24_eq, fun x => i8_toInt,
      fun x => i16_eq, podByte_toNat, trunkByte_toNat, fun n => ?_, clipByte_toNat⟩
    · cases later <;> rfl
    · cases older <;> cases later <;> rfl
    · exact u8_toNat (by omega)

end Sys2Proof.Machine
end

section
/-! SUPPORT. The automixer's work in two states that its reading cannot tell apart: the gates come out the same, and the
reports of the one are queued in the other or lost. -/

namespace Sys2Proof.Machine

theorem Control.Carries.report {k : Nat} {t u : Control} (h : Control.Carries k t u) (hmask : t.mask = u.mask)
    (hk : k ≤ u.queue.length) (e : Report) :
    (t.report e).mask = (u.report e).mask ∧ Control.Carries k (t.report e) (u.report e) ∧
      k ≤ (u.report e).queue.length := by
  unfold Control.report
  rw [hmask]
  split
  · have posted : Posts (fun _ => True) u (u.enqueueReport e.2.1 e.2.2) := .report e.2.1 e.2.2 trivial .none
    obtain ⟨x, hx, -⟩ := posted.queue_eq
    refine ⟨?_, h.enqueue hk _ _, ?_⟩
    · rw [enqueueReport_mask, enqueueReport_mask, hmask]
    · rw [hx, List.length_append]
      omega
  · exact ⟨hmask, h, hk⟩

/-- `t` has what the automixer's work reads as `u` has it, and the reports of `u` from position `k` on. -/
structure Alongside (k : Nat) (t u : State) : Prop extends SameGates t u where
  mask : t.control.mask = u.control.mask
  reports : Control.Carries k t.control u.control
  length : k ≤ u.control.queue.length

section
variable {k : Nat} {t u : State} (h : Alongside k t u)
include h

/-- A change of the automixer, and its report. -/
theorem Alongside.change (f : Automixer → Automixer) (c : Category) (ty : Byte) {l l' : List Byte} (hl : l = l') :
    Alongside k ({ t with automixer := f t.automixer }.post c ty l) ({ u with automixer := f u.automixer }.post c ty l') := by
  subst hl
  obtain ⟨hmask, hreports, hlength⟩ := h.reports.report h.mask h.length (c, ty, l)
  refine { SameGates.post (h.toSameGates.withAutomixer f) c c ty ty l l with mask := ?_, reports := ?_, length := ?_ }
  all_goals rw [post_eq_reported (c, ty, l)]
  · rw [post_eq_reported (c, ty, l)]
    exact hmask
  · rw [post_eq_reported (c, ty, l)]
    exact hreports
  · exact hlength

/-- What the automixer changes without a report. -/
theorem Alongside.of_sameGates {t' u' : State} (hg : SameGates t' u') (ht : t'.control = t.control)
    (hu : u'.control = u.control) : Alongside k t' u' :=
  { hg with mask := by rw [ht, hu]; exact h.mask, reports := by rw [ht, hu]; exact h.reports
            length := by rw [hu]; exact h.length }

theorem Alongside.releaseGate (p : Pod) (c : GateCause) : Alongside k (t.releaseGate p c) (u.releaseGate p c) :=
  h.change (fun a => { a with
    gates := Vec.put a.gates p { a.gates[p] with state := .closed, count := 0 }
    waitQueue := a.waitQueue.filter (· != p), collected := a.collected.filter (· != p) }) _ _
    (by rw [show t.automixer.gates[p] = u.automixer.gates[p] from h.gate p])

theorem Alongside.openGate (p : Pod) : Alongside k (t.openGate p) (u.openGate p) :=
  h.change (fun a => { a with
    gates := Vec.put a.gates p { a.gates[p] with state := .opened, count := 0 }
    waitQueue := a.waitQueue.filter (· != p), collected := a.collected.filter (· != p) }) _ _ (by rw [h.gate p])

theorem Alongside.enterWait (p : Pod) : Alongside k (t.enterWait p) (u.enterWait p) :=
  h.change (fun a => { a with
    gates := Vec.put a.gates p { a.gates[p] with state := .waiting, count := 0 }
    waitQueue := a.waitQueue ++ [p] }) _ _ (by rw [h.gate p])

theorem Alongside.expire (p : Pod) : Alongside k (t.expire p) (u.expire p) := by
  have hkeeps : t.lastMicKeeps p = u.lastMicKeeps p := by
    rw [State.lastMicKeeps, h.automixer, h.holders, State.lastMicKeeps]
  unfold State.expire
  rw [hkeeps]
  split
  · exact h
  · exact h.releaseGate p _

end

theorem takeAutomixParams_control (s : State) : s.takeAutomixParams.control = s.control := by
  unfold State.takeAutomixParams
  split <;> rfl

theorem takeLimit_control (s : State) : s.takeLimit.control = s.control := by
  unfold State.takeLimit
  split <;> rfl

theorem Alongside.foldl {k : Nat} {f : State → Pod → State}
    (hf : ∀ (p : Pod) {t u : State}, Alongside k t u → Alongside k (f t p) (f u p)) (l : List Pod) {t u : State}
    (h : Alongside k t u) : Alongside k (l.foldl f t) (l.foldl f u) := by
  induction l generalizing t u with
  | nil => exact h
  | cons p rest ih => exact ih (hf p h)

theorem Alongside.step1 {k : Nat} {t u : State} (h : Alongside k t u) : Alongside k t.step1 u.step1 := by
  have hjudged : Alongside k ((t.marked .timeout t.automixer.waitQueue).foldl State.timeOut t.judgeGates)
      ((u.marked .timeout u.automixer.waitQueue).foldl State.timeOut u.judgeGates) := by
    rw [h.automixer, h.marked]
    exact Alongside.foldl (fun p t u h => h.releaseGate p _) _ (h.of_sameGates h.judgeGates rfl rfl)
  unfold State.step1
  dsimp only
  rw [hjudged.victimBefore, h.marked .expired]
  exact Alongside.foldl (fun p t u h => h.expire p) _ hjudged

theorem Alongside.evict {k : Nat} (fuel : Nat) {t u : State} (h : Alongside k t u) :
    Alongside k (State.evict fuel t) (State.evict fuel u) := by
  induction fuel generalizing t u with
  | zero => exact h
  | succ fuel ih =>
    unfold State.evict
    rw [h.holders, h.automixer, h.victim]
    split
    · exact h
    · split
      · exact h
      · exact ih (h.releaseGate _ _)

theorem Alongside.grant {k : Nat} (fuel : Nat) {t u : State} (h : Alongside k t u) :
    Alongside k (State.grant fuel t).1 (State.grant fuel u).1 := by
  induction fuel generalizing t u with
  | zero => exact h
  | succ fuel ih =>
    unfold State.grant
    rw [h.holders, h.automixer, h.grantee]
    split
    · exact h
    · split
      · exact h
      · exact ih (h.openGate _)

theorem Alongside.request {k : Nat} (p : Pod) {t u : State} (h : Alongside k t u) :
    Alongside k (t.request p).1 (u.request p).1 := by
  unfold State.request
  rw [h.holders, h.automixer, h.victim]
  split
  · exact h.openGate p
  · split
    · exact h.enterWait p
    · rw [h.gate, h.gate]
      split
      · exact (h.releaseGate _ _).openGate p
      · exact h.enterWait p

/-- R70: the requests, one at a time. -/
theorem requests_state (l : List Pod) (s : State) :
    (State.requests l s).1 = l.foldl (fun t p => (t.request p).1) s := by
  induction l generalizing s with
  | nil => rfl
  | cons p rest ih => exact ih _

theorem Alongside.step4 {k : Nat} {t u : State} (h : Alongside k t u) : Alongside k t.step4.1 u.step4.1 := by
  unfold State.step4
  rw [requests_state, requests_state, h.requestBefore]
  simp only [h.gate]
  rw [h.automixer]
  exact Alongside.foldl (fun p t u h => h.request p) _
    (h.of_sameGates (h.toSameGates.withAutomixer fun _ => { u.automixer with collected := [] }) rfl rfl)

/-- The four steps (R64 to R72), with the parameters last taken. -/
def State.gatesMoved (s : State) : State := s.takeAutomixParams.step1.step2.step3.1.step4.1

theorem Alongside.gatesMoved {k : Nat} {t u : State} (h : Alongside k t u) : Alongside k t.gatesMoved u.gatesMoved := by
  have htaken : Alongside k t.takeAutomixParams u.takeAutomixParams :=
    h.of_sameGates h.takeAutomixParams (takeAutomixParams_control t) (takeAutomixParams_control u)
  have hstep1 := htaken.step1
  have hlimit : Alongside k t.takeAutomixParams.step1.takeLimit u.takeAutomixParams.step1.takeLimit :=
    hstep1.of_sameGates hstep1.takeLimit (takeLimit_control _) (takeLimit_control _)
  exact ((hlimit.evict 24).grant 24).step4

/-! ### What the steps leave behind -/

section
variable (s : State)

theorem gatesMoved_params : s.gatesMoved.automixer.params = s.automixer.pendingParams.getD s.automixer.params ∧
    s.gatesMoved.automixer.pendingParams = none := by
  have hkept : ParamsKept s.takeAutomixParams s.gatesMoved :=
    (((step1_paramsKept _).trans (step2_paramsKept _)).trans (step3_paramsKept _)).trans (step4_paramsKept _)
  obtain ⟨hparams, hpending⟩ := hkept
  rw [hparams, hpending]
  unfold State.takeAutomixParams
  cases hp : s.automixer.pendingParams with
  | none => exact ⟨rfl, hp⟩
  | some q => exact ⟨rfl, rfl⟩

/-- R70: with no request collected, the requests under way collect none. -/
theorem request_collected (p : Pod) (h : s.automixer.collected = []) : (s.request p).1.automixer.collected = [] := by
  have hopened (t : State) (ht : t.automixer.collected = []) : (t.openGate p).automixer.collected = [] := by
    rw [State.openGate, State.gateEvent_automixer]
    show t.automixer.collected.filter _ = []
    rw [ht]
    rfl
  have hreleased (v : Pod) (c : GateCause) : (s.releaseGate v c).automixer.collected = [] := by
    rw [releaseGate_automixer]
    show s.automixer.collected.filter _ = []
    rw [h]
    rfl
  have hwaits : (s.enterWait p).automixer.collected = [] := by
    rw [State.enterWait, State.gateEvent_automixer]
    exact h
  unfold State.request
  split
  · exact hopened s h
  · split
    · exact hwaits
    · split
      · exact hopened _ (hreleased _ _)
      · exact hwaits

theorem step4_collected : s.step4.1.automixer.collected = [] := by
  unfold State.step4
  rw [requests_state]
  refine List.foldlRecOn (motive := fun t : State => t.automixer.collected = []) _ _ rfl fun t h p _ =>
    request_collected t p h

theorem gatesMoved_collected : s.gatesMoved.automixer.collected = [] := by
  rw [State.gatesMoved]
  exact step4_collected _

end

/-! ### The gate ramps (R78, R79) -/

/-- R78, R79: whether the automixer's work sets a gate ramp target. -/
abbrev Retargets (before s : State) (p : Pod) : Prop :=
  ((before.gate p).state ≠ (s.gate p).state ∨
    (before.automixer.params.offAttenuation ≠ s.automixer.params.offAttenuation ∧ ¬ (s.gate p).state.live)) ∧
  (s.mutes.reasons[p]).fault = false

/-- R78, R79: the gate ramp after the automixer's work. -/
def gateRampAfter (before s : State) (p : Pod) : Ramp :=
  if Retargets before s p then (s.ramps.gate[p]).calledFor s.automixer.params (s.gate p).state else s.ramps.gate[p]

/-- The state when the first `k` pods have had their targets. -/
def State.retargeted (s before : State) (k : Nat) : State :=
  { s with ramps := { s.ramps with
    gate := Vec.tab fun p => if p.1 < k then gateRampAfter before s p else s.ramps.gate[p] } }

theorem retargeted_gateRamp (before s : State) (p : Pod) : (s.retargeted before p.1).ramps.gate[p] = s.ramps.gate[p] := by
  simp [State.retargeted]

theorem retargeted_succ (before s : State) (p : Pod) :
    s.retargeted before (p.1 + 1) = { s with ramps := { s.ramps with
      gate := Vec.put (s.retargeted before p.1).ramps.gate p (gateRampAfter before s p) } } := by
  simp only [State.retargeted, Vec.put_tab_lt]

/-- The turn of a pod. -/
theorem retargetGate_retargeted (before s : State) (p : Pod) :
    (if (before.gate p).state ≠ (s.gate p).state ∨
        (before.automixer.params.offAttenuation ≠ s.automixer.params.offAttenuation ∧ ¬ (s.gate p).state.live) then
      (s.retargeted before p.1).retargetGate p else s.retargeted before p.1) = s.retargeted before (p.1 + 1) := by
  rw [retargeted_succ, gateRampAfter]
  have hsame : s.retargeted before p.1 =
      { s with ramps := { s.ramps with gate := Vec.put (s.retargeted before p.1).ramps.gate p s.ramps.gate[p] } } := by
    rw [← retargeted_gateRamp before s p, Vec.put_same]
    rfl
  split
  · rename_i hcond
    rw [State.retargetGate_eq]
    by_cases hf : (s.mutes.reasons[p]).fault = false
    swap
    · rw [if_pos (by exact (Bool.not_eq_false _).mp hf), if_neg fun h => hf h.2]
      exact hsame
    · rw [if_neg (by exact ne_true_of_eq_false hf), if_pos ⟨hcond, hf⟩, State.onGateRamp, retargeted_gateRamp]
      rfl
  · rename_i hcond
    rw [if_neg fun h => hcond h.1]
    exact hsame

theorem retargetAfter_eq (before s : State) :
    s.retargetAfter before = { s with ramps := { s.ramps with gate := Vec.tab (gateRampAfter before s) } } := by
  have hzero : s.retargeted before 0 = s := by simp [State.retargeted, -Fin.getElem_fin]
  have hall : s.retargeted before 24 = { s with ramps := { s.ramps with gate := Vec.tab (gateRampAfter before s) } } := by
    have hturn (p : Pod) : p.1 < 24 := p.2
    simp only [State.retargeted, hturn, if_true]
  rw [← hall]
  conv_lhs => rw [← hzero]
  exact foldl_finRange _ (s.retargeted before) (retargetGate_retargeted before s)

end Sys2Proof.Machine
end

section
/-! SUPPORT. A boundary at which no link changes state (R39): its takes touch no gate, no mute and no report. -/

namespace Sys2Proof.Machine

/-- The take of a link that makes no change of state. -/
theorem take_of_steady {s : State} {g : Progress} {p : Pod} (h : s.steadyAt p) (hl : g.state.links[p] = s.links[p])
    (hparams : g.state.linkParams = s.linkParams) :
    (g.take p).state = { g.state with
      links := Vec.put g.state.links p ((s.links[p]).boundary s.linkParams).1
      inputs := { g.state.inputs with
        pods := Vec.put g.state.inputs.pods p (g.state.linkYield p).samples } } ∧
      (g.take p).keys = Vec.put g.keys p ((s.links[p]).boundary s.linkParams).2.1.keys := by
  obtain ⟨hchanges, -⟩ := steadyAt_boundary h
  rw [← hl, ← hparams] at hchanges
  refine ⟨?_, ?_⟩
  · rw [Progress.take, linkBoundary_of_no_change hchanges, State.placeTake, ← hl, ← hparams]
  · rw [Progress.take, State.linkYield, hl, hparams]

/-- `u` has come from `t` with nothing of the gates touched, and with reports posted only. -/
structure GatesAside (t u : State) : Prop where
  automixer : u.automixer = t.automixer
  ramps : u.ramps.gate = t.ramps.gate
  detectors : u.detectors = t.detectors
  posts : Posts (fun _ => True) t.control u.control

theorem GatesAside.refl (t : State) : GatesAside t t := ⟨rfl, rfl, rfl, .none⟩

theorem GatesAside.trans {t u v : State} (h : GatesAside t u) (k : GatesAside u v) : GatesAside t v :=
  ⟨k.automixer.trans h.automixer, k.ramps.trans h.ramps, k.detectors.trans h.detectors, h.posts.trans k.posts⟩

theorem GatesAside.of_moves {A : List Part} {t u : State} (h : Moves A t u)
    (hA : .automixer ∉ A ∧ .gateRamps ∉ A ∧ .detectors ∉ A ∧ .control ∉ A) : GatesAside t u := by
  obtain ⟨hautomixer, hramps, hdetectors, hcontrol⟩ := hA
  exact ⟨h.frame .automixer hautomixer, h.frame .gateRamps hramps, h.frame .detectors hdetectors, h.frame .control hcontrol⟩

/-- What a quiet boundary leaves alone throughout its work: the reason sets, the talk-request list and the accepted levels,
no take having handed over another level. -/
structure Calm (s : State) (g : Progress) : Prop where
  params : g.state.linkParams = s.linkParams
  reasons : g.state.mutes.reasons = s.mutes.reasons
  talkList : g.state.mutes.talkList = s.mutes.talkList
  pressed : ∀ p : Pod, (g.state.mutes.talkKey[p]).pressed = (s.mutes.talkKey[p]).pressed ∧
    (g.state.mutes.allKey[p]).pressed = (s.mutes.allKey[p]).pressed
  keys : ∀ p : Pod, ∀ k ∈ g.keys[p], k.first = false ∧ k.talk = (s.mutes.talkKey[p]).pressed ∧
    k.all = (s.mutes.allKey[p]).pressed

section
variable {s : State} {g : Progress}

theorem Calm.of_kept {g' : Progress} (h : Calm s g) (hmutes : g'.state.mutes = g.state.mutes)
    (hparams : g'.state.linkParams = g.state.linkParams) (hkeys : g'.keys = g.keys) : Calm s g' := by
  refine ⟨hparams.trans h.params, ?_, ?_, ?_, ?_⟩
  · rw [hmutes]
    exact h.reasons
  · rw [hmutes]
    exact h.talkList
  · rw [hmutes]
    exact h.pressed
  · rw [hkeys]
    exact h.keys

theorem Calm.take (h : Calm s g) (hq : s.quiet) {p : Pod} (hl : g.state.links[p] = s.links[p]) :
    Calm s (g.take p) ∧ GatesAside g.state (g.take p).state := by
  obtain ⟨hsteady, hlevels⟩ := hq p
  obtain ⟨-, htaken⟩ := steadyAt_boundary hsteady
  obtain ⟨hstate, hkeys⟩ := take_of_steady hsteady hl h.params
  have hkept : Calm s { g with state := (g.take p).state } := h.of_kept (by rw [hstate]) (by rw [hstate]) rfl
  refine ⟨{ hkept with keys := fun r k hk => ?_ }, ?_⟩
  · rw [hkeys, Fin.getElem_fin, Vec.getElem_put] at hk
    split at hk
    · rename_i hr
      obtain rfl : p = r := Fin.ext hr
      obtain ⟨hfirst, hgiven⟩ := htaken k hk
      have := hlevels _ hgiven
      exact ⟨hfirst, congrArg Prod.fst this, congrArg Prod.snd this⟩
    · exact h.keys r k hk
  · rw [hstate]
    exact ⟨rfl, rfl, rfl, .none⟩

variable (before : State) (a : Arrivals)

theorem Calm.keysWork (h : Calm s g) :
    Calm s (g.work before a .keys) ∧ GatesAside g.state (g.work before a .keys).state := by
  have hstate : (g.work before a .keys).state = g.state.ageKeys := by
    rw [work_keys]
    refine takeKeys_of_pressed fun p k hk => ?_
    obtain ⟨hfirst, htalk, hall⟩ := h.keys p k hk
    obtain ⟨hagedTalk, hagedAll⟩ := ageKeys_pressed g.state p
    obtain ⟨hpressedTalk, hpressedAll⟩ := h.pressed p
    exact ⟨hfirst, by rw [htalk, hagedTalk, hpressedTalk], by rw [hall, hagedAll, hpressedAll]⟩
  refine ⟨⟨?_, ?_, ?_, fun p => ?_, h.keys⟩, ?_⟩
  · rw [hstate]
    exact h.params
  · rw [hstate]
    exact h.reasons
  · rw [hstate]
    exact h.talkList
  · rw [hstate, (ageKeys_pressed g.state p).1, (ageKeys_pressed g.state p).2]
    exact h.pressed p
  · rw [hstate]
    exact ⟨rfl, rfl, rfl, .none⟩

/-- No work but a take and the mute controller's passes touches what is told apart here. -/
theorem Calm.otherWork (h : Calm s g) {w : Work} (hw : .mutes ∉ partsOf w ∧ .linkParams ∉ partsOf w)
    (hkeys : (g.work before a w).keys = g.keys) : Calm s (g.work before a w) :=
  h.of_kept ((work_moves before a g w).frame .mutes hw.1) ((work_moves before a g w).frame .linkParams hw.2) hkeys

theorem Calm.work (h : Calm s g) (hq : s.quiet) {w : Work} (hw : w ≠ .automixer)
    (hl : ∀ p : Pod, w = .take p → g.state.links[p] = s.links[p]) :
    Calm s (g.work before a w) ∧ GatesAside g.state (g.work before a w).state := by
  cases w with
  | automixer => exact absurd rfl hw
  | take p =>
    rw [work_take]
    exact h.take hq (hl p rfl)
  | keys => exact h.keysWork before a
  | player n | levelControl | session =>
    refine ⟨h.otherWork before a ?_ (by simp only [Progress.work, Progress.onState]), .of_moves (work_moves before a g _) ?_⟩
    all_goals simp only [partsOf]; decide

theorem Calm.works (hq : s.quiet) {l : List Work} (hn : l.Nodup) (hl : .automixer ∉ l) (h : Calm s g)
    (hlinks : ∀ p : Pod, Work.take p ∈ l → g.state.links[p] = s.links[p]) :
    Calm s (l.foldl (Progress.work before a) g) ∧ GatesAside g.state (l.foldl (Progress.work before a) g).state := by
  induction l generalizing g with
  | nil => exact ⟨h, .refl _⟩
  | cons w rest ih =>
    obtain ⟨hw, hrest⟩ := List.nodup_cons.1 hn
    rw [List.mem_cons, not_or] at hl
    obtain ⟨hcalm, haside⟩ := h.work before a hq (Ne.symm hl.1) fun p hp => hlinks p (by rw [hp]; exact List.mem_cons_self)
    obtain ⟨hcalm', haside'⟩ := ih hrest hl.2 hcalm fun p hp => by
      have hne : w ≠ .take p := fun he => hw (by rw [he]; exact hp)
      rw [(work_podKept before a g hne).1]
      exact hlinks p (List.mem_cons_of_mem w hp)
    exact ⟨hcalm', haside.trans haside'⟩

end

theorem calm_begun (s : State) : Calm s s.workStart := by
  rw [State.workStart, begun_eq]
  exact ⟨rfl, rfl, rfl, fun _ => ⟨rfl, rfl⟩, fun p k hk => by simp at hk⟩

/-- R78, R79: what the automixer's work sets, where it reads the same and moves the gates alike. -/
theorem SameGates.gateRampAfter {t u t' u' : State} (h : SameGates t u) (h' : SameGates t' u') (p : Pod) :
    Machine.gateRampAfter t t' p = if Retargets u u' p then
      (t'.ramps.gate[p]).calledFor u'.automixer.params (u'.gate p).state else t'.ramps.gate[p] := by
  have hsame : Retargets t t' p ↔ Retargets u u' p := by
    rw [Retargets, Retargets, h'.gate p, h'.automixer, h'.reasons, h.gate p, h.automixer]
  exact if_congr hsame (by rw [h'.gate p, h'.automixer]) rfl

theorem gatesMoved_moves (s : State) : Moves [.automixer] s s.gatesMoved :=
  ((((takeAutomixParams_moves s).trans (step1_moves _)).trans (step2_moves _)).trans (step3_moves _)).trans (step4_moves _)

theorem gatesMoved_gateRamps (s : State) : s.gatesMoved.ramps.gate = s.ramps.gate :=
  (gatesMoved_moves s).frame .gateRamps (by decide)

theorem automix_state (s : State) : s.automix.1 = s.gatesMoved.retargetAfter s := by
  rw [State.automix, State.gatesMoved]

/-- R78, R79: the automixer's work moves the gates, posts their reports, and sets the ramps. -/
theorem automixerWork_gates (s : State) :
    s.automixerWork.automixer = s.gatesMoved.automixer ∧
      s.automixerWork.ramps.gate = Vec.tab (gateRampAfter s s.gatesMoved) ∧
      Posts (fun _ => True) s.gatesMoved.control s.automixerWork.control := by
  rw [State.automixerWork, automix_state, retargetAfter_eq]
  generalize s.gatesMoved = u
  generalize hv : ({ u with ramps := { u.ramps with gate := Vec.tab (gateRampAfter s u) } } : State) = v
  generalize s.automix.2 = granted
  have hgrants := grantsToPlayers_moves v granted
  have hautomixer : (State.grantsToPlayers granted v).automixer = v.automixer := hgrants.frame .automixer (by decide)
  have hramps : (State.grantsToPlayers granted v).ramps.gate = v.ramps.gate := hgrants.frame .gateRamps (by decide)
  have hposts : Posts (fun _ => True) v.control (State.grantsToPlayers granted v).control :=
    hgrants.frame .control (by decide)
  rw [hautomixer, hramps]
  subst hv
  exact ⟨rfl, rfl, hposts⟩

/-! ### The end of the boundary -/

/-- The gates of a boundary are those that its work leaves. -/
theorem boundary_gates (order : List Work) (trunks : Vector Frame 4) (s : State) :
    (s.boundary order trunks).automixer = (s.worked order).automixer ∧
      (∀ p : Pod, (s.boundary order trunks).ramps.gate[p] = ((s.worked order).ramps.gate[p]).comeInForce) ∧
      Posts (fun _ => True) (s.worked order).control (s.boundary order trunks).control := by
  have hready := ready_moves order trunks s
  have hautomixer : (s.ready order trunks).automixer = (s.worked order).automixer := hready.frame .automixer (by decide)
  have hramps : (s.ready order trunks).ramps.gate = (s.worked order).ramps.gate := hready.frame .gateRamps (by decide)
  have hposts : Posts (fun _ => True) (s.worked order).control (s.ready order trunks).control :=
    hready.frame .control (by decide)
  rw [boundary_eq, openPeriod_ramps]
  generalize s.ready order trunks = u at hautomixer hramps hposts
  refine ⟨hautomixer, fun p => ?_, hposts⟩
  rw [← hramps]
  exact Vec.getElem_tab _ _ p.2

/-- R107: but for the indicators, the mutes of a boundary are those that its work leaves. -/
theorem boundary_mutes (order : List Work) (trunks : Vector Frame 4) (s : State) :
    ∃ led : Vector Led 24, (s.boundary order trunks).mutes = { (s.worked order).mutes with led := led } := by
  obtain ⟨-, -, -, hmutes, -, -⟩ := boundary_fields order trunks s
  have hducked : ((s.worked order).judgeDucks s).mutes = (s.worked order).mutes :=
    (judgeDucks_moves _ s).frame .mutes (by decide)
  have hleds (u : State) : ∃ led : Vector Led 24,
      ((u.placeTrunks trunks).measureAll.giveLeds s).mutes = { u.mutes with led := led } := ⟨_, rfl⟩
  rw [hmutes, ← hducked]
  exact hleds ((s.worked order).judgeDucks s)

/-- The automixer's work at a quiet boundary, and nothing else that touches a gate or a reason set. -/
theorem worked_of_quiet (order : List Work) {s : State} (hq : s.quiet) :
    ∃ u : State, GatesAside s.begun u ∧ u.mutes.reasons = s.mutes.reasons ∧
      GatesAside u.automixerWork (s.worked order) ∧ (s.worked order).mutes.reasons = s.mutes.reasons ∧
      (s.worked order).mutes.talkList = s.mutes.talkList := by
  obtain ⟨l₁, l₂, hsched, h₁, h₂⟩ := schedule_split .automixer order
  have hn := nodup_schedule order
  rw [hsched, List.nodup_middle, List.nodup_cons] at hn
  obtain ⟨-, hn⟩ := hn
  have hbegun : s.workStart.state.links = s.links := by rw [State.workStart, begun_eq]
  have hearly := (calm_begun s).works s s.closePeriod.ramps.arrivals hq hn.of_append_left h₁ fun p _ => by rw [hbegun]
  have hkept (p : Pod) (hp : Work.take p ∉ l₁) := works_podKept s s.closePeriod.ramps.arrivals s.workStart l₁ hp
  rw [worked_eq, hsched, List.foldl_append, List.foldl_cons]
  generalize l₁.foldl (Progress.work s s.closePeriod.ramps.arrivals) s.workStart = g at hearly hkept
  obtain ⟨hcalm, haside⟩ := hearly
  have hcalm' : Calm s (g.work s s.closePeriod.ramps.arrivals .automixer) :=
    hcalm.otherWork s _ (by simp only [partsOf]; decide) (by simp only [Progress.work, Progress.onState])
  obtain ⟨hdone, haside'⟩ := hcalm'.works s s.closePeriod.ramps.arrivals hq hn.of_append_right h₂ fun p hp => by
    rw [(work_podKept s _ g (by simp)).1, (hkept p fun h => List.disjoint_of_nodup_append hn h hp).1, hbegun]
  rw [work_automixer] at haside'
  exact ⟨g.state, haside, hcalm.reasons, haside', hdone.reasons, hdone.talkList⟩

/-- A quiet boundary runs the automixer's steps on the automixer as it stands. -/
theorem boundary_of_quiet_gates (order : List Work) (trunks : Vector Frame 4) {s : State} (hq : s.quiet) :
    let t := s.boundary order trunks
    t.automixer = s.gatesMoved.automixer ∧ t.mutes.reasons = s.mutes.reasons ∧ t.mutes.talkList = s.mutes.talkList ∧
      Control.Carries s.control.queue.length t.control s.gatesMoved.control ∧
      ∀ p : Pod, t.ramps.gate[p] = (if Retargets s s.gatesMoved p then
          ((s.ramps.gate[p]).passed s.inForce.isSome).calledFor s.gatesMoved.automixer.params (s.gatesMoved.gate p).state
        else (s.ramps.gate[p]).passed s.inForce.isSome).comeInForce := by
  intro t
  obtain ⟨u, hbefore, hureasons, hafter, hreasons, htalk⟩ := worked_of_quiet order hq
  obtain ⟨hautomixer, hramps, hposts⟩ := boundary_gates order trunks s
  obtain ⟨led, hmutes⟩ := boundary_mutes order trunks s
  obtain ⟨hmoved, hset, htold⟩ := automixerWork_gates u
  rw [begun_eq] at hbefore
  have halong : Alongside s.control.queue.length u s :=
    { automixer := hbefore.automixer, detectors := hbefore.detectors, reasons := hureasons
      mask := hbefore.posts.mask_eq
      reports := .inr fun m hm => by rw [List.drop_length] at hm; cases hm
      length := le_rfl }
  have hgates := halong.gatesMoved
  refine ⟨?_, ?_, ?_, ?_, fun p => ?_⟩
  · rw [hautomixer, hafter.automixer, hmoved, hgates.automixer]
  · rw [hmutes]
    exact hreasons
  · rw [hmutes]
    exact htalk
  · exact ((hgates.reports.of_posts htold).of_posts hafter.posts).of_posts hposts
  · rw [hramps, hafter.ramps, hset, Fin.getElem_fin, Vec.getElem_tab]
    rw [halong.toSameGates.gateRampAfter hgates.toSameGates, gatesMoved_gateRamps, hbefore.ramps]
    simp [Ramps.map]

end Sys2Proof.Machine
end

section
/-! The automixer's work at a quiet boundary (R64, R78, R79): the first part of O24. -/

namespace Sys2Proof.Machine

theorem GateState.not_live_iff (g : GateState) : ¬ g.live = true ↔ g = .closed ∨ g = .pending ∨ g = .waiting := by
  cases g <;> simp [GateState.live]

/-- R78: the target for a gate state, by whether it rests. -/
theorem Ramp.calledFor_eq (q : AutomixParams) (g : GateState) (r : Ramp) :
    r.calledFor q g = if g = .closed ∨ g = .pending ∨ g = .waiting then r.setTarget (lin15 q.offAttenuation) q.release
      else r.setTarget 32768 q.attack := by
  cases g <;> simp [Ramp.calledFor]

theorem gatesMoved_mutes (s : State) : s.gatesMoved.mutes = s.mutes :=
  (gatesMoved_moves s).frame .mutes (by decide)

/-- O24, the boundary: in whatever order the blocks work, the four steps act on the automixer as it stands. -/
theorem automixerWork_at_quiet_boundary (order : List Work) (trunks : Vector Frame 4) (s : State) (hs : s.outOfReset)
    (hquiet : s.quiet) :
    let last := s.gatesMoved
    let q := s.automixer.pendingParams.getD s.automixer.params
    ∃ t : State, exec (.mixPeriodBoundary order trunks) s = .next t ∧ t.automixer = last.automixer ∧
      t.automixer.params = q ∧ t.automixer.pendingParams = none ∧ t.automixer.collected = [] ∧
      t.mutes.reasons = s.mutes.reasons ∧ t.mutes.talkList = s.mutes.talkList ∧
      (∀ m ∈ last.control.queue.drop s.control.queue.length, t.control.lost = true ∨
        ∃ flags : Byte, { m with payload := flags :: m.payload.drop 1 } ∈ t.control.queue) ∧
      ∀ p : Pod,
        let rests := (t.gate p).state = .closed ∨ (t.gate p).state = .pending ∨ (t.gate p).state = .waiting
        let changed := (t.gate p).state ≠ (s.gate p).state ∨
          (q.offAttenuation ≠ s.automixer.params.offAttenuation ∧ rests)
        let ramp := (s.ramps.gate[p]).passed s.inForce.isSome
        t.ramps.gate[p] = (if (s.mutes.reasons[p]).fault = true ∨ ¬ changed then ramp
          else if rests then ramp.setTarget (lin15 q.offAttenuation) q.release
          else ramp.setTarget 32768 q.attack).comeInForce := by
  intro last q
  obtain ⟨hautomixer, hreasons, htalk, hreports, hramps⟩ := boundary_of_quiet_gates order trunks hquiet
  obtain ⟨hparams, hpending⟩ := gatesMoved_params s
  have hcollected := gatesMoved_collected s
  have hmoved : s.gatesMoved.mutes = s.mutes := gatesMoved_mutes s
  refine ⟨_, exec_boundary hs order trunks, ?_⟩
  generalize s.boundary order trunks = t at hautomixer hreasons htalk hreports hramps
  have hlast : last = s.gatesMoved := rfl
  clear_value last
  rw [← hlast] at hautomixer hreports hramps hparams hpending hcollected hmoved
  clear hlast
  refine ⟨hautomixer, ?_, ?_, ?_, hreasons, htalk, fun m hm => ?_, fun p => ?_⟩
  · rw [hautomixer]
    exact hparams
  · rw [hautomixer]
    exact hpending
  · rw [hautomixer]
    exact hcollected
  · rcases hreports with hfull | hstands
    · exact .inl hfull.1
    · exact .inr (hstands m hm)
  · intro rests changed ramp
    have hgate : last.gate p = t.gate p := congrArg (fun a : Automixer => a.gates[p]) hautomixer.symm
    have hset : ¬ Retargets s last p ↔ (s.mutes.reasons[p]).fault = true ∨ ¬ changed := by
      rw [Retargets, hgate, GateState.not_live_iff, hparams, hmoved, not_and_or, Bool.not_eq_false, or_comm]
      exact or_congr_right (not_congr (or_congr ne_comm (and_congr_left' ne_comm)))
    have htarget : ramp.calledFor last.automixer.params (last.gate p).state =
        if rests then ramp.setTarget (lin15 q.offAttenuation) q.release else ramp.setTarget 32768 q.attack := by
      rw [hparams, hgate, Ramp.calledFor_eq]
    rw [hramps p, ← ite_not]
    exact congrArg Ramp.comeInForce (if_congr hset rfl htarget)

end Sys2Proof.Machine
end

section
/-! SUPPORT. Several gates moved to one state, one after another (R66 to R72), and the orders in which the automixer takes
its channels (R70 to R72). -/

namespace Sys2Proof.Machine

/-! ### Gates moved one after another -/

/-- The gates of the channels of a list moved to a state, each reported. -/
def State.moveGates (st : GateState) (c : GateCause) (l : List Pod) (s : State) : State :=
  l.foldl (fun t p => (t.gateTo p st).gateEvent p (t.gate p).state st c) s

/-- R84: the report of a gate moved. -/
def gateReport (s : State) (st : GateState) (c : GateCause) (p : Pod) : Report :=
  (.gate, 0xE5, [podByte p, (s.gate p).state.code, st.code, c.code])

section
variable (st : GateState) (c : GateCause)

theorem gateTo_gateEvent_eq (p : Pod) (s : State) :
    (s.gateTo p st).gateEvent p (s.gate p).state st c =
      { s with automixer := (s.gateTo p st).automixer, control := s.control.report (gateReport s st c p) } := by
  rw [State.gateTo, RosterChange.setGateState_dequeueGate]
  exact post_eq_reported (gateReport s st c p) _

/-- Distinct channels: each gate moves from the state in which it was found. -/
theorem moveGates_eq {l : List Pod} (hn : l.Nodup) (s : State) :
    s.moveGates st c l = { s with
      automixer := { s.automixer with
        gates := Vec.tab fun p => if p ∈ l then { s.gate p with state := st, count := 0 } else s.gate p
        waitQueue := s.automixer.waitQueue.filter fun p => decide (p ∉ l)
        collected := s.automixer.collected.filter fun p => decide (p ∉ l) }
      control := (l.map (gateReport s st c)).foldl Control.report s.control } := by
  induction l generalizing s with
  | nil => simp [State.moveGates, State.gate, -Fin.getElem_fin]
  | cons p rest ih =>
    obtain ⟨hp, hrest⟩ := List.nodup_cons.1 hn
    let t : State := { s with automixer := (s.gateTo p st).automixer, control := s.control.report (gateReport s st c p) }
    have hgate (q : Pod) : t.gate q = if q = p then { s.gate p with state := st, count := 0 } else s.gate q := gateTo_gate p st s q
    have hgates : (Vec.tab fun q => if q ∈ rest then { t.gate q with state := st, count := 0 } else t.gate q : Vector Gate 24) =
        Vec.tab fun q => if q ∈ p :: rest then { s.gate q with state := st, count := 0 } else s.gate q := by
      refine congrArg Vec.tab (funext fun q => ?_)
      by_cases hq : q = p
      · subst hq
        rw [if_neg hp, if_pos List.mem_cons_self, hgate, if_pos rfl]
      · rw [hgate, if_neg hq]
        exact if_congr (by rw [List.mem_cons, or_iff_right hq]) rfl rfl
    have hfilter (l : List Pod) : ((l.filter (· ≠ p)).filter fun q => decide (q ∉ rest)) =
        l.filter fun q => decide (q ∉ p :: rest) := by
      rw [List.filter_filter]
      refine List.filter_congr fun q _ => ?_
      rw [← Bool.decide_and, decide_eq_decide, List.mem_cons, not_or, and_comm]
    have hreports : rest.map (gateReport t st c) = rest.map (gateReport s st c) := by
      refine List.map_congr_left fun q hq => ?_
      rw [gateReport, hgate, if_neg (ne_of_mem_of_not_mem hq hp), gateReport]
    calc s.moveGates st c (p :: rest) = t.moveGates st c rest := by
          rw [State.moveGates, List.foldl_cons, gateTo_gateEvent_eq, State.moveGates]
      _ = _ := by
          rw [ih hrest t, hgates, hreports, show t.automixer.waitQueue = _ from gateTo_waitQueue p st s,
            show t.automixer.collected = _ from gateTo_collected p st s, hfilter, hfilter]
          rfl

variable {l : List Pod} (hn : l.Nodup) (s : State)
include hn

theorem moveGates_gate (p : Pod) :
    (s.moveGates st c l).gate p = if p ∈ l then { s.gate p with state := st, count := 0 } else s.gate p := by
  rw [moveGates_eq st c hn]
  exact Vec.getElem_tab _ _ p.2

theorem moveGates_waitQueue :
    (s.moveGates st c l).automixer.waitQueue = s.automixer.waitQueue.filter fun p => decide (p ∉ l) := by
  rw [moveGates_eq st c hn]

theorem moveGates_collected :
    (s.moveGates st c l).automixer.collected = s.automixer.collected.filter fun p => decide (p ∉ l) := by
  rw [moveGates_eq st c hn]

/-- R62: gates that leave the holders' states. -/
theorem moveGates_holders (hst : st.holds = false) :
    (s.moveGates st c l).holders = s.holders.filter fun p => decide (p ∉ l) := by
  simp only [State.holders, List.filter_filter, moveGates_gate st c hn]
  refine List.filter_congr fun p _ => ?_
  by_cases hp : p ∈ l <;> simp [hp, hst]

end

theorem moveGates_closed_cons (c : GateCause) (p : Pod) (l : List Pod) (s : State) :
    s.moveGates .closed c (p :: l) = (s.releaseGate p c).moveGates .closed c l := rfl

theorem moveGates_opened_cons (p : Pod) (l : List Pod) (s : State) :
    s.moveGates .opened .grant (p :: l) = (s.openGate p).moveGates .opened .grant l := rfl

/-! ### The orders (R70, R71) -/

/-- What the victim order compares (R71): priority, HOLD before OPEN, S, and the pod number, the higher first. -/
def victimKey (s : State) (p : Pod) : ℕ ×ₗ (ℕ ×ₗ (ℤ ×ₗ Podᵒᵈ)) :=
  toLex ((s.gate p).priority, toLex (if (s.gate p).state = .hold then 0 else 1, toLex (s.smoothedOf p, OrderDual.toDual p)))

/-- What the order of requests compares (R70): the higher priority first, the higher S first, and the pod number. -/
def requestKey (s : State) (p : Pod) : ℕᵒᵈ ×ₗ (ℤᵒᵈ ×ₗ Pod) :=
  toLex (OrderDual.toDual (s.gate p).priority, toLex (OrderDual.toDual (s.smoothedOf p), p))

section
variable {s : State} {a b : Pod}

theorem victimKey_lt_iff : victimKey s a < victimKey s b ↔
    (s.gate a).priority < (s.gate b).priority ∨ ((s.gate a).priority = (s.gate b).priority ∧
      ((if (s.gate a).state = .hold then 0 else 1) < (if (s.gate b).state = .hold then 0 else 1) ∨
        ((if (s.gate a).state = .hold then 0 else 1) = (if (s.gate b).state = .hold then 0 else 1) ∧
          (s.smoothedOf a < s.smoothedOf b ∨ (s.smoothedOf a = s.smoothedOf b ∧ b < a))))) := by
  simp [victimKey, Prod.Lex.toLex_lt_toLex]

theorem requestKey_lt_iff : requestKey s a < requestKey s b ↔
    (s.gate b).priority < (s.gate a).priority ∨ ((s.gate a).priority = (s.gate b).priority ∧
      (s.smoothedOf b < s.smoothedOf a ∨ (s.smoothedOf a = s.smoothedOf b ∧ a < b))) := by
  simp [requestKey, Prod.Lex.toLex_lt_toLex]

theorem victimKey_injective (s : State) : Function.Injective (victimKey s) := fun a b h => by
  simpa [victimKey] using congrArg (fun k => (ofLex (ofLex (ofLex k).2).2).2) h

theorem requestKey_injective (s : State) : Function.Injective (requestKey s) := fun a b h => by
  simpa [requestKey] using congrArg (fun k => (ofLex (ofLex k).2).2) h

/-- R71, between holders. -/
theorem victimBefore_iff (ha : a ∈ s.holders) (hb : b ∈ s.holders) :
    s.victimBefore a b = true ↔ victimKey s a ≤ victimKey s b := by
  rw [← not_lt, victimKey_lt_iff]
  unfold State.victimBefore
  have hstate {p : Pod} (hp : p ∈ s.holders) : (s.gate p).state = .hold ∨ (s.gate p).state = .opened := by
    rw [mem_holders] at hp
    revert hp
    cases (s.gate p).state <;> simp [GateState.holds]
  rcases hstate ha with ha | ha <;> rcases hstate hb with hb | hb
  all_goals
    simp only [ha, hb, ne_eq, ite_not, Fin.lt_def]
    split_ifs <;> simp only [decide_eq_true_eq] <;> simp <;> omega

theorem requestBefore_iff : s.requestBefore a b = true ↔ requestKey s a ≤ requestKey s b := by
  rw [← not_lt, requestKey_lt_iff]
  unfold State.requestBefore
  simp only [ne_eq, ite_not, Fin.lt_def]
  split_ifs <;> simp only [decide_eq_true_eq] <;> omega

end

/-- Distinct pods sorted by a key. -/
theorem sortPods_pairwise {K : Type} [LinearOrder K] {before : Pod → Pod → Bool} {key : Pod → K} (hkey : Function.Injective key)
    {l : List Pod} (hn : l.Nodup) (h : ∀ a ∈ l, ∀ b ∈ l, (before a b = true ↔ key a ≤ key b)) :
    (sortPods before l).Pairwise fun a b => key a < key b := by
  have hsorted : ((sortPods before l).map key).Pairwise (· ≤ ·) := by
    rw [sortPods, List.map_insertionSort (r := fun a b => before a b = true) (s := (· ≤ ·)) key l h]
    exact List.pairwise_insertionSort _ _
  have hnodup : (sortPods before l).Nodup := (List.perm_insertionSort _ l).nodup_iff.2 hn
  rw [List.pairwise_map] at hsorted
  exact (hsorted.and hnodup).imp fun ⟨hle, hne⟩ => lt_of_le_of_ne hle fun e => hne (hkey e)

end Sys2Proof.Machine
end

section
/-! Step 1 of the automixer's work (R63, R65 to R68, R84): the second part of O24. -/

namespace Sys2Proof.Machine

/-! ### The judgement's marks -/

section
variable (s : State) (p : Pod)

/-- R63: the channel is below. -/
theorem above_eq_false_iff : s.above p = false ↔
    ¬ ((s.detectors[podChannel p]).noiseFloor + s.automixer.params.margin ≤ (s.detectors[podChannel p]).smoothed ∧
      s.automixer.params.gateFloor ≤ (s.detectors[podChannel p]).smoothed) := by
  rw [← above_iff, Bool.not_eq_true]

theorem eligible_iff : s.eligible p = true ↔ (s.mutes.reasons[p]).muted = false := by
  simp [State.eligible]

/-- R64: a channel in mode BYPASS is not judged. -/
theorem judgeGate_of_bypass (h : (s.gate p).mode = .bypass ∨ (s.gate p).state = .bypass) :
    s.judgeGate p = (s.gate p, .none) := by
  rw [State.judgeGate]
  rcases h with h | h
  · rw [h]
  · cases (s.gate p).mode with
    | bypass => rfl
    | auto => simp [Gate.judge, h]

/-- R66: a hold count that has reached the hold frames. -/
theorem holdFrames_le_nextHoldCount (f n : Nat) : f ≤ nextHoldCount f n ↔ f ≤ n + 1 := by
  unfold nextHoldCount
  split <;> omega

section
variable (q : AutomixParams) (above eligible : Bool) (g : Gate)

theorem judge_timeout_iff : (g.judge q above eligible).2 = .timeout ↔
    g.state = .waiting ∧ above = false ∧ q.holdFrames ≤ g.count + 1 := by
  unfold Gate.judge
  cases above <;> cases eligible <;> cases g.state <;> simp [ite_eq_iff]

theorem judge_expired_iff : (g.judge q above eligible).2 = .expired ↔
    above = false ∧ ((g.state = .opened ∧ q.holdFrames ≤ 1) ∨ (g.state = .hold ∧ q.holdFrames ≤ g.count + 1)) := by
  unfold Gate.judge
  cases above <;> cases eligible <;> cases g.state <;> simp [ite_eq_iff, holdFrames_le_nextHoldCount]

/-- R66: an expired channel is in HOLD. -/
theorem judge_state_of_expired (h : (g.judge q above eligible).2 = .expired) :
    (g.judge q above eligible).1.state = .hold := by
  obtain ⟨rfl, hstate⟩ := (judge_expired_iff q above eligible g).1 h
  unfold Gate.judge
  rcases hstate with ⟨hg, -⟩ | ⟨hg, -⟩ <;> simp [hg]

theorem judge_kept : (g.judge q above eligible).1.mode = g.mode ∧ (g.judge q above eligible).1.priority = g.priority := by
  unfold Gate.judge
  cases above <;> cases eligible <;> cases g.state <;> exact ⟨rfl, rfl⟩

end

/-- A mark other than none is of a channel in mode AUTO. -/
theorem judgeGate_mark_iff {m : GateMark} (h : m ≠ .none) : (s.judgeGate p).2 = m ↔
    (s.gate p).mode = .auto ∧ ((s.gate p).judge s.automixer.params (s.above p) (s.eligible p)).2 = m := by
  rw [State.judgeGate]
  cases (s.gate p).mode with
  | auto => simp
  | bypass => simpa using h.symm

theorem judgeGate_kept : (s.judgeGate p).1.mode = (s.gate p).mode ∧ (s.judgeGate p).1.priority = (s.gate p).priority := by
  rw [State.judgeGate]
  split
  · exact judge_kept _ _ _ _
  · exact ⟨rfl, rfl⟩

theorem judgeGate_state_of_expired (h : (s.judgeGate p).2 = .expired) : (s.judgeGate p).1.state = .hold := by
  obtain ⟨hauto, hmark⟩ := (judgeGate_mark_iff s p (by decide)).1 h
  rw [judgeGate_of_auto p s hauto]
  exact judge_state_of_expired _ _ _ _ hmark

theorem mem_marked {m : GateMark} {l : List Pod} : p ∈ s.marked m l ↔ p ∈ l ∧ (s.judgeGate p).2 = m := by
  simp [State.marked]

end

/-! ### The expiries (R67) -/

/-- R67: the hold expiries close their gates but for the last, where the last-mic hold keeps it; it keeps one holder. -/
theorem foldl_expire {l : List Pod} (hn : l.Nodup) {s : State} (hl : ∀ p ∈ l, p ∈ s.holders) :
    ∃ released : List Pod, l.foldl State.expire s = s.moveGates .closed .released released ∧
      (released = l ∨ ∃ p : Pod, l = released ++ [p] ∧ (s.moveGates .closed .released released).lastMicKeeps p = true) ∧
      (s.automixer.params.lastMicHold = true → s.holders ≠ [] → s.automixer.waitQueue = [] →
        (s.moveGates .closed .released released).holders ≠ []) := by
  induction l generalizing s with
  | nil => exact ⟨[], rfl, .inl rfl, fun _ h _ => h⟩
  | cons p rest ih =>
    obtain ⟨hp, hrest⟩ := List.nodup_cons.1 hn
    by_cases hkeep : s.lastMicKeeps p = true
    · have hholders : s.holders = [p] := by
        simp only [State.lastMicKeeps, Bool.and_eq_true, beq_iff_eq] at hkeep
        exact hkeep.1.2
      have hnil : rest = [] := List.eq_nil_iff_forall_not_mem.2 fun q hq => by
        have := hl q (List.mem_cons_of_mem p hq)
        rw [hholders, List.mem_singleton] at this
        exact hp (this ▸ hq)
      subst hnil
      exact ⟨[], expire_of_kept p s hkeep, .inr ⟨p, rfl, hkeep⟩, fun _ h _ => h⟩
    · have hgo := (Bool.not_eq_true _).mp hkeep
      have hholders := releaseGate_holders p .released s
      obtain ⟨released, hfold, hall, hlast⟩ := ih hrest (s := s.releaseGate p .released) fun q hq => by
        rw [hholders, List.mem_filter]
        exact ⟨hl q (List.mem_cons_of_mem p hq), by simpa using fun e : q = p => hp (e ▸ hq)⟩
      refine ⟨p :: released, ?_, ?_, fun hmic hsome hwait => ?_⟩
      · rw [List.foldl_cons, expire_of_not_kept p s hgo, hfold, moveGates_closed_cons]
      · rw [moveGates_closed_cons]
        rcases hall with rfl | ⟨q, rfl, hq⟩
        · exact .inl rfl
        · exact .inr ⟨q, rfl, hq⟩
      · rw [moveGates_closed_cons]
        have hauto := releaseGate_automixer p .released s
        refine hlast (by rw [hauto]; exact hmic) (fun hnone => ?_) (by rw [hauto]; simp [State.setGateState, State.dequeueGate, hwait])
        have hone : s.holders = [p] := by
          rw [hholders, List.filter_eq_nil_iff] at hnone
          have hmem := hl p List.mem_cons_self
          refine List.perm_singleton.1 ((List.perm_ext_iff_of_nodup (nodup_holders s) (List.nodup_singleton p)).2 fun q => ?_)
          rw [List.mem_singleton]
          exact ⟨fun hq => by simpa using hnone q hq, fun e => e ▸ hmem⟩
        rw [State.lastMicKeeps, hone, hmic, hwait] at hgo
        simp at hgo

/-! ### Step 1 -/

section
variable (s : State)

/-- R68: the channels whose wait ends. -/
def State.timedOut : List Pod := s.marked .timeout s.automixer.waitQueue

/-- The state after the judgements and the wait timeouts. -/
def State.waitsEnded : State := s.judgeGates.moveGates .closed .timeout s.timedOut

theorem nodup_marked (m : GateMark) {l : List Pod} (h : l.Nodup) : (s.marked m l).Nodup := h.filter _

theorem judgeGates_gate (p : Pod) : s.judgeGates.gate p = (s.judgeGate p).1 := Vec.getElem_tab _ _ p.2

theorem step1_eq : s.step1 =
    (sortPods s.waitsEnded.victimBefore (s.marked .expired allPods)).foldl State.expire s.waitsEnded := rfl

end

section
variable {s : State} (hs : GatesSound s)
include hs

theorem GatesSound.nodup_timedOut : s.timedOut.Nodup := by
  obtain ⟨-, hqueue, -⟩ := hs
  exact nodup_marked s .timeout hqueue

/-- R68, R72: a channel whose wait ends is one of the queue. -/
theorem GatesSound.mem_timedOut_iff (p : Pod) : p ∈ s.timedOut ↔ (s.judgeGate p).2 = .timeout := by
  obtain ⟨-, -, hwait, -⟩ := hs
  rw [State.timedOut, mem_marked, hwait]
  refine and_iff_right_of_imp fun h => ?_
  exact ((judge_timeout_iff _ _ _ _).1 ((judgeGate_mark_iff s p (by decide)).1 h).2).1

theorem GatesSound.waitsEnded_gate (p : Pod) :
    s.waitsEnded.gate p = if p ∈ s.timedOut then { s.gate p with state := .closed, count := 0 } else (s.judgeGate p).1 := by
  obtain ⟨hmode, hpriority⟩ := judgeGate_kept s p
  rw [State.waitsEnded, moveGates_gate _ _ hs.nodup_timedOut, judgeGates_gate]
  exact if_congr Iff.rfl (by simp only [hmode, hpriority]) rfl

theorem GatesSound.waitsEnded_gate_of_expired {p : Pod} (h : (s.judgeGate p).2 = .expired) :
    s.waitsEnded.gate p = (s.judgeGate p).1 := by
  rw [hs.waitsEnded_gate, if_neg fun hp => ?_]
  rw [hs.mem_timedOut_iff, h] at hp
  cases hp

theorem GatesSound.expired_holds {p : Pod} (h : (s.judgeGate p).2 = .expired) : p ∈ s.waitsEnded.holders := by
  rw [mem_holders, hs.waitsEnded_gate_of_expired h, judgeGate_state_of_expired s p h]
  rfl

/-- R67, R71: what the expiries release, in victim order, and what the last-mic hold keeps. -/
theorem GatesSound.step1_released : ∃ released : List Pod,
    s.step1 = s.waitsEnded.moveGates .closed .released released ∧
    released.Pairwise (fun v w => victimKey s.waitsEnded v < victimKey s.waitsEnded w) ∧
    (∀ p ∈ released, (s.judgeGate p).2 = .expired) ∧
    (∀ p : Pod, (s.judgeGate p).2 = .expired → p ∉ released →
      (∀ w ∈ released, victimKey s.waitsEnded w < victimKey s.waitsEnded p) ∧ s.step1.lastMicKeeps p = true) ∧
    (s.waitsEnded.automixer.params.lastMicHold = true → s.waitsEnded.holders ≠ [] → s.waitsEnded.automixer.waitQueue = [] →
      s.step1.holders ≠ []) := by
  have hmem (p : Pod) : p ∈ s.marked .expired allPods ↔ (s.judgeGate p).2 = .expired := by
    rw [mem_marked, and_iff_right (mem_allPods p)]
  have hperm : (sortPods s.waitsEnded.victimBefore (s.marked .expired allPods)).Perm (s.marked .expired allPods) :=
    List.perm_insertionSort _ _
  have hnodup : (s.marked .expired allPods).Nodup := nodup_marked s .expired (List.nodup_finRange 24)
  have hsorted : (sortPods s.waitsEnded.victimBefore (s.marked .expired allPods)).Pairwise
      fun v w => victimKey s.waitsEnded v < victimKey s.waitsEnded w :=
    sortPods_pairwise (victimKey_injective _) hnodup fun a ha b hb =>
      victimBefore_iff (hs.expired_holds ((hmem a).1 ha)) (hs.expired_holds ((hmem b).1 hb))
  rw [step1_eq]
  generalize sortPods s.waitsEnded.victimBefore (s.marked .expired allPods) = l at hperm hsorted
  have hexpired (p : Pod) : p ∈ l ↔ (s.judgeGate p).2 = .expired := hperm.mem_iff.trans (hmem p)
  obtain ⟨released, hfold, hall, hlast⟩ := foldl_expire (hperm.nodup_iff.2 hnodup) (s := s.waitsEnded) fun p hp =>
    hs.expired_holds ((hexpired p).1 hp)
  rw [hfold]
  refine ⟨released, rfl, ?_, ?_, ?_, hlast⟩
  all_goals rcases hall with rfl | ⟨k, rfl, hk⟩
  · exact hsorted
  · exact (List.pairwise_append.1 hsorted).1
  · exact fun p hp => (hexpired p).1 hp
  · exact fun p hp => (hexpired p).1 (List.mem_append_left _ hp)
  · exact fun p hp hnot => absurd ((hexpired p).2 hp) hnot
  · intro p hp hnot
    have hpk : p = k := by simpa [hnot] using (hexpired p).2 hp
    rw [hpk]
    exact ⟨fun w hw => (List.pairwise_append.1 hsorted).2.2 w hw k (List.mem_singleton_self k), hk⟩

end

end Sys2Proof.Machine
end

section
/-! Step 1 of the automixer's work in the words of the rules (R63, R65 to R68, R84): the second part of O24. -/

namespace Sys2Proof.Machine

section
variable {st : GateState} {c : GateCause} {l : List Pod} (hn : l.Nodup) (s : State)
include hn

/-- What the gates moved leave of the automixer. -/
theorem moveGates_kept : (s.moveGates st c l).automixer.limit = s.automixer.limit ∧
    (s.moveGates st c l).automixer.pendingLimit = s.automixer.pendingLimit ∧
    (s.moveGates st c l).automixer.params = s.automixer.params := by
  rw [moveGates_eq st c hn]
  exact ⟨rfl, rfl, rfl⟩

/-- Gates moved change the automixer, and post their reports. -/
theorem moveGates_frame : s.moveGates st c l = { s with
    automixer := (s.moveGates st c l).automixer
    control := (l.map (gateReport s st c)).foldl Control.report s.control } := by
  rw [moveGates_eq st c hn]

end

/-- The posting of gate reports, one after another. -/
theorem foldl_gateEvents (events : List (List Byte)) (s : State) :
    events.foldl (fun t e => t.post .gate 0xE5 e) s =
      { s with control := (events.map fun e => ((.gate, 0xE5, e) : Report)).foldl Control.report s.control } := by
  have h := foldl_post_eq_reported (events.map fun e => ((.gate, 0xE5, e) : Report)) s
  rw [List.foldl_map] at h
  exact h

/-- Filtering by what a filter has left out gives what it left out. -/
theorem filter_not_mem_filter (l t : List Pod) :
    (l.filter fun p => decide (p ∉ l.filter fun q => decide (q ∉ t))) = l.filter fun p => decide (p ∈ t) := by
  refine List.filter_congr fun p hp => decide_eq_decide.2 ?_
  simp [hp]

section
variable {s : State} (hs : GatesSound s)
include hs

/-! ### After the wait timeouts -/

/-- A channel of the wait queue does not expire. -/
theorem GatesSound.waitsEnded_waitQueue :
    s.waitsEnded.automixer.waitQueue = s.automixer.waitQueue.filter fun p => decide (p ∉ s.timedOut) :=
  moveGates_waitQueue _ _ hs.nodup_timedOut s.judgeGates

theorem GatesSound.waitsEnded_holders : s.waitsEnded.holders = s.holders := by
  have hjudged : s.judgeGates.holders = s.holders := holders_congr fun p => by
    rw [judgeGates_gate, judgeGate_holds]
  rw [State.waitsEnded, moveGates_holders _ _ hs.nodup_timedOut _ rfl, hjudged, List.filter_eq_self]
  intro p hp
  rw [decide_eq_true_iff, State.timedOut, mem_marked, hs.2.2.1]
  rintro ⟨hw, -⟩
  rw [mem_holders, hw] at hp
  cases hp

theorem GatesSound.waitsEnded_params : s.waitsEnded.automixer.params = s.automixer.params :=
  (moveGates_kept hs.nodup_timedOut s.judgeGates).2.2

theorem GatesSound.waitsEnded_smoothedOf (p : Pod) : s.waitsEnded.smoothedOf p = s.smoothedOf p := by
  rw [State.waitsEnded, moveGates_eq _ _ hs.nodup_timedOut]
  rfl

/-- R71: the victim order of channels in HOLD. -/
theorem GatesSound.victim_of_expired {v w : Pod} (hv : (s.judgeGate v).2 = .expired) (hw : (s.judgeGate w).2 = .expired)
    (h : victimKey s.waitsEnded v < victimKey s.waitsEnded w) :
    (s.gate v).priority < (s.gate w).priority ∨ ((s.gate v).priority = (s.gate w).priority ∧
      (s.smoothedOf v < s.smoothedOf w ∨ (s.smoothedOf v = s.smoothedOf w ∧ w < v))) := by
  rw [victimKey_lt_iff, hs.waitsEnded_gate_of_expired hv, hs.waitsEnded_gate_of_expired hw,
    judgeGate_state_of_expired s v hv, judgeGate_state_of_expired s w hw, (judgeGate_kept s v).2, (judgeGate_kept s w).2,
    hs.waitsEnded_smoothedOf, hs.waitsEnded_smoothedOf] at h
  simpa using h

/-! ### After the expiries -/

/-- What step 1 has released is known: the gates, the queue, the collection and the reports follow. -/
structure Released (s : State) (released : List Pod) : Prop where
  state : s.step1 = s.waitsEnded.moveGates .closed .released released
  nodup : released.Nodup
  expired : ∀ p ∈ released, (s.judgeGate p).2 = .expired

variable {released : List Pod} (h : Released s released)
include h

theorem Released.gate (p : Pod) : s.step1.gate p =
    if p ∈ released ∨ p ∈ s.timedOut then { s.gate p with state := .closed, count := 0 } else (s.judgeGate p).1 := by
  obtain ⟨hmode, hpriority⟩ := judgeGate_kept s p
  rw [h.state, moveGates_gate _ _ h.nodup]
  by_cases hp : p ∈ released
  · rw [if_pos hp, if_pos (.inl hp), hs.waitsEnded_gate_of_expired (h.expired p hp)]
    simp only [hmode, hpriority]
  · rw [if_neg hp, hs.waitsEnded_gate]
    exact if_congr (by rw [or_iff_right hp]) rfl rfl

/-- A channel whose judgement leaves neither a timeout nor an expiry stays as it is judged. -/
theorem Released.gate_of_mark {p : Pod} (ht : (s.judgeGate p).2 ≠ .timeout) (he : (s.judgeGate p).2 ≠ .expired) :
    s.step1.gate p = (s.judgeGate p).1 := by
  rw [h.gate hs, if_neg]
  rw [hs.mem_timedOut_iff, not_or]
  exact ⟨fun hp => he (h.expired p hp), ht⟩

theorem Released.waitQueue :
    s.step1.automixer.waitQueue = s.automixer.waitQueue.filter fun p => decide (p ∉ s.timedOut) := by
  rw [h.state, moveGates_waitQueue _ _ h.nodup, hs.waitsEnded_waitQueue, List.filter_eq_self]
  intro p hp
  rw [decide_eq_true_iff]
  intro hr
  have hholds := hs.expired_holds (h.expired p hr)
  rw [hs.waitsEnded_holders, mem_holders, (hs.2.2.1 p).1 (List.mem_filter.1 hp).1] at hholds
  cases hholds

/-- R65: what is collected of a channel that is neither released nor timed out. -/
theorem Released.mem_collected {p : Pod} (ht : (s.judgeGate p).2 ≠ .timeout) (he : (s.judgeGate p).2 ≠ .expired) :
    p ∈ s.step1.automixer.collected ↔ p ∈ s.automixer.collected ∨ (s.judgeGate p).2 = .request := by
  have hr : p ∉ released := fun hp => he (h.expired p hp)
  have ht : p ∉ s.timedOut := fun hp => ht ((hs.mem_timedOut_iff p).1 hp)
  have hcollected : s.judgeGates.automixer.collected = s.automixer.collected ++
      (s.marked .request allPods).filter fun q => !(s.automixer.collected.contains q) := rfl
  rw [h.state, moveGates_collected _ _ h.nodup, State.waitsEnded, moveGates_collected _ _ hs.nodup_timedOut, hcollected]
  by_cases hp : p ∈ s.automixer.collected <;> simp [hr, ht, hp, mem_marked, mem_allPods]

theorem Released.holders : s.step1.holders = s.holders.filter fun p => decide (p ∉ released) := by
  rw [h.state, moveGates_holders _ _ h.nodup _ rfl, hs.waitsEnded_holders]

/-- R84: the reports of step 1. -/
theorem Released.frame :
    let timedOut := s.automixer.waitQueue.filter (· ∉ s.step1.automixer.waitQueue)
    let events := (timedOut.map fun p => [podByte p, 2, 0, 3]) ++ released.map fun p => [podByte p, 4, 0, 2]
    s.step1 = { s with
      automixer := s.step1.automixer, control := (events.foldl (fun t e => t.post .gate 0xE5 e) s).control } := by
  intro timedOut events
  have htimedOut : timedOut = s.timedOut := by
    rw [show timedOut = s.automixer.waitQueue.filter fun p => decide (p ∉ s.step1.automixer.waitQueue) from rfl,
      h.waitQueue hs, filter_not_mem_filter, State.timedOut, State.marked]
    refine List.filter_congr fun p hp => ?_
    rw [Bool.eq_iff_iff, decide_eq_true_iff, beq_iff_eq, ← hs.mem_timedOut_iff]
    rfl
  have hwaits : s.timedOut.map (gateReport s.judgeGates .closed .timeout) =
      s.timedOut.map fun p => ((.gate, 0xE5, [podByte p, 2, 0, 3]) : Report) := by
    refine List.map_congr_left fun p hp => ?_
    have hstate := (hs.2.2.1 p).1 (List.mem_filter.1 hp).1
    rw [gateReport, judgeGates_gate, (judgeGate_waiting_iff s p).2 hstate]
    rfl
  have hexpiries : released.map (gateReport s.waitsEnded .closed .released) =
      released.map fun p => ((.gate, 0xE5, [podByte p, 4, 0, 2]) : Report) := by
    refine List.map_congr_left fun p hp => ?_
    rw [gateReport, hs.waitsEnded_gate_of_expired (h.expired p hp), judgeGate_state_of_expired s p (h.expired p hp)]
    rfl
  have hevents : (events.map fun e => ((.gate, 0xE5, e) : Report)) =
      s.timedOut.map (gateReport s.judgeGates .closed .timeout) ++
        released.map (gateReport s.waitsEnded .closed .released) := by
    rw [hwaits, hexpiries, ← htimedOut]
    simp only [events, List.map_append, List.map_map]
    rfl
  have hfirst : s.waitsEnded = _ := moveGates_frame (st := .closed) (c := .timeout) hs.nodup_timedOut s.judgeGates
  have hstate := moveGates_frame (st := .closed) (c := .released) h.nodup s.waitsEnded
  rw [foldl_gateEvents, hevents, List.foldl_append, h.state]
  refine hstate.trans ?_
  generalize (s.waitsEnded.moveGates .closed .released released).automixer = moved
  generalize released.map (gateReport s.waitsEnded .closed .released) = reports
  rw [hfirst]
  rfl

end

end Sys2Proof.Machine
end

section
/-! What step 1 makes of a channel, by the state in which it finds it (R63, R65 to R68): the second part of O24. -/

namespace Sys2Proof.Machine

section
variable {s : State} (hs : GatesSound s) {released : List Pod} (h : Released s released) {p : Pod}
include hs h

/-- What a judgement makes of a channel that neither expires nor times out. -/
theorem Released.gate_of_judged {g : Gate} {m : GateMark} (hj : s.judgeGate p = (g, m)) (hm : m ≠ .timeout ∧ m ≠ .expired) :
    s.step1.gate p = g ∧
      (p ∈ s.step1.automixer.collected ↔ p ∈ s.automixer.collected ∨ m = .request) := by
  have hmark := congrArg Prod.snd hj
  refine ⟨?_, ?_⟩
  · rw [h.gate_of_mark hs (by rw [hmark]; exact hm.1) (by rw [hmark]; exact hm.2), hj]
  · rw [h.mem_collected hs (by rw [hmark]; exact hm.1) (by rw [hmark]; exact hm.2), hj]

/-- R66, R67: a channel that expires closes, or the last-mic hold keeps it. -/
theorem Released.gate_of_expired {c : Nat} (hj : s.judgeGate p = ({ s.gate p with state := .hold, count := c }, .expired))
    (hkept : p ∉ released → s.step1.lastMicKeeps p = true) :
    s.step1.gate p = { s.gate p with state := .closed, count := 0 } ∨
      (s.step1.gate p = { s.gate p with state := .hold, count := c } ∧ s.automixer.params.lastMicHold = true ∧
        s.step1.holders = [p] ∧ s.step1.automixer.waitQueue = []) := by
  have ht : p ∉ s.timedOut := fun hp => by
    rw [hs.mem_timedOut_iff, hj] at hp
    cases hp
  by_cases hp : p ∈ released
  · exact .inl ((h.gate hs p).trans (if_pos (.inl hp)))
  · have hkeeps := hkept hp
    rw [State.lastMicKeeps, h.state, (moveGates_kept h.nodup _).2.2, hs.waitsEnded_params, ← h.state] at hkeeps
    simp only [Bool.and_eq_true, beq_iff_eq, List.isEmpty_iff] at hkeeps
    obtain ⟨⟨hmic, hone⟩, hwait⟩ := hkeeps
    refine .inr ⟨?_, hmic, hone, hwait⟩
    rw [h.gate hs, if_neg (not_or.2 ⟨hp, ht⟩), hj]

variable (hauto : (s.gate p).mode = .auto)
include hauto

/-- R65: a CLOSED channel. -/
theorem Released.closed (hg : (s.gate p).state = .closed) :
    (s.above p = true → s.eligible p = true → s.step1.gate p = { s.gate p with state := .pending, count := 1 } ∧
      (p ∈ s.step1.automixer.collected ↔ p ∈ s.automixer.collected ∨ s.automixer.params.openCount ≤ 1)) ∧
    (s.above p = false ∨ s.eligible p = false → s.step1.gate p = s.gate p) := by
  have hjudge := judgeGate_of_auto p s hauto
  refine ⟨fun habove heligible => ?_, fun hidle => ?_⟩
  · rw [habove, heligible] at hjudge
    have hj : s.judgeGate p = ({ s.gate p with state := .pending, count := 1 },
        if s.automixer.params.openCount ≤ 1 then .request else .none) := by simp [hjudge, Gate.judge, hg]
    obtain ⟨hgate, hcollected⟩ := h.gate_of_judged hs hj (by split <;> decide)
    exact ⟨hgate, by rw [hcollected]; simp⟩
  · have hj : s.judgeGate p = (s.gate p, .none) := by
      rcases hidle with hidle | hidle <;> simp [hjudge, hidle, Gate.judge, hg]
    exact (h.gate_of_judged hs hj (by decide)).1

/-- R65: a PENDING channel. -/
theorem Released.pending (hg : (s.gate p).state = .pending) :
    (s.above p = true → s.step1.gate p = { s.gate p with count := (s.gate p).count + 1 } ∧
      (p ∈ s.step1.automixer.collected ↔
        p ∈ s.automixer.collected ∨ s.automixer.params.openCount ≤ (s.gate p).count + 1)) ∧
    (s.above p = false → s.step1.gate p = { s.gate p with state := .closed, count := 0 }) := by
  have hjudge := judgeGate_of_auto p s hauto
  refine ⟨fun habove => ?_, fun hbelow => ?_⟩
  · have hj : s.judgeGate p = ({ s.gate p with count := (s.gate p).count + 1 },
        if s.automixer.params.openCount ≤ (s.gate p).count + 1 then .request else .none) := by
      simp [hjudge, habove, Gate.judge, hg]
    obtain ⟨hgate, hcollected⟩ := h.gate_of_judged hs hj (by split <;> decide)
    exact ⟨hgate, by rw [hcollected]; simp⟩
  · have hj : s.judgeGate p = ({ s.gate p with state := .closed, count := 0 }, .none) := by
      simp [hjudge, hbelow, Gate.judge, hg]
    exact (h.gate_of_judged hs hj (by decide)).1

/-- R68: a WAITING channel. -/
theorem Released.waiting (hg : (s.gate p).state = .waiting) :
    (s.above p = true → s.step1.gate p = { s.gate p with count := 0 }) ∧
    (s.above p = false → (s.gate p).count + 1 < s.automixer.params.holdFrames →
      s.step1.gate p = { s.gate p with count := (s.gate p).count + 1 }) ∧
    (s.above p = false → s.automixer.params.holdFrames ≤ (s.gate p).count + 1 →
      s.step1.gate p = { s.gate p with state := .closed, count := 0 }) := by
  have hjudge := judgeGate_of_auto p s hauto
  refine ⟨fun habove => ?_, fun hbelow hearly => ?_, fun hbelow hlate => ?_⟩
  · have hj : s.judgeGate p = ({ s.gate p with count := 0 }, .none) := by simp [hjudge, habove, Gate.judge, hg]
    exact (h.gate_of_judged hs hj (by decide)).1
  · have hj : s.judgeGate p = ({ s.gate p with count := (s.gate p).count + 1 }, .none) := by
      simp [hjudge, hbelow, Gate.judge, hg, Nat.not_le.2 hearly]
    exact (h.gate_of_judged hs hj (by decide)).1
  · rw [hbelow, judge_waiting_timeout _ _ hg hlate] at hjudge
    exact (h.gate hs p).trans (if_pos (.inr ((hs.mem_timedOut_iff p).2 (congrArg Prod.snd hjudge))))

/-- R66: an OPEN channel. -/
theorem Released.opened (hg : (s.gate p).state = .opened) :
    (s.above p = true → s.step1.gate p = s.gate p) ∧
    (s.above p = false → 1 < s.automixer.params.holdFrames →
      s.step1.gate p = { s.gate p with state := .hold, count := 1 }) ∧
    (s.above p = false → s.automixer.params.holdFrames ≤ 1 →
      s.judgeGate p = ({ s.gate p with state := .hold, count := 1 }, .expired)) := by
  have hjudge := judgeGate_of_auto p s hauto
  refine ⟨fun habove => ?_, fun hbelow hearly => ?_, fun hbelow hlate => ?_⟩
  · have hj : s.judgeGate p = (s.gate p, .none) := by simp [hjudge, habove, Gate.judge, hg]
    exact (h.gate_of_judged hs hj (by decide)).1
  · have hj : s.judgeGate p = ({ s.gate p with state := .hold, count := 1 }, .none) := by
      simp [hjudge, hbelow, Gate.judge, hg, Nat.not_le.2 hearly]
    exact (h.gate_of_judged hs hj (by decide)).1
  · simp [hjudge, hbelow, Gate.judge, hg, hlate]

/-- R66, R67: a channel in HOLD. -/
theorem Released.hold (hg : (s.gate p).state = .hold) :
    let held := nextHoldCount s.automixer.params.holdFrames (s.gate p).count
    (s.above p = true → s.step1.gate p = { s.gate p with state := .opened, count := 0 }) ∧
    (s.above p = false → held < s.automixer.params.holdFrames → s.step1.gate p = { s.gate p with count := held }) ∧
    (s.above p = false → s.automixer.params.holdFrames ≤ held →
      s.judgeGate p = ({ s.gate p with state := .hold, count := held }, .expired)) := by
  intro held
  have hjudge := judgeGate_of_auto p s hauto
  refine ⟨fun habove => ?_, fun hbelow hearly => ?_, fun hbelow hlate => ?_⟩
  · have hj : s.judgeGate p = ({ s.gate p with state := .opened, count := 0 }, .none) := by
      simp [hjudge, habove, Gate.judge, hg]
    exact (h.gate_of_judged hs hj (by decide)).1
  · have hj : s.judgeGate p = ({ s.gate p with count := held }, .none) := by
      simp [hjudge, hbelow, Gate.judge, hg, Nat.not_le.2 hearly, held]
    exact (h.gate_of_judged hs hj (by decide)).1
  · rw [hjudge, hbelow, judge_hold_expired _ _ hg ((holdFrames_le_nextHoldCount _ _).1 hlate), ← hg]

end

/-! ### The whole of step 1 -/

section
variable {s : State}

/-- R63, R66, R67: the channels that expire. -/
theorem expired_iff (p : Pod) : (s.judgeGate p).2 = .expired ↔ (s.gate p).mode = .auto ∧
    ((s.detectors[podChannel p]).smoothed < (s.detectors[podChannel p]).noiseFloor + s.automixer.params.margin ∨
      (s.detectors[podChannel p]).smoothed < s.automixer.params.gateFloor) ∧
    (((s.gate p).state = .opened ∧ s.automixer.params.holdFrames ≤ 1) ∨
      ((s.gate p).state = .hold ∧ s.automixer.params.holdFrames ≤ (s.gate p).count + 1)) := by
  rw [judgeGate_mark_iff s p (by decide), judge_expired_iff, above_eq_false_iff, not_and_or, not_le, not_le]

/-- R72: who waits after step 1. -/
theorem Released.mem_waitQueue (hs : GatesSound s) {released : List Pod} (h : Released s released) (p : Pod) :
    p ∈ s.step1.automixer.waitQueue ↔ p ∈ s.automixer.waitQueue ∧
      ¬ ((s.gate p).mode = .auto ∧ s.above p = false ∧ s.automixer.params.holdFrames ≤ (s.gate p).count + 1) := by
  rw [h.waitQueue hs, List.mem_filter, decide_eq_true_iff, hs.mem_timedOut_iff, judgeGate_mark_iff s p (by decide),
    judge_timeout_iff]
  refine and_congr_right fun hp => not_congr (and_congr_right fun _ => ?_)
  rw [and_iff_right ((hs.2.2.1 p).1 hp)]

end

/-- R65 to R68: step 1, for every channel by the state that it is in. -/
theorem judgements (s : State) (hs : GatesSound s) :
    let u := s.step1
    let q := s.automixer.params
    u.automixer.limit = s.automixer.limit ∧ u.automixer.pendingLimit = s.automixer.pendingLimit ∧
    (q.lastMicHold = true → s.holders ≠ [] → u.automixer.waitQueue = [] → u.holders ≠ []) ∧
    (let level (p : Pod) : Int := (s.detectors[podChannel p]).smoothed
     let priority (p : Pod) : Nat := (s.gate p).priority
     let below (p : Pod) : Prop :=
       level p < (s.detectors[podChannel p]).noiseFloor + q.margin ∨ level p < q.gateFloor
     let expires (p : Pod) : Prop := (s.gate p).mode = .auto ∧ below p ∧
       (((s.gate p).state = .opened ∧ q.holdFrames ≤ 1) ∨
         ((s.gate p).state = .hold ∧ q.holdFrames ≤ (s.gate p).count + 1))
     let victim (v w : Pod) : Prop := priority v < priority w ∨ (priority v = priority w ∧
       (level v < level w ∨ (level v = level w ∧ w < v)))
     ∃ released : List Pod, released.Pairwise victim ∧
       (∀ p : Pod, p ∈ released ↔ expires p ∧ (u.gate p).state = .closed) ∧
       (∀ p : Pod, expires p → (u.gate p).state = .hold → ∀ w ∈ released, victim w p) ∧
       let timedOut := s.automixer.waitQueue.filter (· ∉ u.automixer.waitQueue)
       let events := (timedOut.map fun p => [podByte p, 2, 0, 3]) ++ released.map fun p => [podByte p, 4, 0, 2]
       u = { s with
             automixer := u.automixer, control := (events.foldl (fun t e => t.post .gate 0xE5 e) s).control }) ∧
    ∀ p : Pod,
      let g := s.gate p
      let d := s.detectors[podChannel p]
      let above := d.noiseFloor + q.margin ≤ d.smoothed ∧ q.gateFloor ≤ d.smoothed
      let held := if g.count < q.holdFrames then g.count + 1 else g.count
      let kept (c : Nat) : Prop := u.gate p = { g with state := .closed, count := 0 } ∨
        (u.gate p = { g with state := .hold, count := c } ∧ q.lastMicHold = true ∧ u.holders = [p] ∧
          u.automixer.waitQueue = [])
      (g.mode = .bypass ∨ g.state = .bypass → u.gate p = g) ∧
      (p ∈ u.automixer.waitQueue ↔ p ∈ s.automixer.waitQueue ∧
        ¬ (g.mode = .auto ∧ ¬ above ∧ q.holdFrames ≤ g.count + 1)) ∧
      (g.mode = .auto →
        (g.state = .closed → above → (s.mutes.reasons[p]).muted = false →
          u.gate p = { g with state := .pending, count := 1 } ∧
          (p ∈ u.automixer.collected ↔ p ∈ s.automixer.collected ∨ q.openCount ≤ 1)) ∧
        (g.state = .closed → ¬ above ∨ (s.mutes.reasons[p]).muted = true → u.gate p = g) ∧
        (g.state = .pending → above → u.gate p = { g with count := g.count + 1 } ∧
          (p ∈ u.automixer.collected ↔ p ∈ s.automixer.collected ∨ q.openCount ≤ g.count + 1)) ∧
        (g.state = .pending → ¬ above → u.gate p = { g with state := .closed, count := 0 }) ∧
        (g.state = .waiting → above → u.gate p = { g with count := 0 }) ∧
        (g.state = .waiting → ¬ above → g.count + 1 < q.holdFrames → u.gate p = { g with count := g.count + 1 }) ∧
        (g.state = .waiting → ¬ above → q.holdFrames ≤ g.count + 1 → u.gate p = { g with state := .closed, count := 0 }) ∧
        (g.state = .opened → above → u.gate p = g) ∧
        (g.state = .opened → ¬ above → 1 < q.holdFrames → u.gate p = { g with state := .hold, count := 1 }) ∧
        (g.state = .opened → ¬ above → q.holdFrames ≤ 1 → kept 1) ∧
        (g.state = .hold → above → u.gate p = { g with state := .opened, count := 0 }) ∧
        (g.state = .hold → ¬ above → held < q.holdFrames → u.gate p = { g with count := held }) ∧
        (g.state = .hold → ¬ above → q.holdFrames ≤ held → kept held)) := by
  intro u q
  obtain ⟨released, hstate, hsorted, hexpired, hkept, hlast⟩ := hs.step1_released
  have h : Released s released :=
    ⟨hstate, hsorted.imp fun hlt e => (e ▸ hlt).false, hexpired⟩
  have hlimits := moveGates_kept h.nodup (st := .closed) (c := .released) s.waitsEnded
  have hwaits := moveGates_kept hs.nodup_timedOut (st := .closed) (c := .timeout) s.judgeGates
  refine ⟨?_, ?_, fun hmic hsome hnone => ?_, ?_, fun p => ?_⟩
  · exact (congrArg (fun t : State => t.automixer.limit) hstate).trans (hlimits.1.trans hwaits.1)
  · exact (congrArg (fun t : State => t.automixer.pendingLimit) hstate).trans (hlimits.2.1.trans hwaits.2.1)
  · refine hlast (by rw [hs.waitsEnded_params]; exact hmic) (by rw [hs.waitsEnded_holders]; exact hsome) ?_
    rw [hs.waitsEnded_waitQueue, ← h.waitQueue hs]
    exact hnone
  · intro level priority below expires victim
    have hexpires (p : Pod) : expires p ↔ (s.judgeGate p).2 = .expired := (expired_iff p).symm
    refine ⟨released, ?_, fun p => ?_, fun p hp hhold w hw => ?_, h.frame hs⟩
    · exact hsorted.imp_of_mem fun hv hw hlt => hs.victim_of_expired (hexpired _ hv) (hexpired _ hw) hlt
    · rw [hexpires]
      refine ⟨fun hp => ⟨hexpired p hp, congrArg Gate.state ((h.gate hs p).trans (if_pos (.inl hp)))⟩, fun ⟨hp, hclosed⟩ => ?_⟩
      by_contra hnot
      have hgate := h.gate hs p
      rw [if_neg (not_or.2 ⟨hnot, fun ht => by rw [hs.mem_timedOut_iff, hp] at ht; cases ht⟩)] at hgate
      rw [show u.gate p = _ from hgate, judgeGate_state_of_expired s p hp] at hclosed
      cases hclosed
    · rw [hexpires] at hp
      have hnot : p ∉ released := fun hr => by
        rw [show u.gate p = _ from (h.gate hs p).trans (if_pos (.inl hr))] at hhold
        cases hhold
      exact hs.victim_of_expired (hexpired w hw) hp ((hkept p hp hnot).1 w hw)
  · intro g d above held kept
    have habove : above ↔ s.above p = true := (above_iff p s).symm
    have hbelow : ¬ above ↔ s.above p = false := by rw [habove, Bool.not_eq_true]
    have heligible : (s.mutes.reasons[p]).muted = true ↔ s.eligible p = false := by
      rw [State.eligible]
      cases (s.mutes.reasons[p]).muted <;> simp
    rw [← eligible_iff, heligible, hbelow, habove]
    refine ⟨fun hoff => (h.gate_of_judged hs (judgeGate_of_bypass s p hoff) (by decide)).1, h.mem_waitQueue hs p,
      fun hauto => ?_⟩
    have hkeeps {c : Nat} (hj : s.judgeGate p = ({ g with state := .hold, count := c }, .expired)) : kept c :=
      h.gate_of_expired hs hj fun hnot => (hkept p (congrArg Prod.snd hj) hnot).2
    exact ⟨fun hg => (h.closed hs hauto hg).1, fun hg => (h.closed hs hauto hg).2, fun hg => (h.pending hs hauto hg).1,
      fun hg => (h.pending hs hauto hg).2, fun hg => (h.waiting hs hauto hg).1, fun hg => (h.waiting hs hauto hg).2.1,
      fun hg => (h.waiting hs hauto hg).2.2, fun hg => (h.opened hs hauto hg).1, fun hg => (h.opened hs hauto hg).2.1,
      fun hg hb hlate => hkeeps ((h.opened hs hauto hg).2.2 hb hlate), fun hg => (h.hold hs hauto hg).1,
      fun hg => (h.hold hs hauto hg).2.1, fun hg hb hlate => hkeeps ((h.hold hs hauto hg).2.2 hb hlate)⟩

end Sys2Proof.Machine
end

section
/-! SUPPORT. Steps 2 to 4 of the automixer's work: evictions in victim order (R69, R71), grants (R72), requests (R70). -/

namespace Sys2Proof.Machine

/-! ### The first victim (R71) -/

section
variable {s : State}

theorem sortPods_victims (s : State) :
    (sortPods s.victimBefore s.holders).Pairwise fun a b => victimKey s a < victimKey s b :=
  sortPods_pairwise (victimKey_injective s) (nodup_holders s) fun _ ha _ hb => victimBefore_iff ha hb

theorem victim_first {v : Pod} (h : s.victim = some v) :
    ∀ w ∈ s.holders, w ≠ v → victimKey s v < victimKey s w := by
  intro w hw hne
  have hsorted := sortPods_victims s
  have hmem : w ∈ sortPods s.victimBefore s.holders := (List.perm_insertionSort _ _).mem_iff.2 hw
  rw [State.victim] at h
  obtain ⟨rest, hlist⟩ := List.head?_eq_some_iff.1 h
  rw [hlist] at hsorted hmem
  exact (List.pairwise_cons.1 hsorted).1 w ((List.mem_cons.1 hmem).resolve_left hne)

theorem victim_eq_some {v : Pod} (hv : v ∈ s.holders) (hfirst : ∀ w ∈ s.holders, w ≠ v → victimKey s v < victimKey s w) :
    s.victim = some v := by
  cases hs : s.victim with
  | none =>
    rw [holders_eq_nil_of_victim hs] at hv
    cases hv
  | some w =>
    by_contra hne
    have hne : w ≠ v := fun e => hne (by rw [e])
    exact ((hfirst w (victim_mem hs) hne).trans (victim_first hs v hv hne.symm)).false

/-- The victim order compares the gates of the two and their levels. -/
theorem victimKey_congr {t : State} {p : Pod} (hgate : t.gate p = s.gate p) (hlevel : t.detectors = s.detectors) :
    victimKey t p = victimKey s p := by
  rw [victimKey, hgate, State.smoothedOf, hlevel, victimKey, State.smoothedOf]

theorem releaseGate_detectors (p : Pod) (c : GateCause) (s : State) : (s.releaseGate p c).detectors = s.detectors :=
  (releaseGate_moves p s c).frame .detectors (by decide)

end

/-! ### Evictions (R69) -/

/-- R69, R71: what `fuel` evictions release. -/
theorem evict_eq (fuel : Nat) (s : State) : ∃ evicted : List Pod,
    State.evict fuel s = s.moveGates .closed .evicted evicted ∧
    evicted.Pairwise (fun v w => victimKey s v < victimKey s w) ∧ (∀ v ∈ evicted, v ∈ s.holders) ∧
    (∀ v ∈ evicted, ∀ w ∈ s.holders, w ∉ evicted → victimKey s v < victimKey s w) ∧
    evicted.length = min fuel (s.holders.length - s.automixer.limit) := by
  induction fuel generalizing s with
  | zero => exact ⟨[], rfl, .nil, by simp, by simp, by simp⟩
  | succ fuel ih =>
    unfold State.evict
    split
    · rename_i hfits
      exact ⟨[], rfl, .nil, by simp, by simp, by simp [Nat.sub_eq_zero_of_le hfits]⟩
    · rename_i hover
      cases hv : s.victim with
      | none => exact absurd (by rw [holders_eq_nil_of_victim hv]; exact Nat.zero_le _) hover
      | some v =>
        have hmem := victim_mem hv
        obtain ⟨evicted, heq, hsorted, hholds, hfirst, hlength⟩ := ih (s.releaseGate v .evicted)
        have hholders := releaseGate_holders v .evicted s
        have hother {w : Pod} (hw : w ∈ (s.releaseGate v .evicted).holders) : w ∈ s.holders ∧ w ≠ v := by
          rw [hholders, List.mem_filter] at hw
          exact ⟨hw.1, by simpa using hw.2⟩
        have hkey {w : Pod} (hw : w ∈ (s.releaseGate v .evicted).holders) :
            victimKey (s.releaseGate v .evicted) w = victimKey s w :=
          victimKey_congr (by rw [releaseGate_gate, if_neg (hother hw).2]) (releaseGate_detectors v .evicted s)
        refine ⟨v :: evicted, ?_, List.pairwise_cons.2 ⟨fun w hw => ?_, ?_⟩, fun w hw => ?_, fun x hx w hw hnot => ?_, ?_⟩
        · rw [moveGates_closed_cons]
          exact heq
        · exact victim_first hv w (hother (hholds w hw)).1 (hother (hholds w hw)).2
        · refine hsorted.imp_of_mem fun ha hb hlt => ?_
          rwa [hkey (hholds _ ha), hkey (hholds _ hb)] at hlt
        · rcases List.mem_cons.1 hw with rfl | hw
          · exact hmem
          · exact (hother (hholds w hw)).1
        · rw [List.mem_cons, not_or] at hnot
          rcases List.mem_cons.1 hx with rfl | hx
          · exact victim_first hv w hw hnot.1
          · have hw' : w ∈ (s.releaseGate v .evicted).holders := by
              rw [hholders, List.mem_filter]
              exact ⟨hw, by simpa using hnot.1⟩
            have hlt := hfirst x hx w hw' hnot.2
            rwa [hkey (hholds x hx), hkey hw'] at hlt
        · rw [List.length_cons, hlength, releaseGate_holders_length hmem, releaseGate_limit]
          omega

theorem takeLimit_eq (s : State) : s.takeLimit = { s with automixer := { s.automixer with
    limit := s.automixer.pendingLimit.getD s.automixer.limit, pendingLimit := none } } := by
  unfold State.takeLimit
  split
  · rename_i h
    rw [h, Option.getD_none, ← h]
  · rename_i h
    rw [h, Option.getD_some]

/-- R71, between holders, in the words of the rule. -/
theorem victim_of_holders {s : State} {v w : Pod} (hv : v ∈ s.holders) (hw : w ∈ s.holders) :
    victimKey s v < victimKey s w ↔
      (s.gate v).priority < (s.gate w).priority ∨ ((s.gate v).priority = (s.gate w).priority ∧
        (((s.gate v).state = .hold ∧ (s.gate w).state = .opened) ∨ ((s.gate v).state = (s.gate w).state ∧
          (s.smoothedOf v < s.smoothedOf w ∨ (s.smoothedOf v = s.smoothedOf w ∧ w < v))))) := by
  rw [victimKey_lt_iff]
  have hstate {p : Pod} (hp : p ∈ s.holders) : (s.gate p).state = .hold ∨ (s.gate p).state = .opened := by
    rw [mem_holders] at hp
    revert hp
    cases (s.gate p).state <;> simp [GateState.holds]
  rcases hstate hv with hv | hv <;> rcases hstate hw with hw | hw <;> simp [hv, hw]

/-! ### Grants (R72) -/

section
variable (s : State)

theorem le_foldl_max (f : Pod → Nat) (l : List Pod) (m : Nat) :
    m ≤ l.foldl (fun m p => max m (f p)) m ∧ ∀ p ∈ l, f p ≤ l.foldl (fun m p => max m (f p)) m := by
  induction l generalizing m with
  | nil => simp
  | cons a rest ih =>
    obtain ⟨hstart, hrest⟩ := ih (max m (f a))
    rw [List.foldl_cons]
    refine ⟨by omega, fun p hp => ?_⟩
    rcases List.mem_cons.1 hp with rfl | hp
    · omega
    · exact hrest p hp

theorem foldl_max_attained (f : Pod → Nat) (l : List Pod) (m : Nat) :
    l.foldl (fun m p => max m (f p)) m = m ∨ ∃ p ∈ l, f p = l.foldl (fun m p => max m (f p)) m := by
  induction l generalizing m with
  | nil => exact .inl rfl
  | cons a rest ih =>
    rw [List.foldl_cons]
    rcases ih (max m (f a)) with h | ⟨p, hp, h⟩
    · rw [h]
      rcases max_choice m (f a) with hm | hm
      · exact .inl hm
      · exact .inr ⟨a, List.mem_cons_self, hm.symm⟩
    · exact .inr ⟨p, List.mem_cons_of_mem a hp, h⟩

theorem priority_le_top {q : List Pod} {p : Pod} (h : p ∈ q) : (s.gate p).priority ≤ s.topPriority q :=
  (le_foldl_max (fun p => (s.gate p).priority) q 0).2 p h

/-- R72: `p` is granted a slot before `q`, where both wait in the queue `l`. -/
def Sooner (s : State) (l : List Pod) (p q : Pod) : Prop :=
  (s.gate q).priority < (s.gate p).priority ∨ ((s.gate q).priority = (s.gate p).priority ∧ [p, q].Sublist l)

/-- R72: with a channel waiting one is granted. -/
theorem waitQueue_eq_nil_of_grantee (h : s.grantee = none) : s.automixer.waitQueue = [] := by
  rw [State.grantee, List.find?_eq_none] at h
  rw [List.eq_nil_iff_forall_not_mem]
  intro p hp
  rcases foldl_max_attained (fun p => (s.gate p).priority) s.automixer.waitQueue 0 with htop | ⟨q, hq, htop⟩
  · have hle := priority_le_top s hp
    rw [show s.topPriority s.automixer.waitQueue = 0 from htop] at hle
    exact h p hp (by rw [beq_iff_eq]; exact (Nat.le_zero.1 hle).trans htop.symm)
  · exact h q hq (by rw [beq_iff_eq]; exact htop)

theorem grantee_sooner {p : Pod} (h : s.grantee = some p) :
    ∀ q ∈ s.automixer.waitQueue, q ≠ p → Sooner s s.automixer.waitQueue p q := by
  obtain ⟨htop, front, back, hlist, hfront⟩ := List.find?_eq_some_iff_append.1 h
  rw [beq_iff_eq] at htop
  intro q hq hne
  have hle := priority_le_top s hq
  rw [← htop] at hle
  rcases Nat.lt_or_eq_of_le hle with hlt | heq
  · exact .inl hlt
  · refine .inr ⟨heq, ?_⟩
    rw [hlist, List.mem_append, List.mem_cons] at hq
    rcases hq with hq | hq | hq
    · have := hfront q hq
      rw [heq, htop] at this
      simp at this
    · exact absurd hq hne
    · rw [hlist]
      exact ((List.singleton_sublist.2 hq).cons_cons p).trans (List.sublist_append_right front _)

theorem openGate_waitQueue (p : Pod) (s : State) :
    (s.openGate p).automixer.waitQueue = s.automixer.waitQueue.filter (· ≠ p) := by
  rw [State.openGate, State.gateEvent_automixer]
  exact gateTo_waitQueue p .opened s

theorem openGate_limit (p : Pod) (s : State) : (s.openGate p).automixer.limit = s.automixer.limit := by
  rw [State.openGate, State.gateEvent_automixer]
  rfl

theorem GatesSound.not_holds_of_waits {s : State} (hs : GatesSound s) {p : Pod} (h : p ∈ s.automixer.waitQueue) :
    p ∉ s.holders := by
  rw [mem_holders, (hs.2.2.1 p).1 h]
  decide

/-- R72: what `fuel` grants open. -/
theorem grant_eq (fuel : Nat) {s : State} (hs : GatesSound s) : ∃ granted : List Pod,
    State.grant fuel s = (s.moveGates .opened .grant granted, granted) ∧ granted.Nodup ∧
    (∀ p ∈ granted, p ∈ s.automixer.waitQueue) ∧ granted.Pairwise (Sooner s s.automixer.waitQueue) ∧
    (∀ p ∈ granted, ∀ q ∈ s.automixer.waitQueue, q ∉ granted → Sooner s s.automixer.waitQueue p q) ∧
    granted.length = min fuel (min (s.automixer.limit - s.holders.length) s.automixer.waitQueue.length) := by
  induction fuel generalizing s with
  | zero => exact ⟨[], rfl, .nil, by simp, .nil, by simp, by simp⟩
  | succ fuel ih =>
    unfold State.grant
    split
    · rename_i hfull
      exact ⟨[], rfl, .nil, by simp, .nil, by simp, by simp [Nat.sub_eq_zero_of_le hfull]⟩
    · rename_i hfree
      cases hp : s.grantee with
      | none => exact ⟨[], rfl, .nil, by simp, .nil, by simp, by simp [waitQueue_eq_nil_of_grantee s hp]⟩
      | some p =>
        have hmem := grantee_mem hp
        have hfirst := grantee_sooner s hp
        have hshut := hs.not_shut_of_waits hmem
        have hgate {q : Pod} (hq : q ≠ p) : (s.openGate p).gate q = s.gate q := by rw [openGate_gate, if_neg hq]
        have hqueue : (s.openGate p).automixer.waitQueue = s.automixer.waitQueue.filter (· ≠ p) := openGate_waitQueue p s
        have hother {q : Pod} : q ∈ (s.openGate p).automixer.waitQueue ↔ q ∈ s.automixer.waitQueue ∧ q ≠ p := by
          rw [hqueue, List.mem_filter, decide_eq_true_iff]
        have hholders : (s.openGate p).holders.length = s.holders.length + 1 :=
          (holders_of_opened (hs.not_holds_of_waits hmem) (by rw [openGate_gate, if_pos rfl]; rfl) fun q hq => hgate hq).length_eq
        have hsooner {a b : Pod} (ha : a ≠ p) (hb : b ≠ p)
            (h : Sooner (s.openGate p) (s.openGate p).automixer.waitQueue a b) : Sooner s s.automixer.waitQueue a b := by
          rw [Sooner, hgate ha, hgate hb, hqueue] at h
          exact h.imp_right fun ⟨heq, hsub⟩ => ⟨heq, hsub.trans List.filter_sublist⟩
        obtain ⟨granted, heq, hnodup, hwait, hsorted, hbefore, hlength⟩ := ih (hs.openGate hshut (Nat.lt_of_not_le hfree))
        have hleft {q : Pod} (hq : q ∈ granted) := hother.1 (hwait q hq)
        have hqueueLength : (s.openGate p).automixer.waitQueue.length = s.automixer.waitQueue.length - 1 := by
          rw [hqueue, length_filter_ne hs.2.1, if_pos hmem]
        have hpos := List.length_pos_of_mem hmem
        refine ⟨p :: granted, ?_, List.nodup_cons.2 ⟨fun h => (hleft h).2 rfl, hnodup⟩, fun q hq => ?_,
          List.pairwise_cons.2 ⟨fun q hq => hfirst q (hleft hq).1 (hleft hq).2, ?_⟩, fun a ha q hq hnot => ?_, ?_⟩
        · simp only [heq, moveGates_opened_cons]
        · rcases List.mem_cons.1 hq with rfl | hq
          · exact hmem
          · exact (hleft hq).1
        · exact hsorted.imp_of_mem fun ha hb h => hsooner (hleft ha).2 (hleft hb).2 h
        · rw [List.mem_cons, not_or] at hnot
          rcases List.mem_cons.1 ha with rfl | ha
          · exact hfirst q hq hnot.1
          · exact hsooner (hleft ha).2 hnot.1 (hbefore a ha q (hother.2 ⟨hq, hnot.1⟩) hnot.2)
        · rw [List.length_cons, hlength, hholders, hqueueLength, openGate_limit]
          omega

end

end Sys2Proof.Machine
end

section
/-! Steps 2 to 4 of the automixer's work in the words of the rules (R69 to R72, R84), and O24. -/

namespace Sys2Proof.Machine

/-- R84: gates moved, in the words of the rule: each is reported with the state that it leaves, as if the reports were posted
on a state `t` of the same control. -/
theorem moveGates_events (st : GateState) (c : GateCause) {l : List Pod} (hn : l.Nodup) {s t : State}
    (hcontrol : t.control = s.control) (code : Pod → Byte) (hcode : ∀ p ∈ l, (s.gate p).state.code = code p) :
    s.moveGates st c l = { s with
      automixer := (s.moveGates st c l).automixer
      control := (l.foldl (fun t p => t.post .gate 0xE5 [podByte p, code p, st.code, c.code]) t).control } := by
  have hreports : l.map (gateReport s st c) =
      (l.map fun p => [podByte p, code p, st.code, c.code]).map fun e => ((.gate, 0xE5, e) : Report) := by
    rw [List.map_map]
    refine List.map_congr_left fun p hp => ?_
    rw [gateReport, hcode p hp]
    rfl
  have hposts := foldl_gateEvents (l.map fun p => [podByte p, code p, st.code, c.code]) t
  rw [List.foldl_map] at hposts
  rw [hposts, ← hreports, hcontrol]
  exact moveGates_frame hn s

/-! ### Step 2 (R69) -/

/-- R69, R71: a fallen limit evicts holders, the first victims. -/
theorem step2_evicts {s : State} (hs : GatesSound s) : ∃ evicted : List Pod,
    s.step2 = s.takeLimit.moveGates .closed .evicted evicted ∧
    evicted.Pairwise (fun v w => victimKey s v < victimKey s w) ∧ (∀ v ∈ evicted, v ∈ s.holders) ∧
    (∀ v ∈ evicted, ∀ w ∈ s.holders, w ∉ evicted → victimKey s v < victimKey s w) ∧
    evicted.length = s.holders.length - s.automixer.pendingLimit.getD s.automixer.limit := by
  obtain ⟨evicted, heq, hsorted, hholds, hfirst, hlength⟩ := evict_eq 24 s.takeLimit
  have hkey (p : Pod) : victimKey s.takeLimit p = victimKey s p := by
    rw [takeLimit_eq]
    exact victimKey_congr rfl rfl
  have hholders : s.takeLimit.holders = s.holders := by
    rw [takeLimit_eq]
    rfl
  have hlimit : s.takeLimit.automixer.limit = s.automixer.pendingLimit.getD s.automixer.limit := by rw [takeLimit_eq]
  have hlen := holders_length_le s
  simp only [hkey, hholders, hlimit] at hsorted hholds hfirst hlength
  exact ⟨evicted, heq, hsorted, hholds, hfirst, by omega⟩

/-- R69, R71: step 2. -/
theorem evictions (s : State) (hs : GatesSound s) :
    let level (p : Pod) : Int := (s.detectors[podChannel p]).smoothed
    let priority (p : Pod) : Nat := (s.gate p).priority
    let state (p : Pod) : GateState := (s.gate p).state
    let victim (v w : Pod) : Prop := priority v < priority w ∨ (priority v = priority w ∧
      ((state v = .hold ∧ state w = .opened) ∨ (state v = state w ∧
        (level v < level w ∨ (level v = level w ∧ w < v)))));
    let u := s.step2;
    u.automixer.limit = s.automixer.pendingLimit.getD s.automixer.limit ∧ u.automixer.pendingLimit = none ∧
    u.automixer.waitQueue = s.automixer.waitQueue ∧ u.holders.length = min s.holders.length u.automixer.limit ∧
    (∀ p : Pod, (p ∉ s.holders → u.gate p = s.gate p) ∧
      (p ∈ s.holders → u.gate p = s.gate p ∨ (u.gate p = { s.gate p with state := .closed, count := 0 } ∧
        ∀ w ∈ u.holders, victim p w))) ∧
    ∃ evicted : List Pod, evicted.Pairwise victim ∧ (∀ p : Pod, p ∈ evicted ↔ p ∈ s.holders ∧ p ∉ u.holders) ∧
      u = { s with
            automixer := u.automixer
            control := (evicted.foldl (fun t p => t.post .gate 0xE5 [podByte p, (state p).code, 0, 5]) s).control } := by
  intro level priority state victim u
  obtain ⟨evicted, heq, hsorted, hholds, hfirst, hlength⟩ := step2_evicts hs
  have hn : evicted.Nodup := hsorted.imp fun hlt e => (e ▸ hlt).false
  obtain ⟨hlimit, hpending, -⟩ := moveGates_kept hn (st := .closed) (c := .evicted) s.takeLimit
  have hqueue := moveGates_waitQueue .closed .evicted hn s.takeLimit
  have hholders := moveGates_holders .closed .evicted hn s.takeLimit rfl
  have hgate := moveGates_gate .closed .evicted hn s.takeLimit
  have hevents := moveGates_events .closed .evicted hn (s := s.takeLimit) (t := s) (by rw [takeLimit_eq])
    (fun p => (state p).code) fun p _ => by rw [takeLimit_eq]; rfl
  rw [← heq, takeLimit_eq] at hlimit hpending hqueue hholders hgate hevents
  have hholders : u.holders = s.holders.filter fun p => decide (p ∉ evicted) := hholders
  have hgate (p : Pod) : u.gate p = if p ∈ evicted then { s.gate p with state := .closed, count := 0 } else s.gate p :=
    hgate p
  have hmem (p : Pod) : p ∈ u.holders ↔ p ∈ s.holders ∧ p ∉ evicted := by
    rw [hholders, List.mem_filter, decide_eq_true_iff]
  have hlen : u.holders.length = s.holders.length - evicted.length := by
    have hperm : (s.holders.filter fun p => decide (p ∈ evicted)).Perm evicted :=
      (List.perm_ext_iff_of_nodup ((nodup_holders s).filter _) hn).2 fun p => by
        rw [List.mem_filter, decide_eq_true_iff]
        exact ⟨And.right, fun hp => ⟨hholds p hp, hp⟩⟩
    have hsplit := List.length_eq_length_filter_add (l := s.holders) fun p => decide (p ∈ evicted)
    have hnot : (s.holders.filter fun p => !decide (p ∈ evicted)) = u.holders := by
      rw [hholders]
      simp only [decide_not]
    rw [hperm.length_eq, hnot] at hsplit
    omega
  have hbefore {v w : Pod} (hv : v ∈ s.holders) (hw : w ∈ s.holders) (hlt : victimKey s v < victimKey s w) : victim v w :=
    (victim_of_holders hv hw).1 hlt
  refine ⟨hlimit, hpending, ?_, ?_, fun p => ⟨fun hp => ?_, fun hp => ?_⟩, evicted,
    hsorted.imp_of_mem fun ha hb hlt => hbefore (hholds _ ha) (hholds _ hb) hlt, fun p => ?_, hevents⟩
  · refine Eq.trans hqueue (List.filter_eq_self.2 fun p hp => decide_eq_true fun he => ?_)
    exact hs.not_holds_of_waits hp (hholds p he)
  · rw [hlen, hlength, show u.automixer.limit = s.automixer.pendingLimit.getD s.automixer.limit from hlimit]
    omega
  · rw [hgate, if_neg fun he => hp (hholds p he)]
  · by_cases he : p ∈ evicted
    · refine .inr ⟨by rw [hgate, if_pos he], fun w hw => ?_⟩
      obtain ⟨hw, hkept⟩ := (hmem w).1 hw
      exact hbefore hp hw (hfirst p he w hw hkept)
    · exact .inl (by rw [hgate, if_neg he])
  · rw [hmem, not_and, not_not]
    exact ⟨fun he => ⟨hholds p he, fun _ => he⟩, fun ⟨hp, he⟩ => he hp⟩
/-! ### Step 3 (R72) -/

/-- Of two entries of a list without repeats the earlier has the lower index. -/
theorem idxOf_lt_of_sublist {l : List Pod} (hn : l.Nodup) {p q : Pod} (h : [p, q].Sublist l) : l.idxOf p < l.idxOf q := by
  have hne : p ≠ q := fun e => List.nodup_iff_sublist.1 hn p (by rwa [← e] at h)
  obtain ⟨r₁, r₂, rfl, hp, hq⟩ := List.cons_sublist_iff.1 h
  have hq : q ∈ r₂ := List.singleton_sublist.1 hq
  have hnot : q ∉ r₁ := fun hq₁ => List.disjoint_of_nodup_append hn hq₁ hq
  rw [List.idxOf_append_of_mem hp, List.idxOf_append_of_notMem hnot]
  exact Nat.lt_add_right _ (List.idxOf_lt_length_of_mem hp)

/-- R72: step 3. -/
theorem grants (s : State) (hs : GatesSound s) :
    let priority (p : Pod) : Nat := (s.gate p).priority
    let u := s.step3.1;
    let granted := s.step3.2;
    let place (p : Pod) : Nat := s.automixer.waitQueue.idxOf p;
    let sooner (p q : Pod) : Prop := priority q < priority p ∨ (priority q = priority p ∧ place p < place q);
    granted.length = min (s.automixer.limit - s.holders.length) s.automixer.waitQueue.length ∧
    granted.Pairwise sooner ∧ (∀ p ∈ granted, p ∈ s.automixer.waitQueue) ∧
    (∀ p ∈ granted, ∀ q ∈ s.automixer.waitQueue, q ∉ granted → sooner p q) ∧
    u.automixer.waitQueue = s.automixer.waitQueue.filter (· ∉ granted) ∧
    (∀ p : Pod, u.gate p = if p ∈ granted then { s.gate p with state := .opened, count := 0 } else s.gate p) ∧
    u = { s with
          automixer := u.automixer
          control := (granted.foldl (fun t p => t.post .gate 0xE5 [podByte p, 2, 3, 0]) s).control } := by
  intro priority u granted place sooner
  obtain ⟨granted', heq, hn, hwait, hsorted, hfirst, hlength⟩ := grant_eq 24 hs
  have hu : u = s.moveGates .opened .grant granted' := congrArg Prod.fst heq
  have hgranted : granted = granted' := congrArg Prod.snd heq
  have hqueue : s.automixer.waitQueue.length ≤ 24 := hs.2.1.length_le_card
  have hbefore {p q : Pod} (h : Sooner s s.automixer.waitQueue p q) : sooner p q :=
    h.imp_right fun ⟨hpriority, hsub⟩ => ⟨hpriority, idxOf_lt_of_sublist hs.2.1 hsub⟩
  clear_value u granted
  subst hu hgranted
  refine ⟨by omega, hsorted.imp hbefore, hwait, fun p hp q hq hnot => hbefore (hfirst p hp q hq hnot),
    moveGates_waitQueue .opened .grant hn s, moveGates_gate .opened .grant hn s,
    moveGates_events .opened .grant hn rfl (fun _ => 2) fun p hp => ?_⟩
  rw [(hs.2.2.1 p).1 (hwait p hp)]
  rfl

/-! ### Step 4 (R70) -/

/-- R70: the requests that step 4 takes, in their order. -/
theorem due_requests (s : State) (hs : GatesSound s) :
    let level (p : Pod) : Int := (s.detectors[podChannel p]).smoothed
    let priority (p : Pod) : Nat := (s.gate p).priority
    ∃ due : List Pod, s.step4 = State.requests due { s with automixer := { s.automixer with collected := [] } } ∧
      due.Perm (s.automixer.collected.filter fun p => (s.gate p).state == .pending) ∧
      due.Pairwise fun p q => priority q < priority p ∨ (priority p = priority q ∧
        (level q < level p ∨ (level p = level q ∧ p < q))) := by
  intro level priority
  refine ⟨_, rfl, ?_, ?_⟩
  · exact List.perm_insertionSort _ _
  · exact (sortPods_pairwise (requestKey_injective s) (hs.2.2.2.1.filter _) fun _ _ _ _ => requestBefore_iff).imp
      requestKey_lt_iff.1

theorem filter_bne_of_notMem {l : List Pod} {p : Pod} (h : p ∉ l) : l.filter (· != p) = l :=
  List.filter_eq_self.2 fun q hq => by rw [bne_iff_ne]; exact fun e => h (e ▸ hq)

/-- A channel that neither waits nor has a request collected leaves neither list as its gate moves. -/
theorem gateTo_of_notMem {s : State} {p : Pod} (st : GateState) (hq : p ∉ s.automixer.waitQueue) (hc : p ∉ s.automixer.collected) :
    (s.setGateState p st 0).dequeueGate p = s.setGateState p st 0 := by
  rw [State.dequeueGate, show (s.setGateState p st 0).automixer.waitQueue = s.automixer.waitQueue from rfl,
    show (s.setGateState p st 0).automixer.collected = s.automixer.collected from rfl, filter_bne_of_notMem hq,
    filter_bne_of_notMem hc]
  rfl

/-- R70: what one request does. -/
theorem requests_one_at_a_time (s : State) (hs : GatesSound s) (p : Pod) :
    let level (p : Pod) : Int := (s.detectors[podChannel p]).smoothed
    let priority (p : Pod) : Nat := (s.gate p).priority
    let state (p : Pod) : GateState := (s.gate p).state
    let victim (v w : Pod) : Prop := priority v < priority w ∨ (priority v = priority w ∧
      ((state v = .hold ∧ state w = .opened) ∨ (state v = state w ∧
        (level v < level w ∨ (level v = level w ∧ w < v)))));
    state p = .pending → p ∉ s.automixer.collected →
      let moved (v : Pod) (st : GateState) (cause : Byte) (t : State) : State :=
        { t with automixer := { t.automixer with
            gates := Vec.put t.automixer.gates v { t.gate v with state := st, count := 0 } } }.post .gate 0xE5
          [podByte v, (t.gate v).state.code, st.code, cause]
      (s.holders.length < s.automixer.limit → s.request p = (moved p .opened 0 s, true)) ∧
      (s.automixer.limit ≤ s.holders.length → ∀ v ∈ s.holders, (∀ w ∈ s.holders, w ≠ v → victim v w) →
        v ∉ s.automixer.collected →
        (priority v < priority p → s.request p = (moved p .opened 0 (moved v .closed 4 s), true)) ∧
        (priority p ≤ priority v → s.request p =
          (moved p .waiting 1 { s with automixer := { s.automixer with waitQueue := s.automixer.waitQueue ++ [p] } },
            false))) := by
  intro level priority state victim hpending hcollected moved
  have hqueue : p ∉ s.automixer.waitQueue := fun h => by
    have hwaits := (hs.2.2.1 p).1 h
    rw [show (s.gate p).state = .pending from hpending] at hwaits
    cases hwaits
  have hopen {t : State} (hq : p ∉ t.automixer.waitQueue) (hc : p ∉ t.automixer.collected) :
      t.openGate p = moved p .opened 0 t := by
    rw [State.openGate, gateTo_of_notMem .opened hq hc]
    rfl
  refine ⟨fun hfree => ?_, fun hfull v hv hfirst hvc => ?_⟩
  · rw [State.request, if_pos hfree, hopen hqueue hcollected]
  · have hvictim : s.victim = some v :=
      victim_eq_some hv fun w hw hne => (victim_of_holders hv hw).2 (hfirst w hw hne)
    have hclosed : s.releaseGate v .preempted = moved v .closed 4 s := by
      rw [State.releaseGate, gateTo_of_notMem .closed (fun h => hs.not_holds_of_waits h hv) hvc]
      rfl
    refine ⟨fun hlower => ?_, fun hnot => ?_⟩
    · have haside := releaseGate_automixer v .preempted s
      have hq : p ∉ (s.releaseGate v .preempted).automixer.waitQueue := fun h => by
        rw [haside] at h
        exact hqueue (List.mem_filter.1 h).1
      have hc : p ∉ (s.releaseGate v .preempted).automixer.collected := fun h => by
        rw [haside] at h
        exact hcollected (List.mem_filter.1 h).1
      rw [hclosed] at hq hc
      rw [State.request, if_neg (Nat.not_lt.2 hfull), hvictim]
      simp only
      rw [if_pos hlower, hclosed, hopen hq hc]
    · rw [State.request, if_neg (Nat.not_lt.2 hfull), hvictim]
      simp only
      rw [if_neg (Nat.not_lt.2 hnot)]
      rfl

/-! ### The four steps -/

/-- Settles O24. The boundary's part is that of the works at steady links; each step is read off the gates that it moves, in
the order of the keys of R70 and R71. -/
theorem automixerWorkAtABoundary : Obligations.AutomixerWorkAtABoundary := by
  unfold Obligations.AutomixerWorkAtABoundary
  refine ⟨fun order trunks s hreset hquiet => ?_, fun s hs => ?_, fun s hs => ⟨?_, ?_, fun due u => ?_, ?_, fun p => ?_⟩⟩
  · have h := automixerWork_at_quiet_boundary order trunks s hreset hquiet
    rw [State.gatesMoved] at h
    exact h
  · exact judgements s hs
  · exact evictions s hs
  · exact grants s hs
  · exact requests_state due u
  · exact due_requests s hs
  · exact requests_one_at_a_time s hs p

end Sys2Proof.Machine
end

section
/-! SUPPORT. The works of a boundary that post no KEY report (R108, R109): all but the mute controller's passes, and takes at
which a link changes state. -/

namespace Sys2Proof.Machine

/-- A report type other than KEY_EVENT and TALK_REQUEST. -/
abbrev NoKey (ty : Byte) : Prop := ty ≠ 0xE3 ∧ ty ≠ 0xE4

/-- From `s` to `t` no KEY report is posted. -/
def Unkeyed (s t : State) : Prop := Posts NoKey s.control t.control

theorem Unkeyed.trans {s t u : State} (h : Unkeyed s t) (k : Unkeyed t u) : Unkeyed s u := Posts.trans h k

theorem Unkeyed.of_control {s t : State} (h : t.control = s.control) : Unkeyed s t := by
  rw [Unkeyed, h]
  exact .none

theorem Unkeyed.refl (s : State) : Unkeyed s s := .of_control rfl

theorem Unkeyed.foldl {α : Type} {f : State → α → State} (h : ∀ t a, Unkeyed t (f t a)) (l : List α) (s : State) :
    Unkeyed s (l.foldl f s) := by
  induction l generalizing s with
  | nil => exact .refl s
  | cons a rest ih => exact (h s a).trans (ih _)

theorem post_unkeyed (c : Category) (ty : Byte) (l : List Byte) (hty : NoKey ty) (s : State) : Unkeyed s (s.post c ty l) := by
  unfold State.post
  split
  · exact .report ty l hty .none
  · exact .refl s

theorem post_unkeyed_of {s u : State} (h : u.control = s.control) (c : Category) (ty : Byte) (l : List Byte) (hty : NoKey ty) :
    Unkeyed s (u.post c ty l) := (Unkeyed.of_control h).trans (post_unkeyed c ty l hty u)

/-! ### The automixer's work -/

section
variable (p : Pod) (s : State)

theorem gateEvent_unkeyed (a b : GateState) (c : GateCause) : Unkeyed s (s.gateEvent p a b c) :=
  post_unkeyed _ 0xE5 _ (by decide) s

theorem releaseGate_unkeyed (c : GateCause) : Unkeyed s (s.releaseGate p c) :=
  gateEvent_unkeyed p ((s.setGateState p .closed 0).dequeueGate p) _ _ _

theorem openGate_unkeyed : Unkeyed s (s.openGate p) := gateEvent_unkeyed p ((s.setGateState p .opened 0).dequeueGate p) _ _ _

theorem enterWait_unkeyed : Unkeyed s (s.enterWait p) := by
  unfold State.enterWait State.gateEvent
  exact post_unkeyed_of (by rfl) _ 0xE5 _ (by decide)

theorem expire_unkeyed : Unkeyed s (s.expire p) := by
  unfold State.expire
  split
  · exact .refl s
  · exact releaseGate_unkeyed p s _

theorem step1_unkeyed : Unkeyed s s.step1 :=
  (Unkeyed.of_control (t := s.judgeGates) rfl).trans
    ((Unkeyed.foldl (fun t p => releaseGate_unkeyed p t _) _ _).trans (Unkeyed.foldl (fun t p => expire_unkeyed p t) _ _))

theorem evict_unkeyed (fuel : Nat) : Unkeyed s (State.evict fuel s) := by
  induction fuel generalizing s with
  | zero => exact .refl s
  | succ fuel ih =>
    unfold State.evict
    split
    · exact .refl s
    · split
      · exact .refl s
      · exact (releaseGate_unkeyed _ s _).trans (ih _)

theorem grant_unkeyed (fuel : Nat) : Unkeyed s (State.grant fuel s).1 := by
  induction fuel generalizing s with
  | zero => exact .refl s
  | succ fuel ih =>
    unfold State.grant
    split
    · exact .refl s
    · split
      · exact .refl s
      · exact (openGate_unkeyed _ s).trans (ih _)

theorem request_unkeyed : Unkeyed s (s.request p).1 := by
  unfold State.request
  split
  · exact openGate_unkeyed p s
  · split
    · exact enterWait_unkeyed p s
    · split
      · exact (releaseGate_unkeyed _ s _).trans (openGate_unkeyed p _)
      · exact enterWait_unkeyed p s

theorem step4_unkeyed : Unkeyed s s.step4.1 := by
  unfold State.step4
  rw [requests_state]
  exact Unkeyed.trans (t := { s with automixer := { s.automixer with collected := [] } }) (.of_control rfl)
    (Unkeyed.foldl (fun t p => request_unkeyed p t) _ _)

theorem gatesMoved_unkeyed : Unkeyed s s.gatesMoved := by
  have hlimit (t : State) : Unkeyed t t.step2 := (Unkeyed.of_control (takeLimit_control t)).trans (evict_unkeyed _ 24)
  exact ((((Unkeyed.of_control (takeAutomixParams_control s)).trans (step1_unkeyed _)).trans (hlimit _)).trans
    (grant_unkeyed _ 24)).trans (step4_unkeyed _)

/-! ### The players' work -/

theorem grantsToPlayers_unkeyed (granted : List Pod) : Unkeyed s (State.grantsToPlayers granted s) := by
  unfold State.grantsToPlayers
  split
  · exact .refl s
  · refine Unkeyed.foldl (fun t n => ?_) _ s
    unfold State.speechStop
    split
    · exact .of_control rfl
    · exact .refl t

theorem automixerWork_unkeyed : Unkeyed s s.automixerWork := by
  have hset (t : State) : Unkeyed t (t.retargetAfter s) := by
    rw [retargetAfter_eq]
    exact .of_control rfl
  rw [State.automixerWork, automix_state]
  exact ((gatesMoved_unkeyed s).trans (hset _)).trans (grantsToPlayers_unkeyed _ _)

variable (n : Player)

theorem playerIdle_unkeyed (reason : DoneReason) : Unkeyed s (s.playerIdle n reason) := by
  unfold State.playerIdle State.playerDone
  exact post_unkeyed_of (by rfl) _ 0xE8 _ (by decide)

theorem readFails_unkeyed (c : ClipId) (pos : Nat) (page : PageNumber) : Unkeyed s (s.readFails n c pos page) := by
  unfold State.readFails
  simp only
  split
  · exact post_unkeyed_of (by rfl) _ 0xE9 _ (by decide)
  · exact .of_control rfl

theorem readPage_unkeyed (c : ClipId) (pos : Nat) : Unkeyed s (s.readPage n c pos).1 := by
  unfold State.readPage
  split
  · exact .refl s
  · split
    · exact .refl s
    · exact readFails_unkeyed s n c pos _

theorem setPlayer_unkeyed (r : PlayerRecord) : Unkeyed s (s.setPlayer n r) := .of_control rfl

theorem visitPage_unkeyed (g : Segment) : Unkeyed s (s.visitPage n g) := by
  have hverdict (t : State) : Unkeyed t (t.faultVerdict n) := by
    unfold State.faultVerdict
    split
    · exact .of_control rfl
    · exact .refl t
  unfold State.visitPage State.enterPage
  split
  · exact .refl s
  · simp only
    split
    · exact (readPage_unkeyed s n _ _).trans (setPlayer_unkeyed _ n _)
    · exact ((readPage_unkeyed s n _ _).trans (setPlayer_unkeyed _ n _)).trans (hverdict _)

theorem endSegment_unkeyed (g : Segment) : Unkeyed s (s.endSegment n g) := by
  have hposted : Unkeyed s (s.post .player 0xE7 [playerByte n, u8 (s.player n).current, g.nextAction.code]) :=
    post_unkeyed _ 0xE7 _ (by decide) s
  unfold State.endSegment
  simp only
  split
  · exact hposted
  · exact hposted
  · exact hposted.trans (playerIdle_unkeyed _ n _)

theorem playPosition_unkeyed (i : Fin 16) : Unkeyed s (s.playPosition n i) := by
  have hsample (g : Segment) : Unkeyed s (s.takeSample n g i) := by
    have hmoved : Unkeyed s (((s.visitPage n g).placeSlot n i ((s.visitPage n g).slotNow n g)).setPlayer n
        (((s.visitPage n g).player n).advance g)) := (visitPage_unkeyed s n g).trans (.of_control rfl)
    unfold State.takeSample
    simp only
    split
    · exact hmoved.trans (endSegment_unkeyed _ n g)
    · exact hmoved
  unfold State.playPosition
  split
  · split
    · exact hsample _
    · exact .of_control rfl
  · exact .of_control rfl

theorem playerWork_unkeyed (arrived : Bool) : Unkeyed s (s.playerWork n arrived) := by
  have harrival : Unkeyed s (if arrived then s.playerArrival n else s) := by
    split
    · unfold State.playerArrival
      split
      · exact .of_control rfl
      · exact playerIdle_unkeyed s n _
      all_goals exact .refl s
    · exact .refl s
  exact harrival.trans (Unkeyed.foldl (fun t i => playPosition_unkeyed t n i) _ _)

/-! ### The other works, and the end of the boundary -/

theorem levelControl_unkeyed (before : State) : Unkeyed s (s.levelControl before) := by
  have hjump (t : State) (p : Pod) (r : AlcRecord) : Unkeyed t (t.reportJump p r) := by
    unfold State.reportJump
    split
    · exact .refl t
    · split
      · exact post_unkeyed _ 0xE6 _ (by decide) t
      all_goals exact .refl t
  have hend (t : State) : Unkeyed t t.endInterval :=
    (Unkeyed.foldl (fun u p => hjump u p _) _ t).trans (.of_control rfl)
  unfold State.levelControl State.advanceInterval
  split
  · refine Unkeyed.trans (t := s.setAlcRecords fun p r => r.judgeFrame before p) (.of_control rfl) ?_
    split
    · exact hend _
    · exact .of_control rfl
  · exact .refl s

theorem masterArrival_unkeyed : Unkeyed s s.masterArrival := by
  unfold State.masterArrival
  split
  · unfold State.setMixer
    exact post_unkeyed_of (by rfl) _ 0xEA _ (by decide)
  · exact .refl s

theorem boundary_unkeyed (order : List Work) (trunks : Vector Frame 4) : Unkeyed (s.worked order) (s.boundary order trunks) := by
  have hduck (t : State) (j : Pod) (b : Bool) : Unkeyed t (t.setDuckActive j b) := by
    rw [setDuckActive_eq]
    exact .of_control rfl
  have hjudged (t : State) : Unkeyed t (t.judgeDucks s) := Unkeyed.foldl (fun u j => hduck u j _) allPods t
  have hend (t : State) : Unkeyed t ((((t.placeTrunks trunks).measureAll).giveLeds s).sendFeeds).openPeriod := .of_control rfl
  rw [boundary_eq]
  exact (hjudged _).trans (hend _)

end

end Sys2Proof.Machine
end

section
/-! SUPPORT. The KEY reports among those that a boundary posts (R108, R109), while the queue takes them (R196). -/

namespace Sys2Proof.Machine

/-- The types and contents of the KEY reports among some messages, without their flags bytes. -/
def keyReports (x : List Message) : List (Byte × List Byte) :=
  (x.filter fun m => m.type == 0xE3 || m.type == 0xE4).map fun m => (m.type, m.payload.drop 1)

theorem keyReports_append (x y : List Message) : keyReports (x ++ y) = keyReports x ++ keyReports y := by
  simp [keyReports]

theorem keyReports_of_noKey {x : List Message} (h : ∀ m ∈ x, NoKey m.type) : keyReports x = [] := by
  rw [keyReports, List.filter_eq_nil_iff.2 fun m hm => ?_, List.map_nil]
  obtain ⟨h3, h4⟩ := h m hm
  rw [Bool.not_eq_true, Bool.or_eq_false_iff, beq_eq_false_iff_ne, beq_eq_false_iff_ne]
  exact ⟨h3, h4⟩

/-- R198: what of some KEY reports the mask lets pass. -/
def Control.heard (c : Control) (l : List (Byte × List Byte)) : List (Byte × List Byte) :=
  if c.mask.getLsbD 1 then l else []

theorem heard_append (c : Control) (l l' : List (Byte × List Byte)) : c.heard (l ++ l') = c.heard l ++ c.heard l' := by
  unfold Control.heard
  split <;> rfl

theorem heard_nil (c : Control) : c.heard [] = [] := by
  unfold Control.heard
  split <;> rfl

/-- From `c` to `d` the KEY reports of `l` are posted in their order, among others: those that the mask lets pass are queued,
or the first of them are, and the queue is full. -/
structure Tells (l : List (Byte × List Byte)) (c d : Control) : Prop where
  posts : Posts (fun _ => True) c d
  told : ∃ x : List Message, d.queue = c.queue ++ x ∧
    (keyReports x = c.heard l ∨ (d.Full ∧ keyReports x <+: c.heard l))

/-- R196: while nothing is sent, nothing is added to a full queue. -/
theorem Posts.queue_of_full {ok : Byte → Prop} {c d : Control} (h : Posts ok c d) (hc : c.Full) : d.queue = c.queue := by
  induction h with
  | none => rfl
  | report ty l _ h ih =>
    rw [enqueueReport_of_full (h.full hc).2]
    exact ih

theorem Posts.weaken {ok ok' : Byte → Prop} {c d : Control} (h : Posts ok c d) (hok : ∀ ty, ok ty → ok' ty) : Posts ok' c d := by
  induction h with
  | none => exact .none
  | report ty l hty _ ih => exact .report ty l (hok ty hty) ih

theorem Tells.trans {l l' : List (Byte × List Byte)} {c d e : Control} (h : Tells l c d) (k : Tells l' d e) :
    Tells (l ++ l') c e := by
  obtain ⟨hposts, x, hx, htold⟩ := h
  obtain ⟨kposts, y, hy, ktold⟩ := k
  have hmask (r : List (Byte × List Byte)) : d.heard r = c.heard r := by rw [Control.heard, hposts.mask_eq, Control.heard]
  refine ⟨hposts.trans kposts, ?_⟩
  rw [heard_append]
  rcases htold with heq | ⟨hfull, hprefix⟩
  · refine ⟨x ++ y, by rw [hy, hx, List.append_assoc], ?_⟩
    rw [hmask] at ktold
    rw [keyReports_append, heq]
    rcases ktold with keq | ⟨kfull, kprefix⟩
    · exact .inl (by rw [keq])
    · exact .inr ⟨kfull, (List.prefix_append_right_inj _).2 kprefix⟩
  · refine ⟨x, by rw [kposts.queue_of_full hfull, hx], .inr ⟨kposts.full hfull, hprefix.trans (List.prefix_append _ _)⟩⟩

/-- Reports of other types. -/
theorem Tells.of_noKey {c d : Control} (h : Posts NoKey c d) : Tells [] c d := by
  obtain ⟨x, hx, hother⟩ := h.queue_eq
  exact ⟨h.weaken fun _ _ => trivial, x, hx, .inl (by rw [keyReports_of_noKey hother, heard_nil])⟩

theorem Tells.refl (c : Control) : Tells [] c c := .of_noKey .none

/-- One KEY report. -/
theorem Tells.key (c : Control) {ty : Byte} (hty : ty = 0xE3 ∨ ty = 0xE4) (l : List Byte) :
    Tells [(ty, l)] c (c.report (.key, ty, l)) := by
  unfold Control.report
  cases hmask : c.mask.getLsbD 1 with
  | false =>
    rw [if_neg (by rw [show Category.key.bit = 1 from rfl, hmask]; decide)]
    exact ⟨.none, [], (List.append_nil _).symm, .inl (by rw [Control.heard, hmask]; rfl)⟩
  | true =>
    rw [if_pos (by exact hmask)]
    refine ⟨.report ty l trivial .none, ?_⟩
    have hheard : c.heard [(ty, l)] = [(ty, l)] := by rw [Control.heard, hmask]; rfl
    rw [hheard]
    rcases enqueueReport_cases ty l c with ⟨flags, hq⟩ | ⟨hq, hfull⟩
    · refine ⟨_, hq, .inl ?_⟩
      rcases hty with rfl | rfl <;> simp [keyReports]
    · exact ⟨[], by rw [hq, List.append_nil], .inr ⟨hfull, List.nil_prefix⟩⟩

theorem Tells.foldl_noKey {l : List Report} (h : ∀ e ∈ l, NoKey e.2.1) (c : Control) : Tells [] c (l.foldl Control.report c) := by
  refine .of_noKey ?_
  induction l generalizing c with
  | nil => exact .none
  | cons e rest ih =>
    have hfirst : Posts NoKey c (c.report e) := by
      unfold Control.report
      split
      · exact .report _ _ (h e List.mem_cons_self) .none
      · exact .none
    exact hfirst.trans (ih (fun r hr => h r (List.mem_cons_of_mem e hr)) _)

/-- What is read of the queue in the end. -/
theorem Tells.queued {l : List (Byte × List Byte)} {c d : Control} (h : Tells l c d) :
    keyReports (d.queue.drop c.queue.length) <+: c.heard l ∧
      (d.lost = false → keyReports (d.queue.drop c.queue.length) = c.heard l) := by
  obtain ⟨-, x, hx, htold⟩ := h
  rw [hx, List.drop_left]
  rcases htold with heq | ⟨hfull, hprefix⟩
  · exact ⟨heq ▸ List.prefix_rfl, fun _ => heq⟩
  · refine ⟨hprefix, fun hlost => ?_⟩
    rw [hfull.1] at hlost
    cases hlost

end Sys2Proof.Machine
end

section
/-! SUPPORT. What a change of reason sets makes of the gates and their ramps (R73, R78). -/

namespace Sys2Proof.Machine

/-- R73, R78: from `s` to `t` the gate of `p` and its ramp are left alone, unless the gate stood open or active and was
closed; they are not left alone where the pod has become muted. -/
structure Shuts (p : Pod) (s t : State) : Prop where
  params : t.automixer.params = s.automixer.params ∧ t.automixer.pendingParams = s.automixer.pendingParams
  gate : (t.gate p = s.gate p ∧ t.ramps.gate[p] = s.ramps.gate[p] ∧
      ((s.mutes.reasons[p]).muted = false → (t.mutes.reasons[p]).muted = true → (s.gate p).state.Shut)) ∨
    (¬ (s.gate p).state.Shut ∧ t.gate p = { s.gate p with state := .closed, count := 0 } ∧
      t.ramps.gate[p] = (s.ramps.gate[p]).setTarget (lin15 s.automixer.params.offAttenuation) s.automixer.params.release)

theorem Shuts.of_same {p : Pod} {s t : State} (ha : t.automixer = s.automixer) (hr : t.ramps.gate = s.ramps.gate)
    (hm : t.mutes.reasons[p] = s.mutes.reasons[p]) : Shuts p s t := by
  refine ⟨by rw [ha]; exact ⟨rfl, rfl⟩, .inl ⟨by rw [State.gate, ha, State.gate], by rw [hr], fun h h' => ?_⟩⟩
  rw [hm, h] at h'
  cases h'

theorem Shuts.refl (p : Pod) (s : State) : Shuts p s s := .of_same rfl rfl rfl

theorem Shuts.trans {p : Pod} {s t u : State} (h : Shuts p s t) (k : Shuts p t u) : Shuts p s u := by
  obtain ⟨⟨hparams, hpending⟩, hgate⟩ := h
  obtain ⟨⟨kparams, kpending⟩, kgate⟩ := k
  refine ⟨⟨kparams.trans hparams, kpending.trans hpending⟩, ?_⟩
  rcases hgate with ⟨hg, hr, hm⟩ | ⟨hopen, hg, hr⟩
  · rw [hg, hr, hparams] at kgate
    rcases kgate with ⟨kg, kr, km⟩ | kshut
    · refine .inl ⟨kg, kr, fun hs hu => ?_⟩
      cases ht : (t.mutes.reasons[p]).muted with
      | true => exact hm hs ht
      | false => exact km ht hu
    · exact .inr kshut
  · rcases kgate with ⟨kg, kr, -⟩ | ⟨kopen, -⟩
    · exact .inr ⟨hopen, kg.trans hg, kr.trans hr⟩
    · exact absurd (.inl (by rw [hg])) kopen

/-- The gate and the ramp as a pass over the reason sets leaves them. -/
theorem Shuts.of_pass {p : Pod} {s t : State} {r : Reasons}
    (hparams : t.automixer.params = s.automixer.params ∧ t.automixer.pendingParams = s.automixer.pendingParams)
    (hm : t.mutes.reasons[p] = r) (hg : t.gate p = ReasonPass.gate s p r) (hr : t.ramps.gate[p] = ReasonPass.gateRamp s p r) :
    Shuts p s t := by
  refine ⟨hparams, ?_⟩
  rw [hg, hr, hm, ReasonPass.gate, ReasonPass.gateRamp]
  cases hc : ReasonPass.closes s p r with
  | true => exact .inr ⟨((ReasonPass.closes_iff s p r).1 hc).2.2, rfl, rfl⟩
  | false =>
    refine .inl ⟨rfl, rfl, fun hb hmuted => Decidable.of_not_not fun hopen => ?_⟩
    rw [(ReasonPass.closes_iff s p r).2 ⟨hb, hmuted, hopen⟩] at hc
    cases hc

/-- FAULT does not come with a reason set that closes a gate, if the set keeps FAULT as it was. -/
theorem ReasonPass.fault_of_closes {s : State} {p : Pod} {r : Reasons} (hf : r.fault = (s.mutes.reasons[p]).fault)
    (h : ReasonPass.closes s p r = true) : r.fault = false := by
  obtain ⟨hb, -, -⟩ := (ReasonPass.closes_iff _ _ _).1 h
  rw [hf]
  cases hfault : (s.mutes.reasons[p]).fault with
  | false => rfl
  | true => exact absurd (Reasons.muted_of_fault hfault) (ne_true_of_eq_false hb)

section
variable {s : State} {p : Pod} {r : Reasons} (hf : r.fault = (s.mutes.reasons[p]).fault)
include hf

theorem setReasons_shuts (q : Pod) : Shuts q s (s.setReasons p r) := by
  rw [ReasonPass.setReasons_eq_gate (ReasonPass.fault_of_closes hf)]
  by_cases hq : q = p
  · subst hq
    exact .of_pass ⟨rfl, rfl⟩ (Vec.getElem_put_self _ _ _) (Vec.getElem_put_self _ _ _) (Vec.getElem_put_self _ _ _)
  · have hne : p.1 ≠ q.1 := fun e => hq (Fin.ext e).symm
    refine .of_pass (r := s.mutes.reasons[q]) ⟨rfl, rfl⟩ (Vec.getElem_put_ne _ _ _ _ q.2 hne) ?_ ?_
    · have hsame : ReasonPass.gate s q s.mutes.reasons[q] = s.gate q := by
        rw [ReasonPass.gate, if_neg]
        simp [ReasonPass.closes]
      rw [hsame]
      exact Vec.getElem_put_ne _ _ _ _ q.2 hne
    · have hsame : ReasonPass.gateRamp s q s.mutes.reasons[q] = s.ramps.gate[q] := by
        rw [ReasonPass.gateRamp, if_neg]
        simp [ReasonPass.closes]
      rw [hsame]
      exact Vec.getElem_put_ne _ _ _ _ q.2 hne

theorem setReasons_tells : Tells [] s.control (s.setReasons p r).control := by
  rw [ReasonPass.setReasons_eq_gate (ReasonPass.fault_of_closes hf)]
  dsimp only
  split
  · exact Tells.foldl_noKey (l := [ReasonPass.report s p]) (by simp [ReasonPass.report, NoKey]) _
  · exact .refl _

theorem setReasons_localMute (q : Pod) : (s.setReasons p r).ramps.localMute[q] =
    if q = p then (s.ramps.localMute[p]).muteChange s.mutes.rampLength s.mutes.reasons[p] r else s.ramps.localMute[q] := by
  rw [ReasonPass.setReasons_eq_gate (ReasonPass.fault_of_closes hf)]
  dsimp only
  split
  · rename_i hq
    rw [hq]
    exact Vec.getElem_put_self _ _ _
  · rename_i hq
    exact Vec.getElem_put_ne _ _ _ _ q.2 fun e => hq (Fin.ext e).symm

end

section
variable (s : State) (on : Bool)

theorem chairMuted_shuts (q : Pod) : Shuts q s (s.chairMuted on) :=
  .of_pass (r := s.chairReasons on q) ⟨rfl, rfl⟩ (Vec.getElem_tab _ _ q.2) (Vec.getElem_tab _ _ q.2) (Vec.getElem_tab _ _ q.2)

theorem chairMuted_tells : Tells (if on = false ∧ s.mutes.talkList ≠ [] then [(0xE4, [5, 0, 0])] else []) s.control
    (s.chairMuted on).control := by
  change Tells _ s.control ((s.chairReports on).foldl Control.report s.control)
  unfold State.chairReports
  cases on with
  | true =>
    rw [if_neg (by simp), if_pos rfl]
    refine Tells.foldl_noKey (fun e he => ?_) _
    obtain ⟨p, -, rfl⟩ := List.mem_map.1 he
    exact (by decide : NoKey 0xE5)
  | false =>
    rw [if_neg Bool.false_ne_true]
    by_cases h : s.mutes.talkList = []
    · rw [if_pos h, if_neg (by simp [h])]
      exact .refl _
    · rw [if_neg h, if_pos ⟨rfl, h⟩]
      exact Tells.key _ (.inr rfl) _

end

end Sys2Proof.Machine
end

section
/-! SUPPORT. The accepted edges of a boundary (R91, R93), and the first of the two passes: ALL presses of chair pods (R96). -/

namespace Sys2Proof.Machine

namespace KeyPass

section
variable (s : State)

/-! ### The edges (R93) and what they leave, in the words of the rules -/

/-- R93: the accepted edge of a key, by the level that a take hands over. -/
def accepted (k : KeyRecord) (level : Option Bool) : Option Bool :=
  level.filter fun v => decide (v ≠ k.pressed) && decide (s.mutes.keyGuard ≤ min 100 (k.guardAge + 1))

/-- R91, R93: the record of a key after the boundary. -/
def aged (k : KeyRecord) (edge : Option Bool) : KeyRecord :=
  match edge with
  | some v => { pressed := v, guardAge := 0 }
  | none => { pressed := k.pressed, guardAge := min 100 (k.guardAge + 1) }

def talk (p : Pod) : Option Bool := accepted s s.mutes.talkKey[p] ((s.handedKeys p).map Prod.fst)

def all (p : Pod) : Option Bool := accepted s s.mutes.allKey[p] ((s.handedKeys p).map Prod.snd)

/-- R96: whether the pod turns the chair-mute flag over. -/
def turns (p : Pod) : Bool := s.session.roster.chairs[p] && all s p == some true

/-- How often the flag is turned over by the pods before position `k`. -/
def presses (k : Nat) : Nat := (((List.finRange 24).take k).filter (turns s)).length

/-- The flag after `n` turns. -/
def flag (n : Nat) : Bool := s.mutes.chairMute != decide (n % 2 = 1)

/-- R97, R98: the reason set after `n` turns of the flag. -/
def reasonsAt (n : Nat) (p : Pod) : Reasons :=
  { s.mutes.reasons[p] with
    chair :=
      if n = 0 then (s.mutes.reasons[p]).chair
      else flag s n && ((decide (n = 1) && (s.mutes.reasons[p]).chair) ||
        (s.session.roster.pods[p] && !s.session.roster.chairs[p])) }

/-- The turn of the flag that clears it, after which the talk-request list is empty (R98). -/
def cleared : Nat := if s.mutes.chairMute then 1 else 2

/-- The talk-request list after `n` turns of the flag. -/
def listAt (n : Nat) : List Pod := if n < cleared s then s.mutes.talkList else []

/-- R87: the local mute ramp after `n` turns of the flag. -/
def muteSteps (n : Nat) (p : Pod) (r : Ramp) : Ramp :=
  (List.range n).foldl (fun r n => r.muteChange s.mutes.rampLength (reasonsAt s n p) (reasonsAt s (n + 1) p)) r

/-- R108, R101: the KEY reports of a pod in the first pass. -/
def allReports (p : Pod) : List (Byte × List Byte) :=
  match all s p with
  | none => []
  | some v =>
    (0xE3, [podByte p, 1, bit8 v, (reasonsAt s (presses s (p.1 + 1)) p).byte, bit8 (flag s (presses s (p.1 + 1)))]) ::
      if turns s p = true ∧ presses s (p.1 + 1) = cleared s ∧ s.mutes.talkList ≠ [] then [(0xE4, [5, 0, 0])] else []

/-! ### Turning the flag over -/

theorem take_succ (p : Pod) : (List.finRange 24).take (p.1 + 1) = (List.finRange 24).take p.1 ++ [p] := by
  rw [List.take_succ_eq_append_getElem (by rw [List.length_finRange]; exact p.2)]
  simp

theorem presses_succ (p : Pod) : presses s (p.1 + 1) = presses s p.1 + if turns s p then 1 else 0 := by
  rw [presses, take_succ, List.filter_append, List.length_append, presses]
  cases h : turns s p <;> simp [h]

theorem flag_zero : flag s 0 = s.mutes.chairMute := by simp [flag]

theorem flag_succ (n : Nat) : flag s (n + 1) = !flag s n := by
  have hodd : decide ((n + 1) % 2 = 1) = !decide (n % 2 = 1) := by
    rw [← decide_not, decide_eq_decide]
    omega
  rw [flag, flag, hodd]
  cases s.mutes.chairMute <;> cases decide (n % 2 = 1) <;> rfl

/-- Each turn gives CHAIR as SET_CHAIR_MUTE does. -/
theorem reasonsAt_succ (n : Nat) (p : Pod) : reasonsAt s (n + 1) p =
    { reasonsAt s n p with
      chair := flag s (n + 1) && ((reasonsAt s n p).chair || (s.session.roster.pods[p] && !s.session.roster.chairs[p])) } := by
  rw [reasonsAt, if_neg (Nat.succ_ne_zero n)]
  cases n with
  | zero => simp [reasonsAt]
  | succ n =>
    have hnot : decide (n + 1 + 1 = 1) = false := decide_eq_false (by omega)
    rw [hnot, reasonsAt, if_neg (Nat.succ_ne_zero n), flag_succ s (n + 1)]
    cases flag s (n + 1) <;> simp

theorem listAt_succ (n : Nat) : listAt s (n + 1) = if flag s (n + 1) then listAt s n else [] := by
  have hflag : flag s (n + 1) = (s.mutes.chairMute != decide ((n + 1) % 2 = 1)) := rfl
  rw [hflag, listAt, listAt, cleared]
  cases hon : s.mutes.chairMute with
  | true =>
    have hlate : ¬ n + 1 < 1 := by omega
    by_cases hn : n < 1
    · obtain rfl : n = 0 := by omega
      simp
    · simp [hn]
  | false =>
    by_cases hn : n = 0
    · subst hn
      simp
    · by_cases h1 : n = 1
      · subst h1
        simp
      · have h2 : ¬ n < 2 := by omega
        simp [h2, hn]

/-- The list is cleared, and the clearing reported, at one turn only. -/
theorem clears_iff (n : Nat) :
    (flag s (n + 1) = false ∧ listAt s n ≠ []) ↔ (n + 1 = cleared s ∧ s.mutes.talkList ≠ []) := by
  have hflag : flag s (n + 1) = (s.mutes.chairMute != decide ((n + 1) % 2 = 1)) := rfl
  rw [hflag, listAt, cleared]
  cases hon : s.mutes.chairMute with
  | true =>
    by_cases hn : n < 1
    · obtain rfl : n = 0 := by omega
      simp
    · simp [hn, show n ≠ 0 by omega]
  | false =>
    by_cases hn : n < 2
    · obtain rfl | rfl : n = 0 ∨ n = 1 := by omega
      all_goals simp
    · have h2 : n + 1 ≠ 2 := by omega
      simp [hn, h2]

theorem muteSteps_succ (n : Nat) (p : Pod) (r : Ramp) : muteSteps s (n + 1) p r =
    (muteSteps s n p r).muteChange s.mutes.rampLength (reasonsAt s n p) (reasonsAt s (n + 1) p) := by
  rw [muteSteps, List.range_succ, List.foldl_append]
  rfl

/-- What the first pass hands from pod to pod. -/
structure AllDone (u₀ : State) (k : Nat) (u : State) : Prop where
  mutes : u.mutes = { s.mutes with
    chairMute := flag s (presses s k)
    talkList := listAt s (presses s k)
    reasons := Vec.tab (reasonsAt s (presses s k))
    talkKey := Vec.tab fun p => (s.mutes.talkKey[p]).older
    allKey := Vec.tab fun p => if p.1 < k then aged s.mutes.allKey[p] (all s p) else (s.mutes.allKey[p]).older }
  roster : u.session.roster = s.session.roster
  localMute : ∀ p : Pod, u.ramps.localMute[p] = muteSteps s (presses s k) p u₀.ramps.localMute[p]
  shuts : ∀ p : Pod, Shuts p u₀ u
  tells : Tells (((List.finRange 24).take k).flatMap (allReports s)) u₀.control u.control

/-- The reports of a chair-mute flag turned over, with the frame that the pass needs. -/
theorem chairMuted_turned {u : State} {n : Nat} (hflag : u.mutes.chairMute = flag s n) (hlist : u.mutes.talkList = listAt s n)
    (hreasons : u.mutes.reasons = Vec.tab (reasonsAt s n)) (hroster : u.session.roster = s.session.roster) :
    (u.chairMuted (!u.mutes.chairMute)).mutes = { u.mutes with
        chairMute := flag s (n + 1), talkList := listAt s (n + 1), reasons := Vec.tab (reasonsAt s (n + 1)) } ∧
      ∀ p : Pod, (u.chairMuted (!u.mutes.chairMute)).ramps.localMute[p] =
        (u.ramps.localMute[p]).muteChange u.mutes.rampLength (reasonsAt s n p) (reasonsAt s (n + 1) p) := by
  have hon : (!u.mutes.chairMute) = flag s (n + 1) := by rw [hflag, flag_succ]
  have hget (p : Pod) : u.mutes.reasons[p] = reasonsAt s n p := by
    rw [hreasons]
    exact Vec.getElem_tab _ _ p.2
  have hnew (p : Pod) : u.chairReasons (flag s (n + 1)) p = reasonsAt s (n + 1) p := by
    rw [State.chairReasons, hget, hroster, reasonsAt_succ]
  rw [hon, listAt_succ, ← hlist]
  refine ⟨?_, fun p => ?_⟩
  · change ({ u.mutes with chairMute := _, reasons := Vec.tab (u.chairReasons (flag s (n + 1))), talkList := _ } : Mutes) = _
    rw [funext hnew]
  · refine Eq.trans (Vec.getElem_tab _ _ p.2) ?_
    rw [hget, hnew]

/-- R93: a level taken past the guard. -/
theorem accepted_eq (k : KeyRecord) (v : Bool) :
    accepted s k (some v) = if k.older.accepts s.mutes.keyGuard v then some v else none := by
  have hne : decide (v ≠ k.pressed) = decide (k.pressed ≠ v) := decide_eq_decide.2 ne_comm
  rw [accepted, KeyRecord.accepts, KeyRecord.older, Option.filter_some, hne]

theorem older_eq_aged (k : KeyRecord) : k.older = aged k none := rfl

/-- A level handed over, where none is a first take. -/
structure Handed (keys : TakenKeys) : Prop where
  first : ∀ p : Pod, ∀ k ∈ keys[p], k.first = false
  levels : ∀ p : Pod, (keys[p]).map (fun k => (k.talk, k.all)) = s.handedKeys p

/-- A pod's turn in a pass. -/
def turn (one : Pod → KeyLevels → State → State) (keys : TakenKeys) (u : State) (p : Pod) : State :=
  match keys[p] with
  | some k => one p k u
  | none => u

theorem keyPass_eq (one : Pod → KeyLevels → State → State) (keys : TakenKeys) (u : State) :
    keyPass one keys u = (List.finRange 24).foldl (turn one keys) u := rfl

variable {keys : TakenKeys} (hkeys : Handed s keys) {u₀ u : State} {p : Pod}
include hkeys

/-- A pod's turn in the first pass. -/
theorem all_turn (hrecord : u.mutes.allKey[p] = (s.mutes.allKey[p]).older) (hguard : u.mutes.keyGuard = s.mutes.keyGuard) :
    (all s p = none → turn State.takeAllLevel keys u p = u) ∧
      ∀ v, all s p = some v → turn State.takeAllLevel keys u p =
        (u.setAllKey p { pressed := v, guardAge := 0 }).acceptEdge p true v (State.allEdge p v) := by
  unfold turn
  have hlevels := hkeys.levels p
  cases hk : keys[p] with
  | none =>
    rw [hk] at hlevels
    exact ⟨fun _ => rfl, fun v hv => by rw [all, ← hlevels] at hv; cases hv⟩
  | some k =>
    have hfirst := hkeys.first p k (by rw [hk]; rfl)
    rw [hk] at hlevels
    have hall : all s p = if (s.mutes.allKey[p]).older.accepts s.mutes.keyGuard k.all then some k.all else none := by
      rw [all, ← hlevels]
      exact accepted_eq s _ _
    simp only [State.takeAllLevel, hfirst, Bool.false_eq_true, if_false, hrecord, hguard, hall]
    split
    · refine ⟨fun h => (by cases h), fun v hv => ?_⟩
      cases hv
      rfl
    · exact ⟨fun _ => rfl, fun v hv => by cases hv⟩

end

section
variable {s : State}

theorem acceptEdge_eq (p : Pod) (isAll level : Bool) (effect : State → State) (u : State) :
    u.acceptEdge p isAll level effect = effect (u.reported [(.key, 0xE3, [podByte p, bit8 isAll, bit8 level,
      ((effect u).mutes.reasons[p]).byte, bit8 (effect u).mutes.chairMute])]) := by
  rw [State.acceptEdge, State.keyEvent]
  exact congrArg effect (post_eq_reported (.key, 0xE3, _) u)

theorem allEdge_eq (p : Pod) (v : Bool) (u : State) :
    u.allEdge p v = if (v && u.session.roster.chairs[p]) = true then u.chairMuted (!u.mutes.chairMute) else u := by
  unfold State.allEdge
  split
  · rw [setChairMute_eq, if_neg (by simp)]
  · rfl

/-- The first pass, one pod further, where no edge is accepted. -/
theorem AllDone.of_none {u₀ u : State} {p : Pod} (h : AllDone s u₀ p.1 u) (hp : all s p = none) : AllDone s u₀ (p.1 + 1) u := by
  have hturns : turns s p = false := by simp [turns, hp]
  have hpresses : presses s (p.1 + 1) = presses s p.1 := by rw [presses_succ, hturns]; rfl
  have hrecords : (Vec.tab fun q => if q.1 < p.1 + 1 then aged s.mutes.allKey[q] (all s q) else (s.mutes.allKey[q]).older) =
      Vec.tab fun q : Pod => if q.1 < p.1 then aged s.mutes.allKey[q] (all s q) else (s.mutes.allKey[q]).older := by
    rw [← Vec.put_tab_lt, hp, ← older_eq_aged]
    have hself : (Vec.tab fun q : Pod => if q.1 < p.1 then aged s.mutes.allKey[q] (all s q) else (s.mutes.allKey[q]).older)[p] =
        (s.mutes.allKey[p]).older := by simp
    rw [← hself, Vec.put_same]
  refine ⟨?_, h.roster, ?_, h.shuts, ?_⟩
  · rw [hpresses, hrecords]
    exact h.mutes
  · rw [hpresses]
    exact h.localMute
  · rw [take_succ, List.flatMap_append, List.flatMap_singleton, allReports, hp]
    simpa using h.tells

/-- R96: the effect of an accepted ALL edge on a state that the pass has reached. -/
theorem allEdge_spec {u : State} {p : Pod} {v : Bool} (hp : all s p = some v) (hroster : u.session.roster = s.session.roster)
    (hflag : u.mutes.chairMute = flag s (presses s p.1)) (hlist : u.mutes.talkList = listAt s (presses s p.1))
    (hreasons : u.mutes.reasons = Vec.tab (reasonsAt s (presses s p.1))) (hlength : u.mutes.rampLength = s.mutes.rampLength) :
    let n := presses s (p.1 + 1)
    (u.allEdge p v).mutes = { u.mutes with chairMute := flag s n, talkList := listAt s n, reasons := Vec.tab (reasonsAt s n) } ∧
      (u.allEdge p v).session = u.session ∧
      (∀ (q : Pod) (r : Ramp), u.ramps.localMute[q] = muteSteps s (presses s p.1) q r →
        (u.allEdge p v).ramps.localMute[q] = muteSteps s n q r) ∧
      (∀ q : Pod, Shuts q u (u.allEdge p v)) ∧
      Tells (if turns s p = true ∧ n = cleared s ∧ s.mutes.talkList ≠ [] then [(0xE4, [5, 0, 0])] else []) u.control
        (u.allEdge p v).control := by
  intro n
  have hn : n = presses s p.1 + if turns s p then 1 else 0 := presses_succ s p
  have hturns : (v && u.session.roster.chairs[p]) = turns s p := by
    rw [turns, hp, hroster]
    cases v <;> simp
  rw [allEdge_eq, hturns]
  cases hturn : turns s p with
  | false =>
    rw [hturn, if_neg Bool.false_ne_true, Nat.add_zero] at hn
    rw [if_neg Bool.false_ne_true, if_neg (fun h => Bool.false_ne_true h.1), hn, ← hflag, ← hlist, ← hreasons]
    exact ⟨rfl, rfl, fun q r h => h, fun q => .refl q u, .refl _⟩
  | true =>
    rw [hturn, if_pos rfl] at hn
    obtain ⟨hmutes, hramps⟩ := chairMuted_turned s hflag hlist hreasons hroster
    rw [if_pos rfl, hn]
    refine ⟨hmutes, rfl, fun q r h => ?_, fun q => chairMuted_shuts u _ q, ?_⟩
    · rw [hramps, h, hlength, muteSteps_succ]
    · have htells := chairMuted_tells u (!u.mutes.chairMute)
      rw [hflag, hlist, ← flag_succ] at htells
      rw [hflag, ← flag_succ]
      convert htells using 2
      rw [clears_iff, eq_self_iff_true, true_and]

/-- The first pass, one pod further, where an edge is accepted. -/
theorem AllDone.of_some {u₀ u : State} {p : Pod} {v : Bool} (h : AllDone s u₀ p.1 u) (hp : all s p = some v) :
    AllDone s u₀ (p.1 + 1)
      ((u.setAllKey p { pressed := v, guardAge := 0 }).acceptEdge p true v (State.allEdge p v)) := by
  generalize hw : u.setAllKey p { pressed := v, guardAge := 0 } = w
  have hmutes : w.mutes = { u.mutes with allKey := Vec.put u.mutes.allKey p { pressed := v, guardAge := 0 } } := by rw [← hw]; rfl
  have hsession : w.session = u.session := by rw [← hw]; rfl
  have hramps : w.ramps = u.ramps := by rw [← hw]; rfl
  have hcontrol : w.control = u.control := by rw [← hw]; rfl
  have hshuts (q : Pod) : Shuts q u w := .of_same (by rw [← hw]; rfl) (by rw [hramps]) (by rw [hmutes])
  clear hw
  have hspec (y : State) (hm : y.mutes = w.mutes) (hs : y.session = w.session) :=
    allEdge_spec (u := y) hp (by rw [hs, hsession]; exact h.roster) (by rw [hm, hmutes, h.mutes]) (by rw [hm, hmutes, h.mutes])
      (by rw [hm, hmutes, h.mutes]) (by rw [hm, hmutes, h.mutes])
  obtain ⟨heffect, -⟩ := hspec w rfl rfl
  rw [acceptEdge_eq]
  generalize hx : w.reported [(.key, 0xE3, [podByte p, bit8 true, bit8 v,
    ((w.allEdge p v).mutes.reasons[p]).byte, bit8 (w.allEdge p v).mutes.chairMute])] = x
  have hxmutes : x.mutes = w.mutes := by rw [← hx]; rfl
  have hxramps : x.ramps = w.ramps := by rw [← hx]; rfl
  have hxsession : x.session = w.session := by rw [← hx]; rfl
  have hxshuts (q : Pod) : Shuts q w x := by rw [← hx]; exact .of_same rfl rfl rfl
  have hxtells : Tells [(0xE3, [podByte p, 1, bit8 v, (reasonsAt s (presses s (p.1 + 1)) p).byte,
      bit8 (flag s (presses s (p.1 + 1)))])] u.control x.control := by
    have hreason : (w.allEdge p v).mutes.reasons[p] = reasonsAt s (presses s (p.1 + 1)) p := by
      rw [heffect]
      exact Vec.getElem_tab _ _ p.2
    rw [← hx, ← hcontrol, hreason, heffect]
    exact Tells.key _ (.inl rfl) _
  clear hx
  obtain ⟨hm, hs, hlocal, hshut, htells⟩ := hspec x hxmutes hxsession
  refine ⟨?_, ?_, fun q => ?_, fun q => ?_, ?_⟩
  · rw [hm, hxmutes, hmutes, h.mutes]
    have hrecord : aged s.mutes.allKey[p] (all s p) = { pressed := v, guardAge := 0 } := by rw [hp]; rfl
    simp only [← hrecord, Vec.put_tab_lt fun q => aged s.mutes.allKey[q] (all s q)]
  · rw [hs, hxsession, hsession]
    exact h.roster
  · refine hlocal q _ ?_
    rw [hxramps, hramps]
    exact h.localMute q
  · exact (((h.shuts q).trans (hshuts q)).trans (hxshuts q)).trans (hshut q)
  · rw [take_succ, List.flatMap_append, List.flatMap_singleton, allReports, hp]
    exact h.tells.trans (hxtells.trans htells)

theorem allDone_zero {u₀ : State} (hmutes : u₀.mutes = s.ageKeys.mutes) (hroster : u₀.session.roster = s.session.roster) :
    AllDone s u₀ 0 u₀ := by
  have hpos : 0 < cleared s := by
    unfold cleared
    split <;> decide
  have hpresses : presses s 0 = 0 := rfl
  have hreasons : Vec.tab (reasonsAt s 0) = s.mutes.reasons := Vec.tab_getElem s.mutes.reasons
  refine ⟨?_, hroster, fun p => rfl, fun p => .refl p u₀, .refl _⟩
  simp only [hpresses, flag_zero, listAt, if_pos hpos, hreasons, Nat.not_lt_zero, if_false]
  exact hmutes

/-- A property of the state handed from each turn of a pass to the next. -/
theorem foldl_finRange_induction {α : Type} {n : Nat} {f : α → Fin n → α} (P : Nat → α → Prop) {a : α} (hzero : P 0 a)
    (hstep : ∀ (i : Fin n) (b : α), P i.1 b → P (i.1 + 1) (f b i)) : P n ((List.finRange n).foldl f a) := by
  have hpre (k : Nat) (hk : k ≤ n) : P k (((List.finRange n).take k).foldl f a) := by
    induction k with
    | zero => exact hzero
    | succ k ih =>
      rw [List.take_succ_eq_append_getElem (by rw [List.length_finRange]; omega), List.foldl_append]
      simpa using hstep ⟨k, hk⟩ _ (ih (by omega))
  have hall := hpre n le_rfl
  rwa [List.take_of_length_le (by rw [List.length_finRange])] at hall

/-- R91, R96: the first pass. -/
theorem allDone {keys : TakenKeys} (hkeys : Handed s keys) {u₀ : State} (hmutes : u₀.mutes = s.ageKeys.mutes)
    (hroster : u₀.session.roster = s.session.roster) : AllDone s u₀ 24 (keyPass State.takeAllLevel keys u₀) := by
  rw [keyPass_eq]
  refine foldl_finRange_induction (AllDone s u₀) (allDone_zero hmutes hroster) fun p u h => ?_
  have hrecord : u.mutes.allKey[p] = (s.mutes.allKey[p]).older := by
    rw [h.mutes]
    simp
  obtain ⟨hnone, hsome⟩ := all_turn s hkeys hrecord (by rw [h.mutes])
  cases hp : all s p with
  | none =>
    rw [hnone hp]
    exact h.of_none hp
  | some v =>
    rw [hsome v hp]
    exact h.of_some hp

end

end KeyPass

end Sys2Proof.Machine
end

section
/-! SUPPORT. The second of the two passes over the key levels: TALK edges (R94, R100). -/

namespace Sys2Proof.Machine

namespace KeyPass

section
variable (s : State)

/-! ### What the pass leaves, in the words of the rules -/

/-- The chair-mute flag after the first pass. -/
def on : Bool := flag s (presses s 24)

/-- CHAIR after the first pass. -/
def chair (p : Pod) : Bool := (reasonsAt s (presses s 24) p).chair

/-- R94: KEY after the boundary. -/
def key (p : Pod) : Bool :=
  match s.mutes.keyMode[p], talk s p with
  | _, none => (s.mutes.reasons[p]).key
  | .toggle, some pressed => (s.mutes.reasons[p]).key != (pressed && !chair s p)
  | .pushToTalk, some pressed => !pressed
  | .pushToMute, some pressed => pressed

/-- The reason set after the boundary. -/
def reasons (p : Pod) : Reasons := { reasonsAt s (presses s 24) p with key := key s p }

/-- R100: the talk-request list after a pod's turn. -/
def listed (l : List Pod) (p : Pod) : List Pod :=
  if talk s p = some true ∧ chair s p = true then
    if p ∈ l then l.filter (· ≠ p) else if l.length < 22 then l ++ [p] else l
  else l

/-- The talk-request list after the turns of some pods. -/
def list (pods : List Pod) : List Pod := pods.foldl (listed s) (listAt s (presses s 24))

/-- R109: the report of what a press does to the talk-request list. -/
def pressReport (p : Pod) (l : List Pod) : Byte × List Byte :=
  (0xE4, if p ∈ l then [1, podByte p, u8 (l.filter (· ≠ p)).length]
    else if l.length < 22 then [0, podByte p, u8 (l.length + 1)] else [2, podByte p, u8 l.length])

/-- R108, R109: the KEY reports of a pod in the second pass. -/
def talkReports (p : Pod) : List (Byte × List Byte) :=
  match talk s p with
  | none => []
  | some v =>
    (0xE3, [podByte p, 0, bit8 v, (reasons s p).byte, bit8 (on s)]) ::
      if v = true ∧ chair s p = true then [pressReport p (list s ((List.finRange 24).take p.1))] else []

theorem reasons_of_none {p : Pod} (hp : talk s p = none) : reasons s p = reasonsAt s (presses s 24) p := by
  have hkey : key s p = (reasonsAt s (presses s 24) p).key := by
    rw [key, hp]
    cases s.mutes.keyMode[p] <;> rfl
  rw [reasons, hkey]

theorem list_take_succ (p : Pod) :
    list s ((List.finRange 24).take (p.1 + 1)) = listed s (list s ((List.finRange 24).take p.1)) p := by
  rw [list, take_succ, List.foldl_append]
  rfl

end

/-! ### A TALK edge -/

section
variable {s u : State} {p : Pod} {v : Bool}

/-- R100: a press on a channel that carries CHAIR. -/
theorem talkPress_eq (p : Pod) (u : State) : u.talkPress p =
    { u with mutes := { u.mutes with talkList :=
        if p ∈ u.mutes.talkList then u.mutes.talkList.filter (· ≠ p)
        else if u.mutes.talkList.length < 22 then u.mutes.talkList ++ [p] else u.mutes.talkList } }.reported
      [(.key, pressReport p u.mutes.talkList)] := by
  unfold State.talkPress State.leaveTalkList State.talkReport pressReport
  split
  · rw [filter_bne]
    exact post_eq_reported (.key, 0xE4, _) _
  · split
    · rw [show u.mutes.talkList.length + 1 = (u.mutes.talkList ++ [p]).length by simp]
      exact post_eq_reported (.key, 0xE4, _) _
    · exact post_eq_reported (.key, 0xE4, _) _

/-- R94: KEY as an accepted edge leaves it. -/
theorem talkEdgeKey_eq (hp : talk s p = some v) (hreasons : u.mutes.reasons[p] = reasonsAt s (presses s 24) p)
    (hmode : u.mutes.keyMode = s.mutes.keyMode) : u.talkEdgeKey p v = u.setReasons p (reasons s p) := by
  have hchair : chair s p = (u.mutes.reasons[p]).chair := by rw [hreasons, chair]
  have hkey : (s.mutes.reasons[p]).key = (u.mutes.reasons[p]).key := by rw [hreasons]; rfl
  have hnew : reasons s p = { u.mutes.reasons[p] with key := key s p } := by rw [hreasons]; rfl
  unfold State.talkEdgeKey
  rw [hnew, key, hp, keyFollows_eq, hmode, hchair, hkey]
  cases s.mutes.keyMode[p] with
  | toggle =>
    dsimp only
    split
    · rename_i h
      rw [h, Bool.bne_true]
      rfl
    · rename_i h
      rw [Bool.not_eq_true] at h
      rw [h, Bool.bne_false]
      exact (setReasons_self p u).symm
  | pushToTalk | pushToMute => rfl

/-- The effect of an accepted TALK edge on a state that the pass has reached. -/
theorem talkEdge_spec (hp : talk s p = some v) (hreasons : u.mutes.reasons[p] = reasonsAt s (presses s 24) p)
    (hmode : u.mutes.keyMode = s.mutes.keyMode) :
    (u.talkEdge p v).mutes = { u.mutes with
        reasons := Vec.put u.mutes.reasons p (reasons s p), talkList := listed s u.mutes.talkList p } ∧
      (∀ q : Pod, (u.talkEdge p v).ramps.localMute[q] = if q = p then
        (u.ramps.localMute[p]).muteChange u.mutes.rampLength (reasonsAt s (presses s 24) p) (reasons s p)
        else u.ramps.localMute[q]) ∧
      (∀ q : Pod, Shuts q u (u.talkEdge p v)) ∧
      Tells (if v = true ∧ chair s p = true then [pressReport p u.mutes.talkList] else []) u.control
        (u.talkEdge p v).control := by
  have hchair : (u.mutes.reasons[p]).chair = chair s p := by rw [hreasons, chair]
  have hfault : (reasons s p).fault = (u.mutes.reasons[p]).fault := by rw [hreasons]; rfl
  have hmutes := setReasons_mutes p (reasons s p) u
  have hlocal := setReasons_localMute hfault
  have hshuts := setReasons_shuts hfault
  have htells := setReasons_tells hfault
  rw [hreasons] at hlocal
  rw [State.talkEdge, talkEdgeKey_eq hp hreasons hmode, hchair, talkPress_eq]
  generalize u.setReasons p (reasons s p) = y at hmutes hlocal hshuts htells
  have hlist : y.mutes.talkList = u.mutes.talkList := by rw [hmutes]
  have hcond : (v && chair s p) = true ↔ talk s p = some true ∧ chair s p = true := by
    rw [hp, Bool.and_eq_true, Option.some_inj]
  by_cases h : (v && chair s p) = true
  · rw [if_pos h, if_pos ((Bool.and_eq_true _ _).mp h), hlist]
    refine ⟨?_, hlocal, fun q => (hshuts q).trans (.of_same rfl rfl rfl), htells.trans (Tells.key _ (.inr rfl) _)⟩
    change ({ y.mutes with talkList := _ } : Mutes) = _
    rw [hmutes, listed, if_pos (hcond.1 h)]
  · rw [if_neg h, if_neg (by rw [← Bool.and_eq_true]; exact h), listed, if_neg (by rw [← hcond]; exact h)]
    exact ⟨hmutes, hlocal, hshuts, htells⟩

/-! ### The pass -/

variable (s) in
/-- What the second pass hands from pod to pod. -/
structure TalkDone (u₀ : State) (k : Nat) (u : State) : Prop where
  mutes : u.mutes = { s.mutes with
    chairMute := on s
    talkList := list s ((List.finRange 24).take k)
    reasons := Vec.tab fun p => if p.1 < k then reasons s p else reasonsAt s (presses s 24) p
    talkKey := Vec.tab fun p => if p.1 < k then aged s.mutes.talkKey[p] (talk s p) else (s.mutes.talkKey[p]).older
    allKey := Vec.tab fun p => aged s.mutes.allKey[p] (all s p) }
  localMute : ∀ p : Pod, u.ramps.localMute[p] = if p.1 < k then
      (u₀.ramps.localMute[p]).muteChange s.mutes.rampLength (reasonsAt s (presses s 24) p) (reasons s p)
    else u₀.ramps.localMute[p]
  shuts : ∀ p : Pod, Shuts p u₀ u
  tells : Tells (((List.finRange 24).take k).flatMap (talkReports s)) u₀.control u.control

/-- A pod's turn in the second pass. -/
theorem talk_turn {keys : TakenKeys} (hkeys : Handed s keys) (hrecord : u.mutes.talkKey[p] = (s.mutes.talkKey[p]).older)
    (hguard : u.mutes.keyGuard = s.mutes.keyGuard) :
    (talk s p = none → turn State.takeTalkLevel keys u p = u) ∧
      ∀ v, talk s p = some v → turn State.takeTalkLevel keys u p =
        (u.setTalkKey p { pressed := v, guardAge := 0 }).acceptEdge p false v (State.talkEdge p v) := by
  unfold turn
  have hlevels := hkeys.levels p
  cases hk : keys[p] with
  | none =>
    rw [hk] at hlevels
    exact ⟨fun _ => rfl, fun v hv => by rw [talk, ← hlevels] at hv; cases hv⟩
  | some k =>
    have hfirst := hkeys.first p k (by rw [hk]; rfl)
    rw [hk] at hlevels
    have htalk : talk s p = if (s.mutes.talkKey[p]).older.accepts s.mutes.keyGuard k.talk then some k.talk else none := by
      rw [talk, ← hlevels]
      exact accepted_eq s _ _
    simp only [State.takeTalkLevel, hfirst, Bool.false_eq_true, if_false, hrecord, hguard, htalk]
    split
    · refine ⟨fun h => (by cases h), fun v hv => ?_⟩
      cases hv
      rfl
    · exact ⟨fun _ => rfl, fun v hv => by cases hv⟩

/-- The second pass, one pod further, where no edge is accepted. -/
theorem TalkDone.of_none {u₀ : State} (h : TalkDone s u₀ p.1 u) (hp : talk s p = none) : TalkDone s u₀ (p.1 + 1) u := by
  have hsame {α : Type} {f g : Pod → α} (hfg : f p = g p) : (Vec.tab fun q : Pod => if q.1 < p.1 + 1 then f q else g q) =
      Vec.tab fun q : Pod => if q.1 < p.1 then f q else g q := by
    have hself : (Vec.tab fun q : Pod => if q.1 < p.1 then f q else g q)[p] = f p := by simp [hfg]
    rw [← Vec.put_tab_lt, ← hself, Vec.put_same]
  have hlist : list s ((List.finRange 24).take (p.1 + 1)) = list s ((List.finRange 24).take p.1) := by
    rw [list_take_succ, listed, if_neg (by simp [hp])]
  refine ⟨?_, fun q => ?_, h.shuts, ?_⟩
  · rw [hlist, hsame (reasons_of_none s hp), hsame (f := fun q => aged s.mutes.talkKey[q] (talk s q)) (by rw [hp]; rfl)]
    exact h.mutes
  · rw [h.localMute q]
    by_cases hq : q = p
    · rw [hq, if_neg (Nat.lt_irrefl _), if_pos (Nat.lt_succ_self _), reasons_of_none s hp, Ramp.muteChange_self]
    · have hiff : q.1 < p.1 ↔ q.1 < p.1 + 1 := by
        have hne : q.1 ≠ p.1 := fun e => hq (Fin.ext e)
        omega
      simp only [hiff]
  · rw [take_succ, List.flatMap_append, List.flatMap_singleton, talkReports, hp]
    simpa using h.tells

/-- The second pass, one pod further, where an edge is accepted. -/
theorem TalkDone.of_some {u₀ : State} (h : TalkDone s u₀ p.1 u) (hp : talk s p = some v) :
    TalkDone s u₀ (p.1 + 1)
      ((u.setTalkKey p { pressed := v, guardAge := 0 }).acceptEdge p false v (State.talkEdge p v)) := by
  generalize hw : u.setTalkKey p { pressed := v, guardAge := 0 } = w
  have hmutes : w.mutes = { u.mutes with talkKey := Vec.put u.mutes.talkKey p { pressed := v, guardAge := 0 } } := by
    rw [← hw]
    rfl
  have hramps : w.ramps = u.ramps := by rw [← hw]; rfl
  have hcontrol : w.control = u.control := by rw [← hw]; rfl
  have hshuts (q : Pod) : Shuts q u w := .of_same (by rw [← hw]; rfl) (by rw [hramps]) (by rw [hmutes])
  clear hw
  have hspec (y : State) (hm : y.mutes = w.mutes) := talkEdge_spec (u := y) hp (by rw [hm, hmutes, h.mutes]; simp)
    (by rw [hm, hmutes, h.mutes])
  obtain ⟨heffect, -⟩ := hspec w rfl
  rw [acceptEdge_eq]
  generalize hx : w.reported [(.key, 0xE3, [podByte p, bit8 false, bit8 v,
    ((w.talkEdge p v).mutes.reasons[p]).byte, bit8 (w.talkEdge p v).mutes.chairMute])] = x
  have hxmutes : x.mutes = w.mutes := by rw [← hx]; rfl
  have hxramps : x.ramps = w.ramps := by rw [← hx]; rfl
  have hxshuts (q : Pod) : Shuts q w x := by rw [← hx]; exact .of_same rfl rfl rfl
  have hxtells : Tells [(0xE3, [podByte p, 0, bit8 v, (reasons s p).byte, bit8 (on s)])] u.control x.control := by
    have hreason : (w.talkEdge p v).mutes.reasons[p] = reasons s p := by
      rw [heffect]
      exact Vec.getElem_put_self _ _ _
    have hflag : (w.talkEdge p v).mutes.chairMute = on s := by rw [heffect, hmutes, h.mutes]
    rw [← hx, ← hcontrol, hreason, hflag]
    exact Tells.key _ (.inl rfl) _
  clear hx
  obtain ⟨hm, hlocal, hshut, htells⟩ := hspec x hxmutes
  have hlist : x.mutes.talkList = list s ((List.finRange 24).take p.1) := by rw [hxmutes, hmutes, h.mutes]
  have hrecord : aged s.mutes.talkKey[p] (talk s p) = { pressed := v, guardAge := 0 } := by rw [hp]; rfl
  refine ⟨?_, fun q => ?_, fun q => ?_, ?_⟩
  · rw [hm, hlist, ← list_take_succ, hxmutes, hmutes, h.mutes]
    simp only [← hrecord, Vec.put_tab_lt fun q => aged s.mutes.talkKey[q] (talk s q), Vec.put_tab_lt (reasons s)]
  · have hlength : x.mutes.rampLength = s.mutes.rampLength := by rw [hxmutes, hmutes, h.mutes]
    rw [hlocal, hxramps, hramps, hlength, h.localMute q]
    by_cases hq : q = p
    · rw [if_pos hq, hq, if_pos (Nat.lt_succ_self _), h.localMute p, if_neg (Nat.lt_irrefl _)]
    · have hiff : q.1 < p.1 ↔ q.1 < p.1 + 1 := by
        have hne : q.1 ≠ p.1 := fun e => hq (Fin.ext e)
        omega
      simp only [if_neg hq, hiff]
  · exact (((h.shuts q).trans (hshuts q)).trans (hxshuts q)).trans (hshut q)
  · rw [hlist] at htells
    rw [take_succ, List.flatMap_append, List.flatMap_singleton, talkReports, hp]
    exact h.tells.trans (hxtells.trans htells)

theorem talkDone_zero {w u₀ : State} (h : AllDone s w 24 u₀) : TalkDone s u₀ 0 u₀ := by
  have hturn (p : Pod) : p.1 < 24 := p.2
  refine ⟨?_, fun p => by rw [if_neg (Nat.not_lt_zero _)], fun p => .refl p u₀, .refl _⟩
  rw [h.mutes]
  simp only [hturn, if_true, Nat.not_lt_zero, if_false]
  rfl

/-- R91, R94: the second pass. -/
theorem talkDone {keys : TakenKeys} (hkeys : Handed s keys) {w u₀ : State} (h : AllDone s w 24 u₀) :
    TalkDone s u₀ 24 (keyPass State.takeTalkLevel keys u₀) := by
  rw [keyPass_eq]
  refine foldl_finRange_induction (TalkDone s u₀) (talkDone_zero h) fun p u h => ?_
  have hrecord : u.mutes.talkKey[p] = (s.mutes.talkKey[p]).older := by
    rw [h.mutes]
    simp
  obtain ⟨hnone, hsome⟩ := talk_turn hkeys hrecord (by rw [h.mutes])
  cases hp : talk s p with
  | none =>
    rw [hnone hp]
    exact h.of_none hp
  | some v =>
    rw [hsome v hp]
    exact h.of_some hp

/-- R91: what the mute controller's passes make of a state that has the mutes and the roster of `s`. -/
theorem takeKeys_spec {keys : TakenKeys} (hkeys : Handed s keys) {w : State} (hmutes : w.mutes = s.mutes)
    (hroster : w.session.roster = s.session.roster) :
    (w.ageKeys.takeKeys keys).mutes = { s.mutes with
        chairMute := on s
        talkList := list s (List.finRange 24)
        reasons := Vec.tab (reasons s)
        talkKey := Vec.tab fun p => aged s.mutes.talkKey[p] (talk s p)
        allKey := Vec.tab fun p => aged s.mutes.allKey[p] (all s p) } ∧
      (∀ p : Pod, (w.ageKeys.takeKeys keys).ramps.localMute[p] =
        (muteSteps s (presses s 24) p w.ramps.localMute[p]).muteChange s.mutes.rampLength
          (reasonsAt s (presses s 24) p) (reasons s p)) ∧
      (∀ p : Pod, Shuts p w (w.ageKeys.takeKeys keys)) ∧
      Tells ((List.finRange 24).flatMap (allReports s) ++ (List.finRange 24).flatMap (talkReports s)) w.control
        (w.ageKeys.takeKeys keys).control := by
  have haged : w.ageKeys.mutes = s.ageKeys.mutes := by rw [State.ageKeys, hmutes]; rfl
  have hall := allDone hkeys (u₀ := w.ageKeys) haged hroster
  have htalk := talkDone hkeys hall
  have hturn (p : Pod) : p.1 < 24 := p.2
  have htake : (List.finRange 24).take 24 = List.finRange 24 := List.take_of_length_le (by rw [List.length_finRange])
  rw [State.takeKeys]
  generalize keyPass State.takeAllLevel keys w.ageKeys = u at hall htalk
  generalize keyPass State.takeTalkLevel keys u = v at htalk
  refine ⟨?_, fun p => ?_, fun p => ?_, ?_⟩
  · rw [htalk.mutes]
    simp only [hturn, if_true, htake]
  · rw [htalk.localMute p, if_pos p.2, hall.localMute p]
    rfl
  · have hfirst : Shuts p w w.ageKeys := .of_same rfl rfl rfl
    exact (hfirst.trans (hall.shuts p)).trans (htalk.shuts p)
  · have htold := hall.tells.trans htalk.tells
    rw [htake] at htold
    exact htold

end

end KeyPass

end Sys2Proof.Machine
end

section
/-! SUPPORT. What the automixer's work may make of one gate (R64 to R73): BYPASS is left alone, and so is a muted closed gate;
a gate that comes to be CLOSED has its count at 0. -/

namespace Sys2Proof.Machine

/-- What the automixer's work may make of a gate, muted or not. -/
def GateMay (muted : Bool) (g g' : Gate) : Prop :=
  g' = g ∨ (g.state ≠ .bypass ∧ (muted = true → g.state ≠ .closed) ∧ g'.state ≠ .bypass ∧
    (g'.mode = g.mode ∧ g'.priority = g.priority) ∧ (g'.state = .closed → g'.count = 0))

theorem GateMay.refl (muted : Bool) (g : Gate) : GateMay muted g g := .inl rfl

theorem GateMay.trans {muted : Bool} {g g' g'' : Gate} (h : GateMay muted g g') (k : GateMay muted g' g'') :
    GateMay muted g g'' := by
  rcases h with rfl | ⟨hbypass, hclosed, hnot, ⟨hmode, hpriority⟩, hcount⟩
  · exact k
  · rcases k with rfl | ⟨-, -, kbypass, ⟨kmode, kpriority⟩, kcount⟩
    · exact .inr ⟨hbypass, hclosed, hnot, ⟨hmode, hpriority⟩, hcount⟩
    · exact .inr ⟨hbypass, hclosed, kbypass, ⟨kmode.trans hmode, kpriority.trans hpriority⟩, kcount⟩

/-- An active gate set to another state. -/
theorem GateMay.set {muted : Bool} {g : Gate} {st : GateState} (hg : ¬ g.state.Shut) (hst : st ≠ .bypass) :
    GateMay muted g { g with state := st, count := 0 } :=
  .inr ⟨fun h => hg (.inr h), fun _ h => hg (.inl h), hst, ⟨rfl, rfl⟩, fun _ => rfl⟩

/-- From `s` to `t` every gate goes where the automixer's work may take it. -/
def GatesMay (s t : State) : Prop :=
  t.mutes = s.mutes ∧ ∀ p : Pod, GateMay (s.mutes.reasons[p]).muted (s.gate p) (t.gate p)

theorem GatesMay.trans {s t u : State} (h : GatesMay s t) (k : GatesMay t u) : GatesMay s u := by
  obtain ⟨hmutes, hgates⟩ := h
  obtain ⟨kmutes, kgates⟩ := k
  rw [hmutes] at kgates kmutes
  exact ⟨kmutes, fun p => (hgates p).trans (kgates p)⟩

theorem GatesMay.of_gates {s t : State} (hm : t.mutes = s.mutes) (hg : ∀ p : Pod, t.gate p = s.gate p) : GatesMay s t :=
  ⟨hm, fun p => .inl (hg p)⟩

theorem moveGates_mutes {st : GateState} {c : GateCause} {l : List Pod} (hn : l.Nodup) (s : State) :
    (s.moveGates st c l).mutes = s.mutes := by
  rw [moveGates_eq st c hn]

/-- Active gates moved. -/
theorem moveGates_may {st : GateState} (hst : st ≠ .bypass) (c : GateCause) {l : List Pod} (hn : l.Nodup) {s : State}
    (hl : ∀ p ∈ l, ¬ (s.gate p).state.Shut) : GatesMay s (s.moveGates st c l) := by
  refine ⟨moveGates_mutes hn s, fun p => ?_⟩
  rw [moveGates_gate st c hn]
  split
  · rename_i hp
    exact .set (hl p hp) hst
  · exact .refl _ _

theorem not_shut_of_holder {s : State} {p : Pod} (h : p ∈ s.holders) : ¬ (s.gate p).state.Shut := by
  rw [mem_holders] at h
  rintro (hg | hg) <;> rw [hg] at h <;> cases h

/-! ### The four steps -/

/-- R64 to R68: the judgement of a gate. -/
theorem judge_may (q : AutomixParams) (above : Bool) {eligible muted : Bool} (h : muted = true → eligible = false) (g : Gate) :
    GateMay muted g (g.judge q above eligible).1 := by
  unfold Gate.judge
  cases hg : g.state with
  | closed =>
    cases hopens : above && eligible with
    | false => exact .refl _ _
    | true =>
      have hmuted : muted ≠ true := fun hm => by rw [h hm, Bool.and_false] at hopens; cases hopens
      exact .inr ⟨by rw [hg]; decide, fun hm => absurd hm hmuted, by simp, ⟨rfl, rfl⟩, by simp⟩
  | bypass => exact .refl _ _
  | pending | waiting | opened | hold =>
    cases above
    all_goals simp only [if_true, Bool.false_eq_true, if_false]
    all_goals simp [GateMay, hg]

theorem judgeGate_may (s : State) (p : Pod) : GateMay (s.mutes.reasons[p]).muted (s.gate p) (s.judgeGate p).1 := by
  unfold State.judgeGate
  split
  · exact judge_may _ _ (fun h => by rw [State.eligible, h]; rfl) _
  · exact .refl _ _

theorem step1_may {s : State} (hs : GatesSound s) : GatesMay s s.step1 := by
  obtain ⟨released, hstate, hsorted, hexpired, -, -⟩ := hs.step1_released
  have h : Released s released := ⟨hstate, hsorted.imp fun hlt e => (e ▸ hlt).false, hexpired⟩
  have hmutes : s.step1.mutes = s.mutes := (step1_moves s).frame .mutes (by decide)
  refine ⟨hmutes, fun p => ?_⟩
  rw [h.gate hs]
  split
  · rename_i hp
    refine .set ?_ (by decide)
    rcases hp with hp | hp
    · obtain ⟨-, -, hstate⟩ := (expired_iff p).1 (hexpired p hp)
      rintro (hg | hg) <;> rw [hg] at hstate <;> simp at hstate
    · exact hs.not_shut_of_waits (List.mem_filter.1 hp).1
  · exact judgeGate_may s p

theorem step2_may {s : State} (hs : GatesSound s) : GatesMay s s.step2 := by
  obtain ⟨evicted, heq, hsorted, hholds, -, -⟩ := step2_evicts hs
  have hn : evicted.Nodup := hsorted.imp fun hlt e => (e ▸ hlt).false
  have hlimit : GatesMay s s.takeLimit := by
    rw [takeLimit_eq]
    exact .of_gates rfl fun _ => rfl
  rw [heq]
  refine hlimit.trans (moveGates_may (by decide) _ hn fun p hp => ?_)
  have hshut := not_shut_of_holder (hholds p hp)
  rw [takeLimit_eq]
  exact hshut

theorem step3_may {s : State} (hs : GatesSound s) : GatesMay s s.step3.1 := by
  obtain ⟨granted, heq, hn, hwait, -, -, -⟩ := grant_eq 24 hs
  rw [State.step3, heq]
  exact moveGates_may (by decide) _ hn fun p hp => hs.not_shut_of_waits (hwait p hp)

/-- R70: one request. -/
theorem request_may {s : State} {p : Pod} (hp : (s.gate p).state = .pending) : GatesMay s (s.request p).1 := by
  have hmutes : (s.request p).1.mutes = s.mutes := (request_moves s p).frame .mutes (by decide)
  have hset (st : GateState) (hst : st ≠ .bypass) : GateMay (s.mutes.reasons[p]).muted (s.gate p)
      { s.gate p with state := st, count := 0 } :=
    .set (by rw [hp]; rintro (h | h) <;> cases h) hst
  have hone {t : State} (ht : ∀ q, t.gate q = s.gate q) (st : GateState) (hst : st ≠ .bypass) (q : Pod) :
      GateMay (s.mutes.reasons[q]).muted (s.gate q) (if q = p then { t.gate p with state := st, count := 0 } else t.gate q) := by
    rw [ht, ht]
    split
    · rename_i hq
      rw [hq]
      exact hset st hst
    · exact .refl _ _
  refine ⟨hmutes, fun q => ?_⟩
  unfold State.request
  split
  · rw [openGate_gate]
    exact hone (fun _ => rfl) .opened (by decide) q
  · split
    · rw [enterWait_gate]
      exact hone (fun _ => rfl) .waiting (by decide) q
    · rename_i v hv
      have hholder := victim_mem hv
      split
      · rw [openGate_gate, releaseGate_gate, releaseGate_gate]
        have hpv : p ≠ v := fun e => by
          rw [← e, mem_holders, hp] at hholder
          cases hholder
        rw [if_neg hpv]
        by_cases hq : q = p
        · rw [if_pos hq, hq]
          exact hset .opened (by decide)
        · rw [if_neg hq]
          split
          · rename_i hqv
            rw [hqv]
            exact .set (not_shut_of_holder hholder) (by decide)
          · exact .refl _ _
      · rw [enterWait_gate]
        exact hone (fun _ => rfl) .waiting (by decide) q

theorem requests_may {l : List Pod} {s : State} (hl : l.Nodup) (hp : ∀ p ∈ l, (s.gate p).state = .pending) :
    GatesMay s (State.requests l s).1 := by
  induction l generalizing s with
  | nil => exact .of_gates rfl fun _ => rfl
  | cons p rest ih =>
    obtain ⟨hnot, hrest⟩ := List.nodup_cons.1 hl
    refine (request_may (hp p List.mem_cons_self)).trans (ih hrest fun q hq => ?_)
    have hpending := hp q (List.mem_cons_of_mem p hq)
    rw [request_gate_other (fun h => hnot (by rw [← h]; exact hq)) (by rw [mem_holders, hpending]; decide)]
    exact hpending

theorem step4_may {s : State} (hs : GatesSound s) : GatesMay s s.step4.1 := by
  obtain ⟨due, heq, hperm, -⟩ := due_requests s hs
  rw [heq]
  have hcleared : GatesMay s { s with automixer := { s.automixer with collected := [] } } := .of_gates rfl fun _ => rfl
  refine hcleared.trans (requests_may (hperm.nodup_iff.2 (hs.2.2.2.1.filter _)) fun p hp => ?_)
  exact eq_of_beq (List.mem_filter.1 (hperm.mem_iff.1 hp)).2

/-- The automixer's work on the gates. -/
theorem gatesMoved_may {s : State} (hs : GatesSound s) : GatesMay s s.gatesMoved := by
  have htaken : GatesMay s s.takeAutomixParams := by
    unfold State.takeAutomixParams
    split
    · exact .of_gates rfl fun _ => rfl
    · exact .of_gates rfl fun _ => rfl
  have h0 := takeAutomixParams_keepsGates s hs
  have h1 := step1_keepsGates _ h0
  have h2 := step2_keepsGates _ h1
  have h3 : KeepsGates s.takeAutomixParams.step1.step2 s.takeAutomixParams.step1.step2.step3.1 := grant_keepsGates 24 _
  have htwo := (htaken.trans (step1_may h0)).trans (step2_may h1)
  have hthree := htwo.trans (step3_may h2)
  rw [State.gatesMoved]
  exact hthree.trans (step4_may (h3 h2))

end Sys2Proof.Machine
end

section
/-! SUPPORT. A boundary at which no link changes state (R91): what the works about the mute controller's passes leave alone. -/

namespace Sys2Proof.Machine

/-- `t` has come from `s` with nothing of the mutes touched, and no KEY report posted. -/
structure MutesAside (s t : State) : Prop where
  mutes : t.mutes = s.mutes
  linkParams : t.linkParams = s.linkParams
  roster : t.session.roster = s.session.roster
  localMute : t.ramps.localMute = s.ramps.localMute
  unkeyed : Unkeyed s t

theorem MutesAside.refl (s : State) : MutesAside s s := ⟨rfl, rfl, rfl, rfl, .refl s⟩

theorem MutesAside.trans {s t u : State} (h : MutesAside s t) (k : MutesAside t u) : MutesAside s u :=
  ⟨k.mutes.trans h.mutes, k.linkParams.trans h.linkParams, k.roster.trans h.roster, k.localMute.trans h.localMute,
    h.unkeyed.trans k.unkeyed⟩

theorem MutesAside.of_moves {A : List Part} {s t : State} (h : Moves A s t)
    (hA : .mutes ∉ A ∧ .linkParams ∉ A ∧ .roster ∉ A ∧ .localMuteRamps ∉ A) (hu : Unkeyed s t) : MutesAside s t := by
  obtain ⟨hmutes, hparams, hroster, hramps⟩ := hA
  exact ⟨h.frame .mutes hmutes, h.frame .linkParams hparams, h.frame .roster hroster, h.frame .localMuteRamps hramps, hu⟩

section
variable {s : State} (hsteady : ∀ p : Pod, s.steadyAt p) (before : State) (a : Arrivals) {g : Progress}
include hsteady

/-- A work other than the passes over the key levels. -/
theorem work_aside {w : Work} (hw : w ≠ .keys) (hparams : g.state.linkParams = s.linkParams)
    (hl : ∀ p : Pod, w = .take p → g.state.links[p] = s.links[p]) :
    MutesAside g.state (g.work before a w).state ∧ (w ≠ .automixer → GatesAside g.state (g.work before a w).state) := by
  have hmoves := work_moves before a g w
  cases w with
  | keys => exact absurd rfl hw
  | take p =>
    obtain ⟨hstate, -⟩ := take_of_steady (hsteady p) (hl p rfl) hparams
    rw [work_take, hstate]
    exact ⟨⟨rfl, rfl, rfl, rfl, .of_control rfl⟩, fun _ => ⟨rfl, rfl, rfl, .none⟩⟩
  | automixer =>
    refine ⟨.of_moves hmoves (by simp only [partsOf]; decide) ?_, fun h => absurd rfl h⟩
    rw [work_automixer]
    exact automixerWork_unkeyed g.state
  | player n =>
    refine ⟨.of_moves hmoves (by simp only [partsOf]; decide) ?_, fun _ => .of_moves hmoves (by simp only [partsOf]; decide)⟩
    rw [work_player]
    exact playerWork_unkeyed g.state n _
  | levelControl =>
    refine ⟨.of_moves hmoves (by simp only [partsOf]; decide) ?_, fun _ => .of_moves hmoves (by simp only [partsOf]; decide)⟩
    rw [work_levelControl]
    exact levelControl_unkeyed g.state before
  | session =>
    refine ⟨.of_moves hmoves (by simp only [partsOf]; decide) ?_, fun _ => .of_moves hmoves (by simp only [partsOf]; decide)⟩
    rw [work_session]
    split
    · exact masterArrival_unkeyed g.state
    · exact .refl _

theorem works_aside {l : List Work} (hn : l.Nodup) (hl : .keys ∉ l) (hparams : g.state.linkParams = s.linkParams)
    (hlinks : ∀ p : Pod, Work.take p ∈ l → g.state.links[p] = s.links[p]) :
    MutesAside g.state (l.foldl (Progress.work before a) g).state ∧
      (.automixer ∉ l → GatesAside g.state (l.foldl (Progress.work before a) g).state) := by
  induction l generalizing g with
  | nil => exact ⟨.refl _, fun _ => .refl _⟩
  | cons w rest ih =>
    obtain ⟨hw, hrest⟩ := List.nodup_cons.1 hn
    rw [List.mem_cons, not_or] at hl
    obtain ⟨haside, hgates⟩ := work_aside hsteady before a (Ne.symm hl.1) hparams fun p hp =>
      hlinks p (by rw [hp]; exact List.mem_cons_self)
    obtain ⟨hasides, hgatess⟩ := ih hrest hl.2 (haside.linkParams.trans hparams) fun p hp => by
      have hne : w ≠ .take p := fun he => hw (by rw [he]; exact hp)
      rw [(work_podKept before a g hne).1]
      exact hlinks p (List.mem_cons_of_mem w hp)
    refine ⟨haside.trans hasides, fun hnot => ?_⟩
    rw [List.mem_cons, not_or] at hnot
    exact (hgates (Ne.symm hnot.1)).trans (hgatess hnot.2)

end

/-- R39: the levels that a take has handed over, once it is done. -/
theorem works_handed (before : State) (a : Arrivals) (s : State) {l : List Work} (hn : l.Nodup) (hl : .keys ∉ l) {p : Pod}
    (hp : Work.take p ∈ l) {g : Progress} (hlinks : g.state.links[p] = s.links[p]) (hparams : g.state.linkParams = s.linkParams) :
    (l.foldl (Progress.work before a) g).keys[p] = ((s.links[p]).boundary s.linkParams).2.1.keys := by
  obtain ⟨l₁, l₂, rfl⟩ := List.append_of_mem hp
  rw [List.nodup_middle, List.nodup_cons, List.mem_append, not_or] at hn
  obtain ⟨⟨h₁, h₂⟩, -⟩ := hn
  have hkept := works_podKept before a g l₁ h₁
  have hfirst : (l₁.foldl (Progress.work before a) g).state.linkParams = g.state.linkParams :=
    (works_moves before a g l₁).frame .linkParams (by decide)
  have hlater := works_podKeys (p := p) before a ((l₁.foldl (Progress.work before a) g).take p) (l := l₂) fun w hw =>
    ⟨fun e => h₂ (e ▸ hw), fun e => hl (by rw [← e]; simp [hw])⟩
  rw [List.foldl_append, List.foldl_cons, work_take]
  refine (congrArg Prod.snd hlater).trans ((Vec.getElem_put_self _ _ _).trans ?_)
  rw [State.linkYield, hkept.1, hfirst, hlinks, hparams]

/-- R39: what the boundary's takes hand over at steady links. -/
theorem steadyAt_handed {s : State} {p : Pod} (h : s.steadyAt p) :
    (((s.links[p]).boundary s.linkParams).2.1.keys).map (fun k => (k.talk, k.all)) = s.handedKeys p := by
  unfold State.steadyAt at h
  unfold State.handedKeys
  generalize s.links[p] = l at h
  dsimp only at h
  rcases h with (h | h) | ⟨h, hrun⟩ | ⟨h, hfifo, hfirst, hcount⟩ | ⟨h, hfifo, hfirst⟩ | ⟨h, hfifo, hrun⟩
  · simp [Link.boundary, h, Yield.keys, LinkState.takes]
  · simp [Link.boundary, h, Yield.keys, LinkState.takes]
  · have hno : ¬ s.linkParams.unlockCount ≤ l.nextSilenceRun := Nat.not_le.2 hrun
    simp [Link.boundary, h, Link.acquiringBoundary, hno, Yield.keys, LinkState.takes]
  · obtain ⟨f, rest, hl⟩ := List.exists_cons_of_ne_nil hfifo
    have hno : ¬ s.linkParams.settleFrames ≤ l.settleCounter + 1 := Nat.not_le.2 hcount
    simp [Link.boundary, h, hl, Link.settlingTake, Link.takeOldest, hno, Yield.keys, LinkState.takes]
  · obtain ⟨f, rest, hl⟩ := List.exists_cons_of_ne_nil hfifo
    cases hs : l.state with
    | off | absent | acquiring | settling => rw [hs] at h; cases h
    | locked | coasting => simp [Link.boundary, hs, hl, Yield.keys, LinkState.takes]
  · have hno : ¬ s.linkParams.unlockCount ≤ l.nextCoastRun := Nat.not_le.2 hrun
    rw [Link.boundary_empty _ h hfifo, Link.emptyTake, if_neg hno]
    simp [Yield.keys, hfifo]

/-- The order of a boundary's work: the takes among the works before the mute controller's passes. -/
theorem schedule_about_keys (order : List Work) :
    ∃ l₁ l₂ : List Work, schedule order = l₁ ++ .keys :: l₂ ∧ (.keys ∉ l₁ ∧ .keys ∉ l₂) ∧ (l₁ ++ l₂).Nodup ∧
      (∀ p : Pod, Work.take p ∈ l₁ ∧ Work.take p ∉ l₂) := by
  have hkeys : Work.keys ∈ keepFirst (order ++ defaultOrder) := mem_keepFirst.2 (List.mem_append_right _ (mem_defaultOrder _))
  obtain ⟨l₁, l₂, hsplit, hlate⟩ := deferKeys_split hkeys
  have hnodup := nodup_schedule order
  rw [schedule, hsplit, List.nodup_middle, List.nodup_cons, List.mem_append, not_or] at hnodup
  refine ⟨l₁, l₂, hsplit, hnodup.1, hnodup.2, fun p => ⟨?_, hlate p⟩⟩
  have hmem := mem_schedule (.take p) order
  rw [schedule, hsplit, List.mem_append, List.mem_cons] at hmem
  rcases hmem with h | h | h
  · exact h
  · cases h
  · exact absurd h (hlate p)

end Sys2Proof.Machine
end

section
/-! SUPPORT. The work of a boundary at which no link changes state: the key edges, and the gates about the automixer's work. -/

namespace Sys2Proof.Machine

theorem Shuts.of_aside {p : Pod} {s t : State} (h : GatesAside s t) (hr : t.mutes.reasons = s.mutes.reasons) : Shuts p s t :=
  .of_same h.automixer h.ramps (by rw [hr])

/-- A boundary's key edges done: what is told apart of the state. -/
structure KeyEdgesDone (s u v : State) : Prop where
  mutes : v.mutes = { s.mutes with
    chairMute := KeyPass.on s
    talkList := KeyPass.list s (List.finRange 24)
    reasons := Vec.tab (KeyPass.reasons s)
    talkKey := Vec.tab fun p => KeyPass.aged s.mutes.talkKey[p] (KeyPass.talk s p)
    allKey := Vec.tab fun p => KeyPass.aged s.mutes.allKey[p] (KeyPass.all s p) }
  localMute : ∀ p : Pod, v.ramps.localMute[p] =
    (KeyPass.muteSteps s (KeyPass.presses s 24) p u.ramps.localMute[p]).muteChange s.mutes.rampLength
      (KeyPass.reasonsAt s (KeyPass.presses s 24) p) (KeyPass.reasons s p)
  tells : Tells ((List.finRange 24).flatMap (KeyPass.allReports s) ++ (List.finRange 24).flatMap (KeyPass.talkReports s))
    u.control v.control

/-- The gates about the automixer's work: it finds them as they stood, the keys not yet judged, or as the keys left them. -/
def GatesAbout (s u v : State) : Prop :=
  ∃ x : State, KeepsGates u x ∧ (∀ p : Pod, Shuts p x.automixerWork v) ∧
    ((GatesAside u x ∧ x.mutes.reasons = s.mutes.reasons) ∨ (x.mutes.reasons = v.mutes.reasons ∧ ∀ p : Pod, Shuts p u x))

theorem KeyEdgesDone.about {s u u' v v' : State} (h : KeyEdgesDone s u v) (hu : MutesAside u' u) (hv : MutesAside v v') :
    KeyEdgesDone s u' v' := by
  refine ⟨hv.mutes.trans h.mutes, fun p => ?_, ?_⟩
  · rw [hv.localMute, h.localMute, hu.localMute]
  · have htells := (Tells.of_noKey hu.unkeyed).trans (h.tells.trans (Tells.of_noKey hv.unkeyed))
    rwa [List.append_nil] at htells

theorem automixerWork_mutes (s : State) : s.automixerWork.mutes = s.mutes := (automixerWork_moves s).frame .mutes (by decide)

section
variable {s : State} (hsteady : ∀ p : Pod, s.steadyAt p) (before : State) (a : Arrivals) {g : Progress}
include hsteady

/-- Works among which the automixer's is one, and the mute controller's passes are not. -/
theorem works_about_automixer {l : List Work} (hn : l.Nodup) (hl : .keys ∉ l) (hautomixer : .automixer ∈ l)
    (hparams : g.state.linkParams = s.linkParams) (hlinks : ∀ p : Pod, Work.take p ∈ l → g.state.links[p] = s.links[p]) :
    ∃ x : State, KeepsGates g.state x ∧ GatesAside g.state x ∧ x.mutes = g.state.mutes ∧
      GatesAside x.automixerWork (l.foldl (Progress.work before a) g).state ∧
      (l.foldl (Progress.work before a) g).state.mutes = g.state.mutes := by
  obtain ⟨l₁, l₂, rfl⟩ := List.append_of_mem hautomixer
  rw [List.mem_append, List.mem_cons, not_or, not_or] at hl
  obtain ⟨h₁, -, h₂⟩ := hl
  rw [List.nodup_middle, List.nodup_cons, List.mem_append, not_or] at hn
  obtain ⟨⟨ha₁, ha₂⟩, hn⟩ := hn
  obtain ⟨haside, hgates⟩ := works_aside hsteady before a hn.of_append_left h₁ hparams fun p hp =>
    hlinks p (List.mem_append_left _ hp)
  have hkept (p : Pod) (hp : Work.take p ∉ l₁) := works_podKept before a g l₁ hp
  have hkeeps := works_keepGates before a l₁ g
  rw [List.foldl_append, List.foldl_cons]
  generalize l₁.foldl (Progress.work before a) g = x at haside hgates hkept hkeeps
  have hwork := work_automixer before a x
  have hworkParams : (x.work before a .automixer).state.linkParams = x.state.linkParams :=
    (work_moves before a x .automixer).frame .linkParams (by decide)
  have hworkMutes : (x.work before a .automixer).state.mutes = x.state.mutes :=
    (work_moves before a x .automixer).frame .mutes (by decide)
  obtain ⟨haside', hgates'⟩ := works_aside (g := x.work before a .automixer) hsteady before a hn.of_append_right h₂
    (hworkParams.trans (haside.linkParams.trans hparams)) fun p hp => by
      rw [(work_podKept before a x (by simp)).1, (hkept p fun h => List.disjoint_of_nodup_append hn h hp).1]
      exact hlinks p (List.mem_append_right _ (List.mem_cons_of_mem _ hp))
  rw [hwork] at hgates'
  exact ⟨x.state, hkeeps, hgates ha₁, haside.mutes, hgates' ha₂, haside'.mutes.trans (hworkMutes.trans haside.mutes)⟩

end

/-- R91: the work of a boundary at which no link changes state. -/
theorem worked_of_steady (order : List Work) {s : State} (hsteady : ∀ p : Pod, s.steadyAt p) :
    KeyEdgesDone s s.begun (s.worked order) ∧ GatesAbout s s.begun (s.worked order) := by
  let a := s.closePeriod.ramps.arrivals
  obtain ⟨l₁, l₂, hsched, ⟨h₁, h₂⟩, hn, htakes⟩ := schedule_about_keys order
  have hstart : s.workStart.state = s.begun := rfl
  have hbegun : s.begun.links = s.links ∧ s.begun.linkParams = s.linkParams ∧ s.begun.mutes = s.mutes ∧
      s.begun.session = s.session := by
    rw [begun_eq]
    exact ⟨rfl, rfl, rfl, rfl⟩
  obtain ⟨hlinks, hparams, hmutes, hsession⟩ := hbegun
  rw [← hstart] at hlinks hparams hmutes hsession
  have hfirst (p : Pod) (_ : Work.take p ∈ l₁) : s.workStart.state.links[p] = s.links[p] := by rw [hlinks]
  have hearly := works_aside hsteady s a hn.of_append_left h₁ hparams hfirst
  have hearlyMixer (h : Work.automixer ∈ l₁) :=
    works_about_automixer hsteady s a hn.of_append_left h₁ h hparams hfirst
  have hhanded (p : Pod) : (l₁.foldl (Progress.work s a) s.workStart).keys[p] = ((s.links[p]).boundary s.linkParams).2.1.keys :=
    works_handed s a s hn.of_append_left h₁ (htakes p).1 (by rw [hlinks]) hparams
  have hkeepsEarly := works_keepGates s a l₁ s.workStart
  have hautomixer : Work.automixer ∈ l₁ ∨ Work.automixer ∈ l₂ := by
    have hmem := mem_schedule .automixer order
    rw [hsched, List.mem_append, List.mem_cons] at hmem
    simpa using hmem
  have hboth (h : Work.automixer ∈ l₁) : Work.automixer ∉ l₂ := List.disjoint_of_nodup_append hn h
  rw [worked_eq, hsched, List.foldl_append, List.foldl_cons, ← hstart]
  generalize s.workStart = g₀ at hparams hmutes hsession hearly hearlyMixer hhanded hkeepsEarly
  generalize l₁.foldl (Progress.work s a) g₀ = g₁ at hearly hearlyMixer hhanded hkeepsEarly
  obtain ⟨haside₁, hgates₁⟩ := hearly
  have hkeys : KeyPass.Handed s g₁.keys :=
    { first := fun p k hk => by
        rw [hhanded] at hk
        exact ((steadyAt_boundary (hsteady p)).2 k hk).1
      levels := fun p => by rw [hhanded, steadyAt_handed (hsteady p)] }
  have hpasses := KeyPass.takeKeys_spec hkeys (w := g₁.state) (haside₁.mutes.trans hmutes)
    (haside₁.roster.trans (by rw [hsession]))
  rw [← work_keys s a g₁] at hpasses
  have hkeepsKeys := work_keepsGates s a g₁ .keys
  have hworkParams : (g₁.work s a .keys).state.linkParams = g₁.state.linkParams :=
    (work_moves s a g₁ .keys).frame .linkParams (by decide)
  generalize g₁.work s a .keys = g₂ at hpasses hkeepsKeys hworkParams
  obtain ⟨hkeyMutes, hkeyRamps, hkeyShuts, hkeyTells⟩ := hpasses
  have hlateParams : g₂.state.linkParams = s.linkParams := hworkParams.trans (haside₁.linkParams.trans hparams)
  have hnone (p : Pod) (hp : Work.take p ∈ l₂) : g₂.state.links[p] = s.links[p] := absurd hp (htakes p).2
  obtain ⟨haside₂, hgates₂⟩ := works_aside hsteady s a hn.of_append_right h₂ hlateParams hnone
  refine ⟨KeyEdgesDone.about ⟨hkeyMutes, hkeyRamps, hkeyTells⟩ haside₁ haside₂, ?_⟩
  rcases hautomixer with hin | hin
  · obtain ⟨x, hkeeps, hbefore, hxmutes, hafter, hmutes₁⟩ := hearlyMixer hin
    refine ⟨x, hkeeps, fun p => ?_, .inl ⟨hbefore, by rw [hxmutes, hmutes]⟩⟩
    have hmixed : Shuts p x.automixerWork g₁.state :=
      .of_aside hafter (by rw [hmutes₁, automixerWork_mutes, hxmutes])
    exact (hmixed.trans (hkeyShuts p)).trans (.of_aside (hgates₂ (hboth hin)) (by rw [haside₂.mutes]))
  · obtain ⟨x, hkeeps, hbefore, hxmutes, hafter, hmutes₂⟩ := works_about_automixer hsteady s a hn.of_append_right h₂ hin hlateParams hnone
    refine ⟨x, (hkeepsEarly.trans hkeepsKeys).trans hkeeps, fun p => ?_, .inr ⟨by rw [hmutes₂, hxmutes], fun p => ?_⟩⟩
    · exact .of_aside hafter (by rw [hmutes₂, automixerWork_mutes, hxmutes])
    · have hfirstShuts : Shuts p g₀.state g₁.state := .of_aside (hgates₁ fun h => hboth h hin) (by rw [haside₁.mutes])
      exact (hfirstShuts.trans (hkeyShuts p)).trans (.of_aside hbefore (by rw [hxmutes]))

end Sys2Proof.Machine
end

section
/-! The accepted key edges of a boundary (R73, R87, R91 to R101, R108, R109): O25. -/

namespace Sys2Proof.Machine

/-- R22: a target set over another that is pending, where it is not the last setting already. -/
theorem Ramp.setTarget_setTarget {r : Ramp} {target length : Nat} (h : r.lastSetting ≠ .target target length) (t l : Nat) :
    (r.setTarget t l).setTarget target length = r.setTarget target length := by
  unfold Ramp.setTarget
  by_cases hfirst : r.lastSetting = .target t l
  · rw [if_pos hfirst]
  · rw [if_neg hfirst]
    by_cases hsame : (LastSetting.target t l) = .target target length
    · rw [if_pos (by exact hsame), if_neg h]
      cases hsame
      rfl
    · rw [if_neg (by exact hsame), if_neg h]

theorem Ramp.calledFor_setTarget {r : Ramp} {target length : Nat} (h : r.lastSetting ≠ .target target length)
    (q : AutomixParams) (g : GateState) : (r.calledFor q g).setTarget target length = r.setTarget target length := by
  cases g <;> exact Ramp.setTarget_setTarget h _ _

/-- A closed gate with its count at 0, of the mode and the priority of another. -/
theorem Gate.eq_closed {g g' : Gate} (hmode : g'.mode = g.mode) (hpriority : g'.priority = g.priority)
    (hstate : g'.state = .closed) (hcount : g'.count = 0) : g' = { g with state := .closed, count := 0 } := by
  cases g'
  subst hmode hpriority hstate hcount
  rfl

section
variable {x v : State} {p : Pod}

/-- The gate and the ramp after the automixer's work. -/
theorem automixerWork_gate (x : State) (p : Pod) : (x.automixerWork).gate p = x.gatesMoved.gate p ∧
    x.automixerWork.ramps.gate[p] = gateRampAfter x x.gatesMoved p := by
  obtain ⟨hautomixer, hramps, -⟩ := automixerWork_gates x
  exact ⟨congrArg (fun a : Automixer => a.gates[p]) hautomixer, by rw [hramps]; exact Vec.getElem_tab _ _ p.2⟩

/-- A shut gate of a muted pod, through the automixer's work and what follows it. -/
theorem gate_of_shut_muted (hs : GatesSound x) (hafter : Shuts p x.automixerWork v)
    (hmuted : (x.mutes.reasons[p]).muted = true) (hshut : (x.gate p).state.Shut) :
    v.gate p = x.gate p ∧ (x.automixer.pendingParams = none → v.ramps.gate[p] = x.ramps.gate[p]) := by
  obtain ⟨hgate, hramp⟩ := automixerWork_gate x p
  have hstays : x.gatesMoved.gate p = x.gate p := by
    rcases (gatesMoved_may hs).2 p with h | ⟨hbypass, hclosed, -⟩
    · exact h
    · exact absurd hshut (not_or.2 ⟨hclosed hmuted, hbypass⟩)
  rw [hstays] at hgate
  obtain ⟨-, ⟨hg, hr, -⟩ | ⟨hopen, -⟩⟩ := hafter
  · refine ⟨hg.trans hgate, fun hpending => ?_⟩
    obtain ⟨hparams, -⟩ := gatesMoved_params x
    have hno : ¬ Retargets x x.gatesMoved p := by
      rw [Retargets, hstays, hparams, hpending, Option.getD_none]
      simp
    rw [hr, hramp, gateRampAfter, if_neg hno, gatesMoved_gateRamps]
  · rw [hgate] at hopen
    exact absurd hshut hopen

/-- A gate that the automixer's work finds active, on a pod that is muted after it. -/
theorem gate_of_muted_later (hs : GatesSound x) (hafter : Shuts p x.automixerWork v)
    (hfree : (x.mutes.reasons[p]).muted = false) (hmuted : (v.mutes.reasons[p]).muted = true) :
    ((x.gate p).state = .bypass → v.gate p = x.gate p) ∧ ((x.gate p).state = .closed → (v.gate p).state = .closed) ∧
      (¬ (x.gate p).state.Shut → v.gate p = { x.gate p with state := .closed, count := 0 }) ∧
      (let q := x.automixer.params
       ((x.gate p).state = .opened ∨ (x.gate p).state = .hold) → x.automixer.pendingParams = none →
        (x.ramps.gate[p]).lastSetting ≠ .target (lin15 q.offAttenuation) q.release →
        v.ramps.gate[p] = (x.ramps.gate[p]).setTarget (lin15 q.offAttenuation) q.release) := by
  obtain ⟨hgate, hramp⟩ := automixerWork_gate x p
  obtain ⟨hparams, -⟩ := gatesMoved_params x
  obtain ⟨hautomixer, -⟩ := automixerWork_gates x
  have hmay := (gatesMoved_may hs).2 p
  rw [← hgate, hfree] at hmay
  have hset : x.automixerWork.ramps.gate[p] = if Retargets x x.gatesMoved p then
      (x.ramps.gate[p]).calledFor (x.automixer.pendingParams.getD x.automixer.params) (x.automixerWork.gate p).state
      else x.ramps.gate[p] := by
    rw [hramp, gateRampAfter, gatesMoved_gateRamps]
    exact if_congr Iff.rfl (by rw [hparams, hgate]) rfl
  have hmutes : x.automixerWork.mutes = x.mutes := automixerWork_mutes x
  have hstill : x.automixerWork.automixer.params = x.automixer.pendingParams.getD x.automixer.params := by
    rw [hautomixer, hparams]
  have hretargets (hne : (x.gate p).state ≠ (x.automixerWork.gate p).state) : Retargets x x.gatesMoved p := by
    rw [Retargets, ← hgate, gatesMoved_mutes]
    refine ⟨.inl hne, ?_⟩
    cases hfault : (x.mutes.reasons[p]).fault with
    | false => rfl
    | true => exact absurd (Reasons.muted_of_fault hfault) (ne_true_of_eq_false hfree)
  generalize x.automixerWork = y at hgate hramp hautomixer hmay hset hmutes hstill hretargets hafter
  obtain ⟨-, ⟨hg, hr, hshut⟩ | ⟨hopen, hg, hr⟩⟩ := hafter
  · have hyshut := hshut (by rw [hmutes]; exact hfree) hmuted
    have hclosed (hx : (x.gate p).state ≠ .bypass) : (y.gate p).state = .closed := by
      rcases hmay with h | ⟨-, -, hnot, -⟩
      · rw [h] at hyshut ⊢
        exact hyshut.resolve_right hx
      · exact hyshut.resolve_right hnot
    refine ⟨fun hx => ?_, fun hx => ?_, fun hx => ?_, fun hx hpending hlast => ?_⟩
    · rcases hmay with h | ⟨hnot, -⟩
      · rw [hg, h]
      · exact absurd hx hnot
    · rw [hg]
      exact hclosed (by rw [hx]; decide)
    · have hy := hclosed fun h => hx (.inr h)
      rcases hmay with h | ⟨-, -, -, ⟨hmode, hpriority⟩, hcount⟩
      · rw [h] at hyshut
        exact absurd hyshut hx
      · exact hg.trans (Gate.eq_closed hmode hpriority hy (hcount hy))
    · have hnot : (x.gate p).state ≠ .bypass ∧ (x.gate p).state ≠ .closed := by
        rcases hx with hx | hx <;> rw [hx] <;> decide
      have hy := hclosed hnot.1
      rw [hr, hset, if_pos (hretargets (by rw [hy]; exact hnot.2)), hy, hpending]
      rfl
  · have hkept : { y.gate p with state := .closed, count := 0 } = { x.gate p with state := .closed, count := 0 } := by
      rcases hmay with h | ⟨-, -, -, ⟨hmode, hpriority⟩, -⟩
      · rw [h]
      · exact Gate.eq_closed (g' := { y.gate p with state := .closed, count := 0 }) hmode hpriority rfl rfl
    refine ⟨fun hx => ?_, fun _ => by rw [hg], fun _ => hg.trans hkept, fun hx hpending hlast => ?_⟩
    · rcases hmay with h | ⟨hnot, -⟩
      · rw [h] at hopen
        exact absurd (.inr hx) hopen
      · exact absurd hx hnot
    · rw [hr, hstill, hset, hpending, Option.getD_none]
      split
      · exact Ramp.calledFor_setTarget hlast _ _
      · rfl

end

/-! ### The boundary -/

theorem boundary_localMute (order : List Work) (trunks : Vector Frame 4) (s : State) (p : Pod) :
    (s.boundary order trunks).ramps.localMute[p] = ((s.worked order).ramps.localMute[p]).comeInForce := by
  have hramps : (s.ready order trunks).ramps.localMute = (s.worked order).ramps.localMute :=
    (ready_moves order trunks s).frame .localMuteRamps (by decide)
  rw [boundary_eq, openPeriod_ramps, ← hramps]
  exact Vec.getElem_tab _ _ p.2

/-- R73: the gate of a pod that the key edges of a boundary leave muted. -/
theorem worked_gate_of_muted {s u v : State} (habout : GatesAbout s u v) (hs : GatesSound u)
    (hreasons : u.mutes.reasons = s.mutes.reasons) {p : Pod} (hfree : (s.mutes.reasons[p]).muted = false)
    (hmuted : (v.mutes.reasons[p]).muted = true) :
    ((u.gate p).state = .bypass → v.gate p = u.gate p) ∧ ((u.gate p).state = .closed → (v.gate p).state = .closed) ∧
      (¬ (u.gate p).state.Shut → v.gate p = { u.gate p with state := .closed, count := 0 }) ∧
      ((u.gate p).state = .opened ∨ (u.gate p).state = .hold → u.automixer.pendingParams = none →
        (u.ramps.gate[p]).lastSetting ≠ .target (lin15 u.automixer.params.offAttenuation) u.automixer.params.release →
        v.ramps.gate[p] =
          (u.ramps.gate[p]).setTarget (lin15 u.automixer.params.offAttenuation) u.automixer.params.release) := by
  obtain ⟨x, hkeeps, hafter, ⟨haside, hsame⟩ | ⟨hsame, hbefore⟩⟩ := habout
  · have h := gate_of_muted_later (hkeeps hs) (hafter p) (by rw [hsame]; exact hfree) hmuted
    have hgate : x.gate p = u.gate p := by rw [State.gate, haside.automixer, State.gate]
    rw [hgate, haside.automixer, haside.ramps] at h
    exact h
  · have hxmuted : (x.mutes.reasons[p]).muted = true := by rw [hsame]; exact hmuted
    obtain ⟨⟨-, hpending⟩, hgate⟩ := hbefore p
    have hxshut : (x.gate p).state.Shut := by
      rcases hgate with ⟨hg, -, hshut⟩ | ⟨-, hg, -⟩
      · rw [hg]
        exact hshut (by rw [hreasons]; exact hfree) hxmuted
      · rw [hg]
        exact .inl rfl
    obtain ⟨hstays, hramp⟩ := gate_of_shut_muted (hkeeps hs) (hafter p) hxmuted hxshut
    rcases hgate with ⟨hg, -, -⟩ | ⟨hopen, hg, hr⟩
    · rw [hg] at hstays hxshut
      refine ⟨fun _ => hstays, fun h => by rw [hstays]; exact h, fun h => absurd hxshut h, fun h => ?_⟩
      rcases hxshut with hx | hx <;> rw [hx] at h <;> simp at h
    · refine ⟨fun h => absurd (.inr h) hopen, fun h => absurd (.inl h) hopen, fun _ => hstays.trans hg, fun _ hnone _ => ?_⟩
      rw [hramp (hpending.trans hnone), hr]

namespace KeyPass

/-- A position of the ascending order, and the pods up to it. -/
theorem presses_upTo (s : State) (p : Pod) :
    ((List.finRange 24).filter fun q => decide (q ≤ p) && turns s q).length = presses s (p.1 + 1) := by
  have htake : ∀ p : Pod, (List.finRange 24).filter (fun q => decide (q ≤ p)) = (List.finRange 24).take (p.1 + 1) := by decide
  rw [presses, ← htake, List.filter_filter]
  exact congrArg List.length (List.filter_congr fun q _ => Bool.and_comm _ _)

theorem presses_all (s : State) : ((List.finRange 24).filter (turns s)).length = presses s 24 := by
  rw [presses, List.take_of_length_le (by rw [List.length_finRange])]

end KeyPass

/-- Settles O25. The mute controller's passes find the mutes as they stood (`worked_of_steady`), and what they make of the reason
sets, the records, the list and the reports is handed from pod to pod (`KeyPass.takeKeys_spec`); the automixer's work, before
them or after, leaves a muted gate closed. -/
theorem keyEdgesAtABoundary : Obligations.KeyEdgesAtABoundary := by
  unfold Obligations.KeyEdgesAtABoundary
  intro order trunks s hreset hsteady hsound accepted after talk all turns presses pressesTo
  have hpresses : presses = KeyPass.presses s 24 := KeyPass.presses_all s
  have hpressesTo : pressesTo = fun p => KeyPass.presses s (p.1 + 1) := funext (KeyPass.presses_upTo s)
  clear_value presses pressesTo
  subst hpresses hpressesTo
  intro flag reasonsAt on chair key reasons listed cleared list allReports talkReports reports
  have htalkReports : talkReports = KeyPass.talkReports s := by
    funext p
    cases hp : KeyPass.talk s p with
    | none => simp only [talkReports, show talk p = none from hp, KeyPass.talkReports, hp]
    | some v =>
      have hpress : talkReports p = (0xE3, [podByte p, 0, bit8 v, (reasons p).byte, bit8 on]) ::
          if v = true ∧ chair p = true then
            if p ∈ list ((List.finRange 24).take p.1) then
              [(0xE4, [1, podByte p, u8 ((list ((List.finRange 24).take p.1)).filter (· ≠ p)).length])]
            else if (list ((List.finRange 24).take p.1)).length < 22 then
              [(0xE4, [0, podByte p, u8 ((list ((List.finRange 24).take p.1)).length + 1)])]
            else [(0xE4, [2, podByte p, u8 (list ((List.finRange 24).take p.1)).length])]
          else [] := by
        simp only [talkReports, show talk p = some v from hp]
      have hone (l : List Pod) : (if p ∈ l then [(0xE4, [1, podByte p, u8 (l.filter (· ≠ p)).length])]
          else if l.length < 22 then [(0xE4, [0, podByte p, u8 (l.length + 1)])] else [(0xE4, [2, podByte p, u8 l.length])]) =
          [KeyPass.pressReport p l] := by
        unfold KeyPass.pressReport
        split
        · rfl
        · split <;> rfl
      rw [hpress, hone, KeyPass.talkReports, hp]
      rfl
  have hreports : reports = s.control.heard
      ((List.finRange 24).flatMap (KeyPass.allReports s) ++ (List.finRange 24).flatMap (KeyPass.talkReports s)) := by
    rw [← htalkReports]
    rfl
  obtain ⟨hdone, habout⟩ := worked_of_steady order hsteady
  obtain ⟨led, hmutes⟩ := boundary_mutes order trunks s
  obtain ⟨hautomixer, hgateRamps, -⟩ := boundary_gates order trunks s
  have hlocal := boundary_localMute order trunks s
  have hunkeyed := boundary_unkeyed s order trunks
  have hend := boundary_keepsGates order trunks s hsound
  have hbegun : KeepsGates s s.begun := .of_moves (begun_moves s) (by decide)
  have hgates (p : Pod) := worked_gate_of_muted habout (hbegun hsound) (by rw [begun_eq]) (p := p)
  refine ⟨_, exec_boundary hreset order trunks, ?_⟩
  rw [begun_eq] at hdone hgates
  generalize s.boundary order trunks = t at hmutes hautomixer hgateRamps hlocal hunkeyed hend
  generalize s.worked order = v at hmutes hautomixer hgateRamps hlocal hunkeyed hdone hgates
  clear habout hbegun
  have hramps (r : Ramps) (p : Pod) : (r.map (Ramp.passed s.inForce.isSome)).localMute[p] = (r.localMute[p]).passed s.inForce.isSome ∧
      (r.map (Ramp.passed s.inForce.isSome)).gate[p] = (r.gate[p]).passed s.inForce.isSome :=
    ⟨Vec.getElem_tab _ _ p.2, Vec.getElem_tab _ _ p.2⟩
  have hgate (p : Pod) : t.gate p = v.gate p := by rw [State.gate, hautomixer, State.gate]
  refine ⟨?_, ?_, fun p => ?_⟩
  · rw [hmutes, hdone.mutes]
    rfl
  · intro queued
    have htold := (hdone.tells.trans (Tells.of_noKey hunkeyed)).queued
    rw [List.append_nil, ← hreports] at htold
    exact htold
  · intro ramp gateRamp q
    refine ⟨?_, fun hfree hmuted => ?_⟩
    · rw [hlocal, hdone.localMute, (hramps s.ramps p).1]
      rfl
    · have hreason : v.mutes.reasons[p] = reasons p := by
        rw [hdone.mutes]
        exact Vec.getElem_tab _ _ p.2
      obtain ⟨hbypass, hclosed, hactive, hramp⟩ := hgates p hfree (by rw [hreason]; exact hmuted)
      rw [(hramps s.ramps p).2] at hramp
      refine ⟨fun h => (hgate p).trans (hbypass h), fun h => by rw [hgate]; exact hclosed h, fun hb hc => ?_, fun hlive hnone hlast => ?_⟩
      · have hshut := (hgate p).trans (hactive fun h => h.elim hc hb)
        refine ⟨hshut, fun hwaits => ?_⟩
        rw [hend.2.2.1, hshut] at hwaits
        cases hwaits
      · rw [hgateRamps, hramp hlive hnone hlast]

end Sys2Proof.Machine
end
